-- ==== Sys2Proof/Word.lean ====
section
/-!
DEFINITION. The word types of the Tepral 4820: line bytes, the 16-bit words of table entries, and the
32-bit count of the seconds timebase, with the plainest joins and splits of them.
-/

namespace Sys2Proof

/-- One character of a line frame (R127). -/
abbrev Byte := BitVec 8

/-- One 16-bit word of a table entry (section 11.4). -/
abbrev Word := BitVec 16

/-- A value of the seconds timebase (R18): a 32-bit count that wraps at 2^32. -/
abbrev Uptime := BitVec 32

/-- The 16-bit field whose more significant byte is `hi` (R138: most significant byte first). -/
def joinBytes (hi lo : Byte) : Word := hi ++ lo

/-- The more significant byte of a 16-bit field. -/
def Word.hiByte (w : Word) : Byte := w.extractLsb' 8 8

/-- The less significant byte of a 16-bit field. -/
def Word.loByte (w : Word) : Byte := w.extractLsb' 0 8

end Sys2Proof
end

