-- ==== Sys2Proof/Syntax.lean ====
section
/-!
DEFINITION. The commands the block takes: one constructor per row of spec/opcode_table.json, with the
operands the rows' rules give them. A command is something that reaches the part from outside: power,
the RESET input, the reference clock's seconds, the expiry of a running timer, characters and frames on
the ports, transmitter starts and completions, and the management requests.
-/

namespace Sys2Proof

/-- The three serial ports (section 1.2). -/
inductive Port
  | u | d | m
  deriving DecidableEq, Repr

/-- The two electrical feeders A and B (section 4.4 of the scope). -/
inductive Feeder
  | a | b
  deriving DecidableEq, Repr

/-- Levels of the two rate strap pins (R127); `true` is high. -/
structure Straps where
  rate1 : Bool
  rate0 : Bool
  deriving DecidableEq, Repr

/-- The two phases of a pulse on the RESET input: asserted, and released with the rate straps sampled
at the release (R127, R171). -/
inductive ResetPhase
  | asserted
  | released (straps : Straps)
  deriving DecidableEq, Repr

/-- A frame as received, less its opener, length and check byte, which its other bytes determine (R138). -/
structure Frame where
  dest : Byte
  source : Byte
  kind : Byte
  payload : List Byte
  deriving DecidableEq, Repr

/-- The line part of a management request: the destination and source bytes of the MANAGE frame that
carries it, and the tag that its reply echoes (R138). -/
structure ReqHead where
  dest : Byte
  source : Byte
  tag : Byte
  deriving DecidableEq, Repr

/-- One segment of a TABLE_WRITE: a table id, a first index, a count and the words of that many entries
(R163). -/
structure Segment where
  table : Byte
  first : Byte
  count : Byte
  words : List Word
  deriving DecidableEq, Repr

/-- The commands, one constructor per row of the opcode table, in the table's order. -/
inductive Instr
  /-- POWER_ON (R171). -/
  | powerOn (straps : Straps)
  /-- RESET_INPUT (R171). -/
  | resetInput (phase : ResetPhase)
  /-- SECONDS_STEP (R18). -/
  | secondsStep
  /-- MINUTE_BOUNDARY (R27). -/
  | minuteBoundary
  /-- STALE_ENTRY (R9) of reservoir `r`. -/
  | staleEntry (r : Fin 10)
  /-- START_HISTORY_AGEING (R73, R74) of the pumps of stage `k`. -/
  | startHistoryAgeing (k : Fin 8)
  /-- MIN_RUN_EXPIRY (R68) of pump `p`. -/
  | minRunExpiry (p : Fin 32)
  /-- MIN_REST_EXPIRY (R65) of pump `p`. -/
  | minRestExpiry (p : Fin 32)
  /-- START_CONFIRM_EXPIRY (R72) of pump `p`. -/
  | startConfirmExpiry (p : Fin 32)
  /-- STOP_CONFIRM_EXPIRY (R72) of pump `p`. -/
  | stopConfirmExpiry (p : Fin 32)
  /-- STOP_SPACING_EXPIRY (R86) of stage `k`. -/
  | stopSpacingExpiry (k : Fin 8)
  /-- FEEDER_SPACING_EXPIRY (R103) of feeder `f`. -/
  | feederSpacingExpiry (f : Feeder)
  /-- RETRY_TIMER_EXPIRY (R115) of pump `p`. -/
  | retryTimerExpiry (p : Fin 32)
  /-- PROVING_EXPIRY (R116) of pump `p`. -/
  | provingExpiry (p : Fin 32)
  /-- UPLINE_QUIET_EXPIRY (R137). -/
  | uplineQuietExpiry
  /-- SETTLE_EXPIRY (R169). -/
  | settleExpiry
  /-- CHECK_HOLD_QUIET (R130). -/
  | checkHoldQuiet
  /-- CHARACTER_GAP_TIMEOUT (R128) at the receiver of `port`. -/
  | characterGapTimeout (port : Port)
  /-- CHECK_ERROR (R129) at `port` of a frame whose destination byte, if it was received, is `dest`. -/
  | checkError (port : Port) (dest : Option Byte)
  /-- GOOD_FRAME_ON_U (R131). -/
  | goodFrameOnU (f : Frame)
  /-- GOOD_FRAME_ON_D (R132). -/
  | goodFrameOnD (f : Frame)
  /-- U_TRANSMIT_START (R134). -/
  | uTransmitStart
  /-- U_TRANSMIT_COMPLETE (R134); `straps` are the rate strap levels, sampled if a restart takes effect. -/
  | uTransmitComplete (straps : Straps)
  /-- D_TRANSMIT_START (R135). -/
  | dTransmitStart
  /-- D_TRANSMIT_COMPLETE (R70). -/
  | dTransmitComplete
  /-- M_TRANSMIT_START (R136). -/
  | mTransmitStart
  /-- M_TRANSMIT_COMPLETE (R136). -/
  | mTransmitComplete
  /-- SETTINGS_SAVE_COMPLETE (R170) with the outcome DONE (`done = true`) or FAILED. -/
  | settingsSaveComplete (done : Bool)
  /-- STATUS_READ (R172). -/
  | statusRead (h : ReqHead)
  /-- TABLE_READ (R164). -/
  | tableRead (h : ReqHead) (table first count : Byte) (offset : Word)
  /-- TABLE_WRITE (R165). -/
  | tableWrite (h : ReqHead) (segs : List Segment)
  /-- MODE_SET (R167). -/
  | modeSet (h : ReqHead) (mode : Byte)
  /-- OWNER_SET (R153). -/
  | ownerSet (h : ReqHead) (slot owner : Byte)
  /-- CLOCK_SET (R22). -/
  | clockSet (h : ReqHead) (day : Byte) (minute : Word) (second : Byte)
  /-- NOTICE_ON (R124, R172). -/
  | noticeOn (h : ReqHead) (confirm : Byte)
  /-- NOTICE_OFF (R124, R172). -/
  | noticeOff (h : ReqHead) (confirm : Byte)
  /-- EVENT_CLEAR (R121). -/
  | eventClear (h : ReqHead) (keep : Word)
  /-- TRIP_RESET (R117). -/
  | tripReset (h : ReqHead) (slot : Byte)
  /-- ADDRESS_TAKE (R166). -/
  | addressTake (h : ReqHead)
  /-- ADDRESS_RELEASE (R166). -/
  | addressRelease (h : ReqHead)
  /-- SETTINGS_SAVE (R170). -/
  | settingsSave (h : ReqHead)
  /-- RESTART (R171). -/
  | restart (h : ReqHead)
  /-- UNKNOWN_REQUEST (R162): a MANAGE request with the request code `code` and the argument bytes `args`. -/
  | unknownRequest (h : ReqHead) (code : Byte) (args : List Byte)
  /-- CHARACTER_RECEIVED (R128) on `port`; `stopOk` is false where the stop bit is missing. -/
  | characterReceived (port : Port) (ch : Byte) (stopOk : Bool)
  /-- POWER_LOSS (R170). -/
  | powerLoss
  deriving DecidableEq, Repr

end Sys2Proof
end

