-- ==== Sys2Proof/Decode.lean ====
section
/-!
DEFINITION. The decoding of table words. No row of the opcode table of this block gives bits: a command
reaches the part on its pins, and the bytes of the management requests are read by `parseManage` in
Machine/Operands.lean.
-/

namespace Sys2Proof

/-- The command that a word spells by the table's bits: none, because no row gives any. -/
def decodeTableWord (_nbits _w : Nat) : Option Instr := none

end Sys2Proof
end

