-- ==== Sys2Proof/Config.lean ====
section
/-!
DEFINITION. The free values: what the manual leaves open where the part goes on. Each is an opaque
constant without a body, so that nothing can be proved of its value, and is applied to the counter
`Part.free`, which every use advances.
-/

namespace Sys2Proof.Config

/-- The tag byte of the CHECK_HOLD refusal of a MANAGE request whose payload is too short to hold a tag:
R162 makes that refusal before it tests the payload's length and states no tag for it. FREE VALUE. -/
opaque missingTag : Nat → BitVec 8

/-- Whether the FAULT pin is asserted while the part is without power: not stated. FREE VALUE. -/
opaque unpoweredFault : Nat → Bool

/-- Whether the ALERT pin is active while the part is without power: not stated. FREE VALUE. -/
opaque unpoweredAlert : Nat → Bool

end Sys2Proof.Config
end

