-- ==== Sys2Proof/Machine/State.lean ====
section
/-!
DEFINITION. The state of the Tepral 4820: every settings table (T0 to T9, T14), every live record (T10 to
T13 and the feeder records), the clock, the queues, receivers and transmitters of the line interface, the
events and notices, the modes and the settings store, and the two alarm pins; and beside the part the
queue of commands that wait. All of it is plain data. `State.reset` is the part after the power-on of a
new part, whose settings store is invalid (R170, section 11.9).
-/

namespace Sys2Proof.Machine

/-- No command of this block stops the machine: every command has an effect the manual gives, so that no
meaning raises a fault and the type has no constructor. Safe. -/
inductive Fault
  deriving DecidableEq, Repr

/-- Reasons for which a command has no meaning. -/
inductive Refusal
  /-- Raised by `exec` alone, for a command that has no meaning yet; no arm of it does. Safe. -/
  | notModelled (mnemonic : String)
  deriving DecidableEq, Repr

/-- A timer of R19: idle (`none`), or running with its expiry uptime. -/
abbrev Timer := Option Uptime

/-! ### Settings tables -/

/-- A T0 entry (R140). Its fields hold any 16-bit word, because an unused entry is stored as written. -/
structure PointEntry where
  used : Bool := false
  station : Nat := 1
  point : Nat := 0
  kind : Nat := 0
  target : Nat := 0
  zero : Nat := 0
  span : Nat := 1
  deriving DecidableEq, Repr

/-- Kind of a reservoir (R1). -/
inductive ResKind
  | metered | unmetered
  deriving DecidableEq, Repr

/-- A T1 entry (R1), with the defaults of R3. -/
structure ResEntry where
  enabled : Bool := false
  kind : ResKind := .metered
  fs : Nat := 1000
  la : Nat := 0
  tlb : Nat := 0
  thb : Nat := 0
  ha : Nat := 0
  ah : Nat := 0
  stale : Nat := 10
  rateInterval : Nat := 30
  cr : Nat := 0
  pd : Nat := 0
  deriving DecidableEq, Repr

/-- A T2 entry (R30), with the defaults of R32. -/
structure StageEntry where
  enabled : Bool := false
  delivery : Fin 10 := 1
  suction : Fin 10 := 0
  n : Nat := 1
  maxRunning : Nat := 1
  hb : Nat := 50
  kr : Nat := 0
  pf : Nat := 1000
  sb : Nat := 0
  staleCount : Nat := 0
  spacing : Nat := 0
  deriving DecidableEq, Repr

/-- Ownership of a pump (R152). -/
inductive Ownership
  | auto | manual | outOfService
  deriving DecidableEq, Repr

/-- A T3 entry (R53), with the defaults of R54; the default command point is the slot's own number. -/
structure PumpEntry where
  station : Nat := 1
  point : Nat := 0
  feeder : Feeder := .a
  rating : Nat := 1
  defaultOwner : Ownership := .outOfService
  minRun : Nat := 300
  minRest : Nat := 300
  startConfirm : Nat := 30
  stopConfirm : Nat := 30
  startsPerHour : Nat := 6
  retryLimit : Nat := 0
  retryInterval : Nat := 600
  provingTime : Nat := 600
  tripConfirm : Nat := 1
  fallback : Bool := false
  deriving DecidableEq, Repr

/-- A T4 entry (R93). -/
structure FeederEntry where
  budget : Nat := 0
  spacing : Nat := 30
  deriving DecidableEq, Repr

/-- Tariff classes (R24). -/
inductive TariffClass
  | cheap | normal | peak
  deriving DecidableEq, Repr

/-- A T5 entry (R24). -/
structure WindowEntry where
  used : Bool := false
  dayType : Fin 2 := 0
  start : Nat := 0
  cls : TariffClass := .normal
  deriving DecidableEq, Repr

/-- A T7 entry (R149). Its fields hold any 16-bit word, because an unused entry is stored as written. -/
structure MirrorEntry where
  used : Bool := false
  direction : Nat := 0
  low : Nat := 1
  high : Nat := 1
  base : Nat := 1
  deriving DecidableEq, Repr

/-- A T8 entry (R154). -/
structure SourceEntry where
  used : Bool := false
  address : Nat := 1
  mask : Byte := 0
  deriving DecidableEq, Repr

/-- The T9 entry (R161). -/
structure General where
  service : Nat := 0
  notice : Nat := 0
  classOrder : Nat := 1
  bypassLimit : Nat := 3
  quietTime : Nat := 0
  settleTime : Nat := 120
  autoResume : Bool := false
  alertEnabled : Bool := false
  sourceValidation : Bool := false
  deriving DecidableEq, Repr

/-- The settings tables T0 to T9 and T14, the contents of the settings store (R170). The defaults are
those the owning chapters give for an invalid store. -/
structure Settings where
  t0 : Vector PointEntry 128 := Vector.replicate 128 ({} : PointEntry)
  t1 : Vector ResEntry 10 := Vector.replicate 10 ({} : ResEntry)
  t2 : Vector StageEntry 8 := Vector.replicate 8 ({} : StageEntry)
  t3 : Vector PumpEntry 32 := Vector.ofFn fun i => ({ point := i.val } : PumpEntry)
  t4a : FeederEntry := {}
  t4b : FeederEntry := {}
  t5 : Vector WindowEntry 24 := Vector.replicate 24 ({} : WindowEntry)
  t6 : Vector (Fin 2) 7 := Vector.replicate 7 0
  t7 : Vector MirrorEntry 8 := Vector.replicate 8 ({} : MirrorEntry)
  t8 : Vector SourceEntry 4 := Vector.replicate 4 ({} : SourceEntry)
  t9 : General := {}
  t14 : Vector (BitVec 32) 32 := Vector.replicate 32 0
  deriving DecidableEq, Repr

/-! ### Calendar -/

/-- Uptime, the clock and the held tariff class (R18, R21, R26). -/
structure Calendar where
  uptime : Uptime := 0
  clockSet : Bool := false
  day : Fin 7 := 0
  minute : Nat := 0
  second : Nat := 0
  cls : TariffClass := .normal
  /-- The MODEL's own: the last step was a minute boundary whose class change is not yet taken (R27). -/
  boundaryDue : Bool := false
  deriving DecidableEq, Repr

/-! ### Reservoir live records -/

/-- Level state of a reservoir (R4). -/
inductive ResState
  | unknown | lowAlarm | normal | highAlarm | stale
  deriving DecidableEq, Repr

/-- A T13 record (R4). -/
structure ResLive where
  level : Nat := 0
  state : ResState := .unknown
  rate : Int := 0
  lastGood : Uptime := 0
  sampleLevel : Nat := 0
  sampleTime : Uptime := 0
  /-- The MODEL's own: the last step found the stale time reached and the entry is not yet taken (R9). -/
  staleDue : Bool := false
  deriving DecidableEq, Repr

/-! ### Stage live records -/

/-- Override of a stage (R33). -/
inductive Override
  | none | overflow | dryRun | staleHold | noLevel
  deriving DecidableEq, Repr

/-- Advised action (R50). -/
inductive Advice
  | none | start | stop
  deriving DecidableEq, Repr

/-- Cause of a stage's last evaluation (R35). -/
inductive Cause
  | none | deliveryLevel | deliveryState | suctionLevel | suctionState | classChange | tableWrite
  | clockSet | modeEntry
  deriving DecidableEq, Repr

/-- A T11 record (R33); the stop spacing remaining is formed from the stop spacing timer (R51, R86). -/
structure StageLive where
  d0 : Nat := 0
  d1 : Nat := 0
  d2 : Nat := 0
  d3 : Nat := 0
  w : Nat := 0
  override : Override := .none
  advice : Advice := .none
  adviceSlot : Nat := 0
  shortfall : Bool := false
  cause : Cause := .none
  spacingT : Timer := Option.none
  deriving DecidableEq, Repr

/-! ### Pump live records -/

/-- The ten pump states (R58). -/
inductive PumpState
  | unseen | off | resting | queued | starting | running | stopping | stopFailed | tripped | lockedOut
  deriving DecidableEq, Repr

/-- Last run feedback (R58). -/
inductive Feedback
  | none | stopped | running
  deriving DecidableEq, Repr

/-- Trip causes (R58). -/
inductive TripCause
  | none | starterTrip | noFeedback | lostRun | refused
  deriving DecidableEq, Repr

/-- The actions of a command (R69). -/
inductive Action
  | run | stop
  deriving DecidableEq, Repr

/-- How far a command has gone: awaiting transmission, in transit, or sent (R69). The T10 flags `command in
transit` and `command sent` read the last two. -/
inductive Progress
  | awaiting | inTransit | sent
  deriving DecidableEq, Repr

/-- The command a pump holds. `id` is the MODEL's own: it tells the command from one made pending later,
so that the completion of a frame whose command has been replaced is without effect (R69, R70). -/
structure Command where
  action : Action
  progress : Progress
  id : Nat
  deriving DecidableEq, Repr

/-- A T10 record (R58) with the timers of the pump (R19) and its fault state (R111). The defaults are the
unassigned record of R56 (its ownership is set from T3). -/
structure Pump where
  state : PumpState := .off
  owner : Ownership := .outOfService
  feedback : Feedback := .none
  cause : TripCause := .none
  retries : Nat := 0
  cmd : Option Command := Option.none
  localSel : Bool := false
  warn : Bool := false
  uncommanded : Bool := false
  stopRecorded : Bool := false
  minRunMet : Bool := false
  runStart : Uptime := 0
  stopAt : Uptime := 0
  history : List Uptime := []
  minRunT : Timer := Option.none
  minRestT : Timer := Option.none
  startT : Timer := Option.none
  stopT : Timer := Option.none
  retryT : Timer := Option.none
  provingT : Timer := Option.none
  tripCount : Nat := 0
  tripInd : Bool := false
  deriving DecidableEq, Repr

/-! ### Start queue and feeders -/

/-- Class of a start request (R96). -/
inductive ReqClass
  | recover | normal | precharge
  deriving DecidableEq, Repr

/-- A request of the start queue (R96). -/
structure Request where
  pump : Fin 32
  feeder : Feeder
  cls : ReqClass
  bypass : Nat
  blocking : Bool
  rank : Nat
  deriving DecidableEq, Repr

/-- A live feeder record (R94); the spacing remaining is formed from the spacing timer. -/
structure FeederLive where
  committed : Nat := 0
  busy : Bool := false
  holder : Fin 32 := 0
  released : Bool := false
  spacingT : Timer := Option.none
  /-- The MODEL's own: an event has caused a grant scan of the feeder, not yet taken (R100). -/
  scanDue : Bool := false
  deriving DecidableEq, Repr

/-! ### Events and notices -/

/-- The pending event set, the notified set, the notices enabled flag and the notice slot (R120, R124). -/
structure Events where
  pending : Word := 0
  notified : Word := 0
  on : Bool := false
  waiting : Bool := false
  deriving DecidableEq, Repr

/-! ### The scheduling state -/

/-- The records the Demand Unit, the Pump Sequencer, the Start Arbiter and the Fault Supervisor write. -/
structure Plant where
  pumps : Vector Pump 32 := Vector.replicate 32 ({} : Pump)
  stages : Vector StageLive 8 := Vector.replicate 8 ({} : StageLive)
  queue : List Request := []
  feedA : FeederLive := {}
  feedB : FeederLive := {}
  events : Events := {}
  /-- The MODEL's own: the `id` of the next command made pending. -/
  nextId : Nat := 0
  deriving DecidableEq, Repr

/-! ### Line interface -/

/-- A receiver (R128) with what it holds of the frame under assembly. -/
inductive Rx
  | hunt
  /-- HEADER, with the header bytes held so far (destination, source, kind). -/
  | header (held : List Byte)
  /-- PAYLOAD of `len` bytes, with the payload bytes held so far. -/
  | payload (dest source kind : Byte) (len : Nat) (held : List Byte)
  /-- CHECK: the whole payload is held and the check byte is awaited. -/
  | check (dest source kind : Byte) (held : List Byte)
  deriving DecidableEq, Repr

/-- A reply in the reply queue (R133, R139): its source address is set when it is taken (R134). -/
structure Reply where
  dest : Byte
  status : Byte
  reason : Byte
  tag : Byte
  data : List Byte
  /-- The reply of an accepted RESTART, at whose completion the restart takes effect (R171). -/
  restart : Bool
  deriving DecidableEq, Repr

/-- A frame of the D side, with the pump commands it carries, each named by its slot and its `id`. -/
structure DFrame where
  frame : Frame
  carried : List (Fin 32 × Nat)
  deriving DecidableEq, Repr

/-- What the U transmitter is sending. -/
inductive USending
  | forward (f : Frame)
  | reply (f : Frame) (restart : Bool)
  | notice (f : Frame)
  deriving DecidableEq, Repr

/-- The turn of a transmitter that serves two kinds of traffic: FORWARD, or OWN (U) and COMMAND (D)
(R134, R135). -/
inductive Turn
  | forward | own
  deriving DecidableEq, Repr

/-- The line rates (R127). -/
inductive Rate
  | b9600 | b19200 | b38400 | b57600
  deriving DecidableEq, Repr

/-- The Line Interface (R127 to R137). -/
structure Line where
  rate : Rate := .b9600
  rxU : Rx := .hunt
  rxD : Rx := .hunt
  uQueue : List Frame := []
  dQueue : List DFrame := []
  replyQueue : List Reply := []
  mirrorQueue : List Frame := []
  uTx : Option USending := Option.none
  dTx : Option DFrame := Option.none
  mTx : Option Frame := Option.none
  uTurn : Turn := .forward
  dTurn : Turn := .forward
  pointer : Fin 32 := 31
  checkHold : Bool := false
  quietT : Timer := Option.none
  uplineLost : Bool := false
  deriving DecidableEq, Repr

/-! ### Management unit and settings store -/

/-- Address modes (R166). -/
inductive AddrMode
  | commissioning | service
  deriving DecidableEq, Repr

/-- Operating modes (R167). -/
inductive Mode
  | passive | advisory | settling | active
  deriving DecidableEq, Repr

/-- Store states (R170). -/
inductive StoreState
  | valid | invalid | saving
  deriving DecidableEq, Repr

/-- Last save or load outcome (R170). -/
inductive StoreOutcome
  | none | done | failed | loadFailed
  deriving DecidableEq, Repr

/-- Last mode check (R167). -/
inductive ModeCheck
  | none | passed | inconsistent (check index : Nat)
  deriving DecidableEq, Repr

/-- The settings store medium (R170): its copy of the tables, whether its check word matches them, and the
tables captured by a save in flight. -/
structure Store where
  copy : Settings := {}
  checkMatches : Bool := false
  saving : Option Settings := Option.none
  deriving DecidableEq, Repr

/-- The Management Unit's own state (section 11.1). -/
structure Mgmt where
  addrMode : AddrMode := .commissioning
  mode : Mode := .passive
  store : Store := {}
  storeState : StoreState := .invalid
  outcome : StoreOutcome := .none
  storeInvalid : Bool := false
  lastCheck : ModeCheck := .none
  settleT : Timer := Option.none
  restartPending : Bool := false
  deriving DecidableEq, Repr

/-! ### The part -/

/-- Whether the part works: without power, the RESET input being asserted or not; held by the RESET input; or
running. -/
inductive Power
  | off (resetAsserted : Bool) | held | on
  deriving DecidableEq, Repr

/-- The whole part. -/
structure Part where
  power : Power := .on
  tab : Settings := {}
  cal : Calendar := {}
  levels : Vector ResLive 10 := Vector.replicate 10 ({} : ResLive)
  plant : Plant := {}
  line : Line := {}
  mgmt : Mgmt := {}
  /-- The standing condition summary (R122). -/
  conditions : Word := 0
  /-- The FAULT line is asserted (R123). -/
  fault : Bool := true
  /-- The ALERT line is active (R123). -/
  alert : Bool := false
  /-- The MODEL's own: how many free values have been used. -/
  free : Nat := 0
  deriving DecidableEq, Repr

/-- The part and the commands that wait, first in, first out. -/
structure State where
  part : Part
  pending : List Instr
  deriving DecidableEq, Repr

/-- The part right after the power-on of a new part (section 11.9): the store is invalid, so every table
holds its defaults, SETTINGS is pending, the store-invalid condition (3) stands and FAULT is asserted. -/
def Part.reset : Part :=
  { plant := { events := { pending := 0x8000 } }
    mgmt := { outcome := .loadFailed, storeInvalid := true }
    conditions := 8 }

/-- The machine right after reset (R3, R5, R29, R32, R34, R54, R59, R93, R94, R120, R137, R166, R170, R171),
with no command waiting. -/
def State.reset : State := { part := Part.reset, pending := [] }

end Sys2Proof.Machine
end

