-- ==== Sys2Proof/Machine/Ops.lean ====
section
/-!
DEFINITION. The named operations over records that every block uses: numbers, timers and ages (R19, R20),
slots and assignment (R56), access to pumps, stages and feeders, what the scheduling blocks read of the
rest of the part (`View`), and the selection of records by index.
-/

namespace Sys2Proof.Machine

/-! ### Numbers, timers, ages -/

/-- The nearer limit of `lo..hi` where `v` lies outside it, `v` otherwise (section 4.2). -/
def clamp (lo hi v : Nat) : Nat := if v < lo then lo else if hi < v then hi else v

/-- The same for integers. -/
def clampInt (lo hi v : Int) : Int := if v < lo then lo else if hi < v then hi else v

/-- The age of a stamp (R20): a difference modulo 2^32. -/
def age (now stamp : Uptime) : Nat := (now - stamp).toNat

/-- A timer started at `now` with length `t` (R19). A zero length gives a timer that is due at once: the
rules that start one take its expiry at the end of the same event. -/
def startTimer (now : Uptime) (t : Nat) : Timer := some (now + BitVec.ofNat 32 t)

/-- The present step is the one that brought uptime to the timer's expiry uptime (R19). -/
def due (now : Uptime) (t : Timer) : Bool := t == some now

/-- Seconds until a timer expires; 0 while it is idle (R51, R94). -/
def remaining (now : Uptime) : Timer → Nat
  | none => 0
  | some e => (e - now).toNat

/-! ### Slots, stages and assignment -/

/-- All pump slots, in order. -/
def slots : List (Fin 32) := List.finRange 32

/-- All stages, in order. -/
def stageList : List (Fin 8) := List.finRange 8

/-- All reservoirs, in order. -/
def reservoirList : List (Fin 10) := List.finRange 10

/-- The stage of a pump slot (section 4.4). -/
def stageOf (p : Fin 32) : Fin 8 := ⟨p.val / 4, by omega⟩

/-- The position of a pump slot in its stage (section 4.4). -/
def posOf (p : Fin 32) : Nat := p.val % 4

/-- The slot of position `j` of stage `k` (R30). -/
def slotAt (k : Fin 8) (j : Fin 4) : Fin 32 := ⟨4 * k.val + j.val, by omega⟩

/-- The four slots of a stage, in order of position. -/
def stageSlots (k : Fin 8) : List (Fin 32) := [slotAt k 0, slotAt k 1, slotAt k 2, slotAt k 3]

/-- A slot is assigned when its stage is enabled and its position is below the pump count (R56). -/
def assigned (tab : Settings) (p : Fin 32) : Bool :=
  tab.t2[stageOf p].enabled && decide (posOf p < tab.t2[stageOf p].n)

/-- The assigned slots of a stage, in order of position. -/
def stagePumps (tab : Settings) (k : Fin 8) : List (Fin 32) := (stageSlots k).filter (assigned tab)

/-- The pump slot that a number names, if it names one. -/
def slotOf? (n : Nat) : Option (Fin 32) := if h : n < 32 then some ⟨n, h⟩ else none

/-- The T4 entry of a feeder (R93). -/
def Settings.feeder (tab : Settings) : Feeder → FeederEntry
  | .a => tab.t4a
  | .b => tab.t4b

/-! ### Access to the scheduling records -/

/-- The live record of a slot. -/
def Plant.pump (x : Plant) (p : Fin 32) : Pump := x.pumps[p]

/-- Writes the live record of a slot. -/
def Plant.setPump (x : Plant) (p : Fin 32) (q : Pump) : Plant := { x with pumps := x.pumps.set p q }

/-- The live record of a stage. -/
def Plant.stage (x : Plant) (k : Fin 8) : StageLive := x.stages[k]

/-- Writes the live record of a stage. -/
def Plant.setStage (x : Plant) (k : Fin 8) (l : StageLive) : Plant := { x with stages := x.stages.set k l }

/-- The live record of a feeder. -/
def Plant.feeder (x : Plant) : Feeder → FeederLive
  | .a => x.feedA
  | .b => x.feedB

/-- Writes the live record of a feeder. -/
def Plant.setFeeder (x : Plant) (f : Feeder) (l : FeederLive) : Plant :=
  match f with
  | .a => { x with feedA := l }
  | .b => { x with feedB := l }

/-- A grant scan of the feeder is to follow (R100). -/
def Plant.markScan (x : Plant) (f : Feeder) : Plant := x.setFeeder f { x.feeder f with scanDue := true }

/-! ### What the scheduling blocks read -/

/-- What the Demand Unit, the Pump Sequencer, the Start Arbiter and the Fault Supervisor read of the rest
of the part: the settings, uptime, the operating mode, the held tariff class and the reservoir records. -/
structure View where
  tab : Settings
  now : Uptime
  mode : Mode
  cls : TariffClass
  levels : Vector ResLive 10

/-- The view of a part as it stands. -/
def Part.view (s : Part) : View :=
  { tab := s.tab, now := s.cal.uptime, mode := s.mgmt.mode, cls := s.cal.cls, levels := s.levels }

/-- Runs an operation of the scheduling blocks on the part. It can change their records and nothing else. -/
def Part.onPlant (s : Part) (f : View → Plant → Plant) : Part := { s with plant := f s.view s.plant }

/-- The reservoir record of a part. -/
def Part.setLevel (s : Part) (r : Fin 10) (l : ResLive) : Part := { s with levels := s.levels.set r l }

/-- The part is powered and not held by the RESET input. -/
def Part.up (s : Part) : Bool := s.power == .on

/-! ### Pump record predicates and steps -/

/-- The pump is moved by the part: AUTO and not local-selected (R79). -/
def Pump.isAuto (q : Pump) : Bool := q.owner == .auto && !q.localSel

/-- The pump is AUTO or MANUAL and not local-selected, so that a dry run reaches it (R89). -/
def Pump.reachable (q : Pump) : Bool := q.owner != .outOfService && !q.localSel

/-- The pump holds a command with this action. -/
def Pump.holds (q : Pump) (a : Action) : Bool :=
  match q.cmd with
  | some c => c.action == a
  | none => false

/-- The pump holds a command with this action that is awaiting transmission. -/
def Pump.awaits (q : Pump) (a : Action) : Bool :=
  match q.cmd with
  | some c => c.action == a && c.progress == .awaiting
  | none => false

/-- A pump is committed while UNSEEN, STARTING or STOPPING, or while its last run feedback is RUNNING
(R60). -/
def Pump.committed (q : Pump) : Bool :=
  q.state == .unseen || q.state == .starting || q.state == .stopping || q.feedback == .running

/-- Start-limited: as many starts in the history as the starts-per-hour setting (R73). -/
def startLimited (tab : Settings) (p : Fin 32) (q : Pump) : Bool :=
  decide (tab.t3[p].startsPerHour ≤ q.history.length)

/-- The change of state alone, with the timers that run in one state only: min rest in RESTING (R65),
retry in TRIPPED (R114, R115) and proving in RUNNING (R116). -/
def Pump.goto (q : Pump) (st : PumpState) : Pump :=
  { q with
    state := st
    minRestT := if st = .resting then q.minRestT else none
    retryT := if st = .tripped then q.retryT else none
    provingT := if st = .running then q.provingT else none }

/-- The pump holds no command and no confirm timer runs (R69). -/
def Pump.dropCmd (q : Pump) : Pump := { q with cmd := none, startT := none, stopT := none }

/-- A stop is recorded at the present uptime (R65). -/
def Pump.recordStop (q : Pump) (now : Uptime) : Pump := { q with stopAt := now, stopRecorded := true }

/-- A start history entry at the present uptime, the oldest of twelve making room, and the uptime of run
start (R73). -/
def Pump.recordStart (q : Pump) (now : Uptime) : Pump :=
  { q with history := q.history.drop (q.history.length - 11) ++ [now], runStart := now }

/-- The min run timer is started and min run met is clear (R68). -/
def Pump.startMinRun (q : Pump) (now : Uptime) (e : PumpEntry) : Pump :=
  { q with minRunT := startTimer now e.minRun, minRunMet := false }

/-- Entry to RUNNING: the proving timer is started (R116). -/
def Pump.enterRunning (q : Pump) (now : Uptime) (e : PumpEntry) : Pump :=
  { q.goto .running with provingT := startTimer now e.provingTime }

/-- The record of an unassigned slot (R56, R111). -/
def unassignedPump (e : PumpEntry) : Pump := { owner := e.defaultOwner }

/-- The record of a slot right after a reset or an assignment (R59). -/
def freshPump (e : PumpEntry) : Pump := { state := .unseen, owner := e.defaultOwner }

/-- Makes a command pending on a pump, replacing any held before (R69). -/
def Plant.makePending (x : Plant) (p : Fin 32) (a : Action) (g : Progress) : Plant :=
  { x.setPump p { (x.pump p).dropCmd with cmd := some ⟨a, g, x.nextId⟩ } with nextId := x.nextId + 1 }

/-! ### Choice by an order -/

/-- The first of a list by a strict order: the earliest element that no element is before. -/
def pickFirst {α : Type} (before : α → α → Bool) : List α → Option α
  | [] => none
  | a :: l =>
    match pickFirst before l with
    | none => some a
    | some b => if before b a then some b else some a

end Sys2Proof.Machine
end

