-- ==== Sys2Proof/Machine/Flags.lean ====
section
/-!
DEFINITION. The flags of the Fault Supervisor: the sixteen events and the raising of one (R120, R124), the
nine standing conditions (R122) and the two alarm lines (R123).
-/

namespace Sys2Proof.Machine

/-- The sixteen events of R120, in the order of their numbers. -/
inductive Event
  | lineCheck | forwardDrop | mirrorDrop | foreignSource | commandRefused | levelAlarm | levelStale
  | dryRunStop | overflowStop | pumpTrip | pumpLockout | stopFail | uncommandedRun | shortfall
  | uplineLost | settings
  deriving DecidableEq, Repr

/-- The number of an event (R120). -/
def Event.number : Event → Nat
  | .lineCheck => 0
  | .forwardDrop => 1
  | .mirrorDrop => 2
  | .foreignSource => 3
  | .commandRefused => 4
  | .levelAlarm => 5
  | .levelStale => 6
  | .dryRunStop => 7
  | .overflowStop => 8
  | .pumpTrip => 9
  | .pumpLockout => 10
  | .stopFail => 11
  | .uncommandedRun => 12
  | .shortfall => 13
  | .uplineLost => 14
  | .settings => 15

/-- The set of one event: flag n in bit n (R138). -/
def Event.bit (e : Event) : Word := 1#16 <<< e.number

/-- Raising an event sets its flag; a gain that is not in the notified set places a notice while notices
are enabled (R120, R124). -/
def Events.raise (v : Events) (e : Event) : Events :=
  { v with
    pending := v.pending ||| e.bit
    waiting := v.waiting ||
      (v.on && (v.pending &&& e.bit == 0) && (v.notified &&& e.bit == 0)) }

/-- EVENT_CLEAR: the flags whose keep-mask bit is 0 leave the pending and the notified set (R121). -/
def Events.clear (v : Events) (keep : Word) : Events :=
  { v with pending := v.pending &&& keep, notified := v.notified &&& keep }

/-- Notices become enabled: the notified set is emptied, and a notice is placed if a flag is pending. Where
they are enabled already nothing changes (R124). -/
def Events.enable (v : Events) : Events :=
  if v.on then v
  else { v with on := true, notified := 0, waiting := v.waiting || v.pending != 0 }

/-- Notices are disabled and a WAITING slot becomes EMPTY (R124). -/
def Events.disable (v : Events) : Events := { v with on := false, waiting := false }

/-- Raises an event among the scheduling records. -/
def Plant.raise (x : Plant) (e : Event) : Plant := { x with events := x.events.raise e }

/-- Raises an event in the part. -/
def Part.raise (s : Part) (e : Event) : Part := { s with plant := s.plant.raise e }

/-- Condition 0: an assigned pump is TRIPPED, LOCKED_OUT or STOP_FAILED (R122). -/
def condPumpFault (s : Part) : Bool :=
  slots.any fun p => assigned s.tab p &&
    ((s.plant.pump p).state == .tripped || (s.plant.pump p).state == .lockedOut ||
      (s.plant.pump p).state == .stopFailed)

/-- Condition 1: an enabled stage records DRY_RUN or OVERFLOW (R48, R122). -/
def condStageOverride (s : Part) : Bool :=
  stageList.any fun k => s.tab.t2[k].enabled &&
    ((s.plant.stage k).override == .dryRun || (s.plant.stage k).override == .overflow)

/-- Condition 2: an enabled METERED reservoir is in LOW_ALARM or HIGH_ALARM (R17, R122). -/
def condReservoirAlarm (s : Part) : Bool :=
  reservoirList.any fun r => s.tab.t1[r].enabled && s.tab.t1[r].kind == .metered &&
    (s.levels[r].state == .lowAlarm || s.levels[r].state == .highAlarm)

/-- Condition 3: the store-invalid flag is set (R122, R170). -/
def condStoreInvalid (s : Part) : Bool := s.mgmt.storeInvalid

/-- Condition 4: an enabled METERED reservoir is STALE (R17, R122). -/
def condReservoirStale (s : Part) : Bool :=
  reservoirList.any fun r => s.tab.t1[r].enabled && s.tab.t1[r].kind == .metered &&
    s.levels[r].state == .stale

/-- Condition 5: an assigned pump has its warn flag set (R122). -/
def condPumpWarned (s : Part) : Bool :=
  slots.any fun p => assigned s.tab p && (s.plant.pump p).warn

/-- Condition 6: the upline lost condition of the Line Interface (R122, R137). -/
def condUplineLost (s : Part) : Bool := s.line.uplineLost

/-- Condition 7: an enabled stage has its shortfall flag set (R51, R122). -/
def condShortfall (s : Part) : Bool :=
  stageList.any fun k => s.tab.t2[k].enabled && (s.plant.stage k).shortfall

/-- Condition 8: a feeder's committed power exceeds its budget (R95, R122). -/
def condOverBudget (s : Part) : Bool :=
  decide (s.tab.t4a.budget < s.plant.feedA.committed) || decide (s.tab.t4b.budget < s.plant.feedB.committed)

/-- An actionable condition stands: conditions 0 to 3 (R122). -/
def actionable (s : Part) : Bool :=
  condPumpFault s || condStageOverride s || condReservoirAlarm s || condStoreInvalid s

/-- A report-only condition stands: conditions 4 to 8 (R122). -/
def reportOnly (s : Part) : Bool :=
  condReservoirStale s || condPumpWarned s || condUplineLost s || condShortfall s || condOverBudget s

/-- A flag of a 16-bit set. -/
def flagBit (b : Bool) (n : Nat) : Word := if b then 1#16 <<< n else 0

/-- The standing condition summary: flag n while condition n stands, flags 9..15 clear (R122). -/
def conditionSummary (s : Part) : Word :=
  flagBit (condPumpFault s) 0 ||| flagBit (condStageOverride s) 1 ||| flagBit (condReservoirAlarm s) 2 |||
    flagBit (condStoreInvalid s) 3 ||| flagBit (condReservoirStale s) 4 ||| flagBit (condPumpWarned s) 5 |||
    flagBit (condUplineLost s) 6 ||| flagBit (condShortfall s) 7 ||| flagBit (condOverBudget s) 8

/-- FAULT is asserted: by the actionable conditions where the ALERT line is enabled, by every condition
where it is not (R123). -/
def faultLevel (s : Part) : Bool :=
  if s.tab.t9.alertEnabled then actionable s else actionable s || reportOnly s

/-- ALERT is active: by every condition where it is enabled, never where it is not (R123). -/
def alertLevel (s : Part) : Bool := s.tab.t9.alertEnabled && (actionable s || reportOnly s)

/-- The recomputation of the standing conditions and of the two lines that follow them (R122, R123). -/
def driveLines (s : Part) : Part :=
  { s with conditions := conditionSummary s, fault := faultLevel s, alert := alertLevel s }

end Sys2Proof.Machine
end

