-- ==== Sys2Proof/Machine/Arbiter.lean ====
section
/-!
DEFINITION. The Start Arbiter's records (chapter 6): committed power, the start slot of a feeder, the start
queue with its ranks, entry, withdrawal, escalation and re-sorting. The grant scan is in Machine/Scan.lean.
-/

namespace Sys2Proof.Machine

/-! ### Committed power -/

/-- The slot counts in the committed power of the feeder: assigned, on that feeder and committed (R60,
R95). -/
def countsOn (tab : Settings) (x : Plant) (f : Feeder) (p : Fin 32) : Bool :=
  assigned tab p && tab.t3[p].feeder == f && (x.pump p).committed

/-- The sum of the ratings of a feeder's committed pumps (R95). -/
def committedPower (tab : Settings) (x : Plant) (f : Feeder) : Nat :=
  ((slots.filter (countsOn tab x f)).map fun p => tab.t3[p].rating).sum

/-- The committed power of a feeder is recomputed; a fall causes a grant scan (R95). -/
def recommit (tab : Settings) (f : Feeder) (x : Plant) : Plant :=
  let power := committedPower tab x f
  let l := x.feeder f
  x.setFeeder f { l with committed := power, scanDue := l.scanDue || decide (power < l.committed) }

/-- The committed change of a pump is handed on for its feeder (R60). -/
def handCommitted (tab : Settings) (p : Fin 32) (x : Plant) : Plant := recommit tab tab.t3[p].feeder x

/-! ### The start slot -/

/-- The slot becomes FREE and a scan follows (R103). -/
def FeederLive.release (l : FeederLive) : FeederLive :=
  { l with busy := false, holder := 0, released := false, scanDue := true }

/-- The holder `p` of the slot leaves STARTING (R103). -/
def FeederLive.holderLeaves (l : FeederLive) (p : Fin 32) : FeederLive :=
  if l.busy && l.holder == p && !l.released then
    if l.spacingT.isSome then { l with released := true } else l.release
  else l

/-- Leaving STARTING is handed to the Start Arbiter: the slot the pump holds is the one that granted it,
whichever feeder the pump now names (R55, R103). -/
def leaveStarting (p : Fin 32) (x : Plant) : Plant :=
  { x with feedA := x.feedA.holderLeaves p, feedB := x.feedB.holderLeaves p }

/-- The spacing timer expires (R103). -/
def FeederLive.spacingExpires (l : FeederLive) : FeederLive :=
  if l.busy && l.released then { l.release with spacingT := none } else { l with spacingT := none }

/-- The slot is taken by a grant or a manual RUN, and its spacing starts (R102, R104, R105). -/
def FeederLive.take (l : FeederLive) (p : Fin 32) (now : Uptime) (spacing : Nat) : FeederLive :=
  { l with busy := true, holder := p, released := false, spacingT := startTimer now spacing }

/-! ### The queue -/

/-- The rank of a class under a class order code, 0 the first (R98). -/
def classRank (code : Nat) (c : ReqClass) : Nat :=
  match code, c with
  | 1, .recover => 0
  | 1, .normal => 1
  | 1, .precharge => 2
  | 2, .recover => 0
  | 2, .precharge => 1
  | 2, .normal => 2
  | 3, .normal => 0
  | 3, .recover => 1
  | 3, .precharge => 2
  | 4, .normal => 0
  | 4, .precharge => 1
  | 4, .recover => 2
  | 5, .precharge => 0
  | 5, .recover => 1
  | 5, .normal => 2
  | 6, .precharge => 0
  | 6, .normal => 1
  | 6, .recover => 2
  | _, .recover => 0
  | _, .normal => 1
  | _, .precharge => 2

/-- The requests whose class ranks equal to or above rank `r`, at the head of the queue. -/
def upToRank (code r : Nat) (q : List Request) : List Request := q.takeWhile fun e => classRank code e.cls ≤ r

/-- The requests behind those of `upToRank`. -/
def belowRank (code r : Nat) (q : List Request) : List Request := q.dropWhile fun e => classRank code e.cls ≤ r

/-- Sets requests at the end of the rank of class `c` (R97, R99). -/
def placeAtEnd (code : Nat) (c : ReqClass) (new q : List Request) : List Request :=
  upToRank code (classRank code c) q ++ new ++ belowRank code (classRank code c) q

/-- The request of a pump, if it has one. -/
def requestOf (p : Fin 32) (q : List Request) : Option Request := q.find? fun e => e.pump == p

/-- The queue without the request of a pump: the order of the rest is kept, and every entry rank above its
own is lowered by 1 (R96, R106). -/
def removeRequest (p : Fin 32) (q : List Request) : List Request :=
  match requestOf p q with
  | none => q
  | some r => (q.filter fun e => e.pump != p).map fun e =>
      if r.rank < e.rank then { e with rank := e.rank - 1 } else e

/-- A request leaves the queue without a grant: a scan of its feeder follows (R106). -/
def dequeue (p : Fin 32) (x : Plant) : Plant :=
  match requestOf p x.queue with
  | none => x
  | some r => { x with queue := removeRequest p x.queue }.markScan r.feeder

/-- The class a request takes at its entry (R97). -/
def entryClass (v : View) (p : Fin 32) : ReqClass :=
  let d := v.tab.t2[stageOf p].delivery
  let l := v.levels[d]
  if l.state = .lowAlarm then .recover
  else if v.cls = .cheap ∧ (l.state = .normal ∨ l.state = .highAlarm) ∧ v.tab.t1[d].thb ≤ l.level then .precharge
  else .normal

/-- The request of a pump as it enters the queue (R97). -/
def newRequest (v : View) (p : Fin 32) (x : Plant) : Request :=
  { pump := p, feeder := v.tab.t3[p].feeder, cls := entryClass v p, bypass := 0, blocking := false,
    rank := x.queue.length + 1 }

/-- A request enters the queue at the end of its class rank, and a scan of its feeder follows (R97). -/
def enterRequest (v : View) (p : Fin 32) (x : Plant) : Plant :=
  let r := newRequest v p x
  { x with queue := placeAtEnd v.tab.t9.classOrder r.cls [r] x.queue }.markScan r.feeder

/-- The escalation of reservoir `r` reclasses this request (R99). -/
def escalates (tab : Settings) (r : Fin 10) (e : Request) : Bool :=
  tab.t2[stageOf e.pump].enabled && tab.t2[stageOf e.pump].delivery == r && e.cls != .recover

/-- The low-level escalation of a reservoir: its stages' requests become RECOVER and are set behind the
last request of that class, and each of their feeders is scanned (R16, R99). -/
def escalate (v : View) (r : Fin 10) (x : Plant) : Plant :=
  let moved := (x.queue.filter (escalates v.tab r)).map fun e => { e with cls := .recover }
  let rest := x.queue.filter fun e => !escalates v.tab r e
  let y := { x with queue := placeAtEnd v.tab.t9.classOrder .recover moved rest }
  moved.foldl (fun z e => z.markScan e.feeder) y

/-- The stable re-sort of the queue by the ranks of a class order code (R98). -/
def resort (code : Nat) (q : List Request) : List Request :=
  (q.filter fun e => classRank code e.cls == 0) ++ (q.filter fun e => classRank code e.cls == 1) ++
    (q.filter fun e => classRank code e.cls == 2)

/-- The blocking flags are brought into line with a written bypass limit (R107). -/
def applyBypassLimit (limit : Nat) (q : List Request) : List Request :=
  q.map fun e => { e with blocking := decide (limit ≤ e.bypass) }

end Sys2Proof.Machine
end

