-- ==== Sys2Proof/Machine/Pumps.lean ====
section
/-!
DEFINITION. The pump events that other rules share: the uncommanded run (R62), the rest test (R65), the
stop decision (R68), the clearing of an awaiting command (R71), the taking of a trip (R113, R114) and the
changes of local-select and ownership (R119, R153). None of them hands a stage to reconciliation: the
events that use them do so at their end (R61).
-/

namespace Sys2Proof.Machine

/-- An uncommanded run: a QUEUED pump leaves the queue, the pump is RUNNING with a history entry and min
run started, and UNCOMMANDED_RUN is raised (R62). -/
def uncommandedRun (v : View) (p : Fin 32) (x : Plant) : Plant :=
  let e := v.tab.t3[p]
  let q := x.pump p
  let y := if q.state = .queued then dequeue p x else x
  let q' := (({ q with feedback := .running, uncommanded := true }.enterRunning v.now e).recordStart v.now
    ).startMinRun v.now e
  (handCommitted v.tab p (y.setPump p q')).raise .uncommandedRun

/-- The rest test (R65). -/
def restTest (v : View) (p : Fin 32) (x : Plant) : Plant :=
  let e := v.tab.t3[p]
  let q := x.pump p
  if q.holds .stop then handCommitted v.tab p (x.setPump p (q.goto .stopping))
  else if q.feedback = .running then uncommandedRun v p x
  else if q.stopRecorded ∧ age v.now q.stopAt < e.minRest then
    handCommitted v.tab p
      (x.setPump p { q.goto .resting with minRestT := startTimer v.now (e.minRest - age v.now q.stopAt) })
  else handCommitted v.tab p (x.setPump p (q.goto .off))

/-- A stop decision: the pump is STOPPING with a STOP awaiting transmission, and leaving STARTING is handed
on (R68). -/
def stopDecision (v : View) (p : Fin 32) (x : Plant) : Plant :=
  let y := (x.setPump p ((x.pump p).goto .stopping)).makePending p .stop .awaiting
  handCommitted v.tab p (leaveStarting p y)

/-- A withdrawal: a QUEUED pump goes to OFF and its request leaves the queue (R66, R106). -/
def withdraw (v : View) (p : Fin 32) (x : Plant) : Plant :=
  if (x.pump p).state = .queued then
    handCommitted v.tab p ((dequeue p x).setPump p ((x.pump p).goto .off))
  else x

/-- The clearing of an awaiting RUN: a STARTING pump goes to OFF (R71). -/
def clearAwaitingRun (v : View) (p : Fin 32) (x : Plant) : Plant :=
  if (x.pump p).awaits .run ∧ (x.pump p).state = .starting then
    handCommitted v.tab p (leaveStarting p (x.setPump p ((x.pump p).dropCmd.goto .off)))
  else x

/-- The clearing of an awaiting STOP: a STOPPING pump returns to RUNNING where its feedback says RUNNING,
with its uptime of run start and min run kept, or goes by the rest test; a TRIPPED or LOCKED_OUT pump
keeps its state (R71). The return to RUNNING starts proving (R116). -/
def clearAwaitingStop (v : View) (p : Fin 32) (x : Plant) : Plant :=
  let q := x.pump p
  if q.awaits .stop then
    if q.state = .stopping then
      if q.feedback = .running then
        handCommitted v.tab p (x.setPump p (q.dropCmd.enterRunning v.now v.tab.t3[p]))
      else restTest v p (x.setPump p q.dropCmd)
    else x.setPump p q.dropCmd
  else x

/-- The clearing of an awaiting command (R71). -/
def clearAwaiting (v : View) (p : Fin 32) (x : Plant) : Plant :=
  clearAwaitingStop v p (clearAwaitingRun v p x)

/-- A trip is taken (R114). -/
def takeTrip (v : View) (p : Fin 32) (c : TripCause) (x : Plant) : Plant :=
  let e := v.tab.t3[p]
  let q := x.pump p
  if q.state = .tripped ∨ q.state = .lockedOut ∨ q.state = .unseen then x.setPump p { q with cause := c }
  else
    let y := if q.state = .queued then dequeue p x else x
    let q1 := { (if q.holds .run then q.dropCmd else q) with cause := c }
    if e.retryLimit ≤ q.retries then
      (handCommitted v.tab p (leaveStarting p (y.setPump p (q1.goto .lockedOut)))).raise .pumpLockout
    else
      let q2 := { q1.goto .tripped with retries := q.retries + 1, retryT := startTimer v.now e.retryInterval }
      (handCommitted v.tab p (leaveStarting p (y.setPump p q2))).raise .pumpTrip

/-- NO_FEEDBACK: the RUN is cleared, a STOP is made pending unless the pump is local-selected or
OUT_OF_SERVICE, and the trip is taken (R72, R113). -/
def noFeedbackTrip (v : View) (p : Fin 32) (x : Plant) : Plant :=
  let q := x.pump p
  let y := x.setPump p q.dropCmd
  let z := if q.reachable then y.makePending p .stop .awaiting else y
  takeTrip v p .noFeedback z

/-- A pump that has left UNSEEN while its trip indication stands takes a STARTER_TRIP (R113). -/
def tripIfIndicated (v : View) (p : Fin 32) (x : Plant) : Plant :=
  if (x.pump p).tripInd then takeTrip v p .starterTrip x else x

/-- Local-select is set: a QUEUED pump leaves the queue and an awaiting command is cleared (R119). -/
def setLocalSelect (v : View) (p : Fin 32) (x : Plant) : Plant :=
  clearAwaiting v p (withdraw v p (x.setPump p { x.pump p with localSel := true }))

/-- The change of a pump's ownership with its effects on the record (R153). -/
def changeOwner (v : View) (p : Fin 32) (o : Ownership) (x : Plant) : Plant :=
  let old := (x.pump p).owner
  let y := x.setPump p { x.pump p with owner := o }
  if old = .auto then clearAwaiting v p (withdraw v p y)
  else if old = .manual ∧ o = .outOfService then clearAwaiting v p y
  else y

end Sys2Proof.Machine
end

