-- ==== Sys2Proof/Machine/Reconcile.lean ====
section
/-!
DEFINITION. Stage reconciliation (chapter 5): the counts, the choices of a pump to start, withdraw or stop,
the handling under each override, the advice of ADVISORY mode, and the reconciliation as an event.
-/

namespace Sys2Proof.Machine

/-! ### Counts (R79) -/

/-- R_other: the non-AUTO pumps whose last run feedback is RUNNING or whose state is STARTING. -/
def rOther (v : View) (k : Fin 8) (x : Plant) : Nat :=
  ((stagePumps v.tab k).filter fun p =>
    !(x.pump p).isAuto && ((x.pump p).feedback == .running || (x.pump p).state == .starting)).length

/-- A pump that counts in C: AUTO, not local-selected, QUEUED, STARTING, RUNNING or STOP_FAILED. -/
def Pump.counts (q : Pump) : Bool :=
  q.isAuto && (q.state == .queued || q.state == .starting || q.state == .running || q.state == .stopFailed)

/-- C: the AUTO pumps that count toward A. -/
def cCount (v : View) (k : Fin 8) (x : Plant) : Nat :=
  ((stagePumps v.tab k).filter fun p => (x.pump p).counts).length

/-- A: the AUTO pumps the stage still needs; 0 under OVERFLOW (R79, R88). -/
def aCount (v : View) (k : Fin 8) (x : Plant) : Nat :=
  if (x.stage k).override = .overflow then 0 else (x.stage k).w - rOther v k x

/-! ### Starts (R81, R82) -/

/-- Eligible for a start (R81). -/
def eligible (v : View) (x : Plant) (p : Fin 32) : Bool :=
  (x.pump p).isAuto && (x.pump p).state == .off && !startLimited v.tab p (x.pump p)

/-- The order of start selection: not warned before warned, then the lower run seconds; equal pumps keep
the order of position (R82). -/
def startsBefore (v : View) (x : Plant) (p p' : Fin 32) : Bool :=
  if (x.pump p).warn = (x.pump p').warn then decide (v.tab.t14[p].toNat < v.tab.t14[p'].toNat)
  else !(x.pump p).warn

/-- The pump that reconciliation would enqueue (R82). -/
def startChoice (v : View) (k : Fin 8) (x : Plant) : Option (Fin 32) :=
  pickFirst (startsBefore v x) ((stagePumps v.tab k).filter (eligible v x))

/-- A pump goes from OFF to QUEUED and its request is entered (R66, R82, R97). -/
def enqueue (v : View) (p : Fin 32) (x : Plant) : Plant :=
  handCommitted v.tab p (enterRequest v p (x.setPump p ((x.pump p).goto .queued)))

/-- Enqueues up to `n` pumps, one at a time (R82). -/
def enqueueUpTo (v : View) (k : Fin 8) : Nat → Plant → Plant
  | 0, x => x
  | n + 1, x =>
    match startChoice v k x with
    | none => x
    | some p => enqueueUpTo v k n (enqueue v p x)

/-! ### Reductions (R84, R85) -/

/-- The request of the stage that entered the queue last (R84). -/
def latestRequest (k : Fin 8) (q : List Request) : Option Request :=
  pickFirst (fun e e' => decide (e'.rank < e.rank)) (q.filter fun e => stageOf e.pump == k)

/-- Withdraws up to `n` QUEUED pumps of the stage, the latest entered first (R84). -/
def withdrawUpTo (v : View) (k : Fin 8) : Nat → Plant → Plant
  | 0, x => x
  | n + 1, x =>
    match latestRequest k x.queue with
    | none => x
    | some e => withdrawUpTo v k n (withdraw v e.pump x)

/-- A candidate for a stop: AUTO, not local-selected, RUNNING, and with min run met unless the override is
OVERFLOW (R85, R88). -/
def stopCandidate (k : Fin 8) (x : Plant) (p : Fin 32) : Bool :=
  (x.pump p).isAuto && (x.pump p).state == .running &&
    ((x.pump p).minRunMet || (x.stage k).override == .overflow)

/-- The order of stop selection: warned before not warned, then the greater age of the uptime of run start;
equal pumps keep the order of position (R85). -/
def stopsBefore (v : View) (x : Plant) (p p' : Fin 32) : Bool :=
  if (x.pump p).warn = (x.pump p').warn then
    decide (age v.now (x.pump p').runStart < age v.now (x.pump p).runStart)
  else (x.pump p).warn

/-- The pump that a demand or OVERFLOW stop would take, if the stop spacing timer is idle (R85, R88). -/
def stopChoice (v : View) (k : Fin 8) (x : Plant) : Option (Fin 32) :=
  if (x.stage k).spacingT = none then
    pickFirst (stopsBefore v x) ((stagePumps v.tab k).filter (stopCandidate k x))
  else none

/-- One demand or OVERFLOW stop, with the stop spacing timer started. A spacing of 0 leaves the timer idle,
its expiry being taken at the end of the reconciliation (R85, R86, R88). -/
def spacedStop (v : View) (k : Fin 8) (p : Fin 32) (x : Plant) : Plant :=
  let y := stopDecision v p x
  let spacing := v.tab.t2[k].spacing
  if spacing = 0 then y
  else y.setStage k { y.stage k with spacingT := startTimer v.now spacing }

/-! ### Dry run (R89) -/

/-- A DRY_RUN stop decision is made for this pump (R89). -/
def dryRunStops (q : Pump) : Bool :=
  q.reachable && (q.state == .running || (q.state == .starting && !q.awaits .run))

/-- The action of R89 on one pump. -/
def dryRunPump (v : View) (x : Plant) (p : Fin 32) : Plant :=
  let q := x.pump p
  if q.state = .queued then withdraw v p x
  else if q.state = .starting ∧ q.awaits .run then clearAwaitingRun v p x
  else if dryRunStops q then stopDecision v p x
  else x

/-- The dry-run reconciliation: every pump of the stage, in order of position (R89). -/
def dryRun (v : View) (k : Fin 8) (x : Plant) : Plant := (stagePumps v.tab k).foldl (dryRunPump v) x

/-! ### The reconciliation (R76, R78, R80, R83) -/

/-- The shortfall flag is written, and SHORTFALL raised where it goes from clear to set (R83). -/
def writeShortfall (k : Fin 8) (short : Bool) (x : Plant) : Plant :=
  let y := x.setStage k { x.stage k with shortfall := short }
  if short && !(x.stage k).shortfall then y.raise .shortfall else y

/-- The advised fields are written (R50, R90). -/
def writeAdvice (k : Fin 8) (a : Advice) (n : Nat) (x : Plant) : Plant :=
  x.setStage k { x.stage k with advice := a, adviceSlot := n }

/-- The decisions of one reconciliation in ACTIVE mode, ordinary or OVERFLOW (R82, R84, R85, R88), and
whether a stop with a spacing of 0 was decided. -/
def ordinaryDecisions (v : View) (k : Fin 8) (x : Plant) : Plant × Bool :=
  let a := aCount v k x
  let c := cCount v k x
  if c < a then (enqueueUpTo v k (a - c) x, false)
  else
    let y := withdrawUpTo v k (c - a) x
    if a < cCount v k y then
      match stopChoice v k y with
      | none => (y, false)
      | some p => (spacedStop v k p y, v.tab.t2[k].spacing == 0)
    else (y, false)

/-- One reconciliation in ACTIVE mode (R76, R80, R83). -/
def reconcileActive (v : View) (k : Fin 8) (x : Plant) : Plant × Bool :=
  if (x.stage k).override = .dryRun then
    (writeAdvice k .none 0 (writeShortfall k false (dryRun v k x)), false)
  else
    let r := ordinaryDecisions v k x
    (writeAdvice k .none 0 (writeShortfall k (decide (cCount v k r.1 < aCount v k r.1)) r.1), r.2)

/-- A reconciliation in ACTIVE mode and those that the zero-length expiries it causes hand on (R86). Each of
these stops one of the four pumps of the stage, so that five suffice. -/
def reconcileLoop (v : View) (k : Fin 8) : Nat → Plant → Plant
  | 0, x => x
  | n + 1, x =>
    let r := reconcileActive v k x
    if r.2 then reconcileLoop v k n r.1 else r.1

/-- The advice of a reconciliation in ADVISORY mode: the first decision it would make in ACTIVE (R90). -/
def advise (v : View) (k : Fin 8) (x : Plant) : Advice × Nat :=
  if (x.stage k).override = .dryRun then
    match (stagePumps v.tab k).find? fun p => dryRunStops (x.pump p) with
    | some p => (.stop, p.val)
    | none => (.none, 0)
  else if cCount v k x < aCount v k x then
    match startChoice v k x with
    | some p => (.start, p.val)
    | none => (.none, 0)
  else if aCount v k x < cCount v k x then
    match stopChoice v k x with
    | some p => (.stop, p.val)
    | none => (.none, 0)
  else (.none, 0)

/-- The shortfall of a reconciliation in ADVISORY mode, with C as the enqueues of ACTIVE would leave it
(R83). -/
def advisedShortfall (v : View) (k : Fin 8) (x : Plant) : Bool :=
  (x.stage k).override != .dryRun &&
    decide (cCount v k x + ((stagePumps v.tab k).filter (eligible v x)).length < aCount v k x)

/-- One reconciliation in ADVISORY mode: the shortfall flag and the advice, and nothing else (R78, R90). -/
def reconcileAdvisory (v : View) (k : Fin 8) (x : Plant) : Plant :=
  let r := advise v k x
  writeAdvice k r.1 r.2 (writeShortfall k (advisedShortfall v k x) x)

/-- A reconciliation of a stage: nothing where the stage is not enabled (R76), and by the operating mode
otherwise (R78). -/
def reconcile (v : View) (k : Fin 8) (x : Plant) : Plant :=
  if v.tab.t2[k].enabled then
    match v.mode with
    | .active => reconcileLoop v k 5 x
    | .advisory => reconcileAdvisory v k x
    | .passive => x
    | .settling => x
  else x

/-- Each stage of a list is reconciled once. -/
def reconcileAll (v : View) (ks : List (Fin 8)) (x : Plant) : Plant := ks.foldl (fun y k => reconcile v k y) x

/-- The min run timer of a pump expires: min run met is set, and the stage of a RUNNING pump is reconciled
(R68). -/
def minRunExpires (v : View) (p : Fin 32) (x : Plant) : Plant :=
  let q := x.pump p
  let y := x.setPump p { q with minRunT := none, minRunMet := true }
  if q.state = .running then reconcile v (stageOf p) y else y

/-- The end of an event of a pump whose state, ownership or local-select changed: its stage is reconciled
(R61 step 4), and a min run of zero length started by the event expires (R19, R68). -/
def finishPump (v : View) (p : Fin 32) (x : Plant) : Plant :=
  let y := reconcile v (stageOf p) x
  if v.tab.t3[p].minRun = 0 ∧ due v.now (y.pump p).minRunT then minRunExpires v p y else y

/-- The stages of some pumps, each once and in order. -/
def stagesOf (ps : List (Fin 32)) : List (Fin 8) := stageList.filter fun k => ps.any fun p => stageOf p == k

end Sys2Proof.Machine
end

