-- ==== Sys2Proof/Machine/Scan.lean ====
section
/-!
DEFINITION. The grant scan of a feeder and the grant (R100 to R102), and the taking of the scans that an
event has caused, which follow it (R100).
-/

namespace Sys2Proof.Machine

/-- The request fits the feeder's budget (R101). -/
def fits (v : View) (f : Feeder) (x : Plant) (e : Request) : Bool :=
  decide ((x.feeder f).committed + v.tab.t3[e.pump].rating ≤ (v.tab.feeder f).budget)

/-- The walk of a scan over the requests of one feeder, in queue order: the pumps passed over, and the
request granted if one is (R101). -/
def walk (v : View) (f : Feeder) (x : Plant) : List Request → List (Fin 32) × Option Request
  | [] => ([], none)
  | e :: rest =>
    if e.feeder ≠ f then walk v f x rest
    else if fits v f x e then ([], some e)
    else if e.blocking then ([], none)
    else
      let r := walk v f x rest
      (e.pump :: r.1, r.2)

/-- A request passed over by a grant gains 1 on its bypass count, and becomes blocking at the bypass limit
(R101). -/
def passOver (limit : Nat) (ps : List (Fin 32)) (e : Request) : Request :=
  if e.pump ∈ ps then
    { e with bypass := e.bypass + 1, blocking := e.blocking || decide (limit ≤ e.bypass + 1) }
  else e

/-- The grant of a request of feeder `f`, in one event (R67, R102). -/
def grant (v : View) (f : Feeder) (p : Fin 32) (x : Plant) : Plant :=
  let y := { x with queue := removeRequest p x.queue }
  let z := (y.setPump p { (y.pump p).goto .starting with uncommanded := false }).makePending p .run .awaiting
  handCommitted v.tab p (z.setFeeder f ((z.feeder f).take p v.now (v.tab.feeder f).spacing))

/-- One grant scan of a feeder: it ends at once where the slot is BUSY, and grants at most one request; the
stage of a granted pump is reconciled (R100 to R102, R61). -/
def scan (v : View) (f : Feeder) (x : Plant) : Plant :=
  let y := x.setFeeder f { x.feeder f with scanDue := false }
  if (y.feeder f).busy then y
  else
    match walk v f y y.queue with
    | (_, none) => y
    | (passed, some e) =>
      finishPump v e.pump
        (grant v f e.pump { y with queue := y.queue.map (passOver v.tab.t9.bypassLimit passed) })

/-- Takes the scans that are due, feeder A before feeder B, until none is; `n` bounds their number. -/
def settleScans (v : View) : Nat → Plant → Plant
  | 0, x => x
  | n + 1, x =>
    if x.feedA.scanDue then settleScans v n (scan v .a x)
    else if x.feedB.scanDue then settleScans v n (scan v .b x)
    else x

/-- The scans that an event has caused are taken after it (R100). At most two grants can follow, one for
each feeder, and each can cause further scans: sixteen scans are more than can be due. -/
def settle (v : View) (x : Plant) : Plant := settleScans v 16 x

end Sys2Proof.Machine
end

