-- ==== Sys2Proof/Machine/PumpEvents.lean ====
section
/-!
DEFINITION. The events of one pump: run feedback (R62 to R64), TRIP, WARN and LOCAL_SELECT reports (R112,
R119), refusal by the outstation (R113, R148), the expiries of its timers (R65, R68, R72, R115, R116), the
ageing of its start history (R73, R74), TRIP_RESET (R117), and the changes of ownership (R153, R159).
-/

namespace Sys2Proof.Machine

/-! ### Run feedback -/

/-- Running feedback for an assigned pump, by its state (R62 to R64). -/
def feedbackRunning (v : View) (p : Fin 32) (x : Plant) : Plant :=
  let e := v.tab.t3[p]
  let q := x.pump p
  match q.state with
  | .unseen =>
    tripIfIndicated v p (handCommitted v.tab p
      (x.setPump p { q.enterRunning v.now e with feedback := .running, minRunMet := true, runStart := v.now }))
  | .off => uncommandedRun v p x
  | .resting => uncommandedRun v p x
  | .queued => uncommandedRun v p x
  | .starting =>
    let q' := (({ q.dropCmd with feedback := .running }.enterRunning v.now e).recordStart v.now
      ).startMinRun v.now e
    handCommitted v.tab p (leaveStarting p (x.setPump p q'))
  | .running => handCommitted v.tab p (x.setPump p { q with feedback := .running })
  | .stopping => handCommitted v.tab p (x.setPump p { q with feedback := .running })
  | .stopFailed => handCommitted v.tab p (x.setPump p { q with feedback := .running })
  | .tripped | .lockedOut =>
    let y := handCommitted v.tab p (x.setPump p { q with feedback := .running, uncommanded := true })
    if q.feedback = .running then y else y.raise .uncommandedRun

/-- Stopped feedback for an assigned pump, by its state; in every state it clears the uncommanded flag (R62
to R65). -/
def feedbackStopped (v : View) (p : Fin 32) (x : Plant) : Plant :=
  let q := { x.pump p with feedback := .stopped, uncommanded := false }
  match q.state with
  | .unseen => tripIfIndicated v p (handCommitted v.tab p (x.setPump p (q.goto .off)))
  | .off => handCommitted v.tab p (x.setPump p q)
  | .resting => handCommitted v.tab p (x.setPump p q)
  | .queued => handCommitted v.tab p (x.setPump p q)
  | .starting => handCommitted v.tab p (x.setPump p q)
  | .running =>
    let y := handCommitted v.tab p (x.setPump p (q.recordStop v.now))
    if q.reachable then takeTrip v p .lostRun y else restTest v p y
  | .stopping => restTest v p (x.setPump p (q.dropCmd.recordStop v.now))
  | .stopFailed => restTest v p (x.setPump p (q.recordStop v.now))
  | .tripped | .lockedOut =>
    let q' := if (x.pump p).feedback = .running then q.recordStop v.now else q
    handCommitted v.tab p (x.setPump p (if q'.holds .stop then q'.dropCmd else q'))

/-- A run feedback; it is discarded for an unassigned slot (R56). A change of the pump's state hands its
stage to reconciliation (R61). -/
def runFeedback (v : View) (p : Fin 32) (running : Bool) (x : Plant) : Plant :=
  if assigned v.tab p then
    let y := if running then feedbackRunning v p x else feedbackStopped v p x
    if (y.pump p).state = (x.pump p).state then y else finishPump v p y
  else x

/-! ### Status reports -/

/-- A TRIPPED pump leaves by the rest test, and its stage is reconciled (R115). -/
def leaveTripped (v : View) (p : Fin 32) (x : Plant) : Plant := finishPump v p (restTest v p x)

/-- A zero TRIP report, or the loss of the TRIP point: the count and the indication are cleared, and a pump
in TRIPPED with its retry timer idle leaves (R112, R142). -/
def tripZero (v : View) (p : Fin 32) (x : Plant) : Plant :=
  let q := x.pump p
  let y := x.setPump p { q with tripCount := 0, tripInd := false }
  if q.state = .tripped ∧ q.retryT = none then leaveTripped v p y else y

/-- A non-zero TRIP report: the count rises, and where it reaches the trip confirm count (or is found above
a setting since lowered) a STARTER_TRIP is taken, unless the indication already stands (R112). -/
def tripNonZero (v : View) (p : Fin 32) (x : Plant) : Plant :=
  let q := x.pump p
  let limit := v.tab.t3[p].tripConfirm
  if q.tripCount = limit then x
  else if q.tripCount + 1 < limit then x.setPump p { q with tripCount := q.tripCount + 1 }
  else
    let y := x.setPump p { q with tripCount := limit, tripInd := true }
    if q.tripInd then y
    else
      let z := takeTrip v p .starterTrip y
      if (z.pump p).state = q.state then z else finishPump v p z

/-- A TRIP report; it is discarded for an unassigned slot (R111, R112). -/
def tripReport (v : View) (p : Fin 32) (nonZero : Bool) (x : Plant) : Plant :=
  if assigned v.tab p then if nonZero then tripNonZero v p x else tripZero v p x else x

/-- A WARN report (R111, R119). -/
def warnReport (v : View) (p : Fin 32) (nonZero : Bool) (x : Plant) : Plant :=
  if assigned v.tab p then x.setPump p { x.pump p with warn := nonZero } else x

/-- Local-select is cleared and the stage is reconciled; nothing where it is clear already (R119). -/
def clearLocalSelect (v : View) (p : Fin 32) (x : Plant) : Plant :=
  if (x.pump p).localSel then finishPump v p (x.setPump p { x.pump p with localSel := false }) else x

/-- A LOCAL_SELECT report (R111, R119). -/
def localReport (v : View) (p : Fin 32) (nonZero : Bool) (x : Plant) : Plant :=
  if assigned v.tab p then
    if nonZero then if (x.pump p).localSel then x else finishPump v p (setLocalSelect v p x)
    else clearLocalSelect v p x
  else x

/-- An outstation's refusal: a REFUSED trip for a pump STARTING with its RUN in transit or sent, whose RUN
is cleared first; nothing for any other pump (R113, R148). -/
def refusedReport (v : View) (p : Fin 32) (x : Plant) : Plant :=
  let q := x.pump p
  if q.state = .starting ∧ q.holds .run ∧ !q.awaits .run then
    finishPump v p (takeTrip v p .refused (x.setPump p q.dropCmd))
  else x

/-! ### Timer expiries -/

/-- Expiry of the min run timer (R68). -/
def minRunEvent (v : View) (p : Fin 32) (x : Plant) : Plant :=
  if due v.now (x.pump p).minRunT then minRunExpires v p x else x

/-- Expiry of the min rest timer: a RESTING pump goes to OFF and its stage is reconciled (R65). -/
def minRestEvent (v : View) (p : Fin 32) (x : Plant) : Plant :=
  let q := x.pump p
  if due v.now q.minRestT then
    if q.state = .resting then finishPump v p (handCommitted v.tab p (x.setPump p (q.goto .off)))
    else x.setPump p { q with minRestT := none }
  else x

/-- Expiry of the start confirm timer: the RUN is cleared and a NO_FEEDBACK trip is taken (R72, R113). -/
def startConfirmEvent (v : View) (p : Fin 32) (x : Plant) : Plant :=
  if due v.now (x.pump p).startT then finishPump v p (noFeedbackTrip v p x) else x

/-- Expiry of the stop confirm timer: the STOP is cleared; a stop failure where the feedback is RUNNING,
otherwise the rest test for a STOPPING pump (R72, R118). -/
def stopConfirmEvent (v : View) (p : Fin 32) (x : Plant) : Plant :=
  let q := x.pump p
  if due v.now q.stopT then
    let y := x.setPump p q.dropCmd
    if q.state = .stopping then
      if q.feedback = .running then
        finishPump v p ((handCommitted v.tab p (x.setPump p (q.dropCmd.goto .stopFailed))).raise .stopFail)
      else finishPump v p (restTest v p y)
    else if (q.state = .tripped ∨ q.state = .lockedOut) ∧ q.feedback = .running then y.raise .stopFail
    else y
  else x

/-- Expiry of the retry timer: with the indication clear the pump leaves TRIPPED by the rest test,
otherwise it waits with the timer idle (R115). -/
def retryEvent (v : View) (p : Fin 32) (x : Plant) : Plant :=
  let q := x.pump p
  if due v.now q.retryT then
    let y := x.setPump p { q with retryT := none }
    if q.state = .tripped ∧ !q.tripInd then leaveTripped v p y else y
  else x

/-- Expiry of the proving timer: the retry count is set to 0 (R116). -/
def provingEvent (v : View) (p : Fin 32) (x : Plant) : Plant :=
  let q := x.pump p
  if due v.now q.provingT then x.setPump p { q with provingT := none, retries := 0 } else x

/-- Expiry of the stop spacing timer of a stage (R86). -/
def stopSpacingEvent (v : View) (k : Fin 8) (x : Plant) : Plant :=
  if due v.now (x.stage k).spacingT then
    reconcile v k (x.setStage k { x.stage k with spacingT := none })
  else x

/-- Expiry of the spacing timer of a feeder (R103). -/
def feederSpacingEvent (v : View) (f : Feeder) (x : Plant) : Plant :=
  if due v.now (x.feeder f).spacingT then x.setFeeder f (x.feeder f).spacingExpires else x

/-- The start history less every entry whose age has reached 3600 (R73). -/
def youngStarts (now : Uptime) (h : List Uptime) : List Uptime := h.filter fun u => decide (age now u < 3600)

/-- The ageing of the start histories of a stage's pumps, and one reconciliation of the stage where a pump
thereby ceases to be start-limited (R73, R74). -/
def ageingEvent (v : View) (k : Fin 8) (x : Plant) : Plant :=
  let y := (stageSlots k).foldl
    (fun z p => z.setPump p { z.pump p with history := youngStarts v.now (z.pump p).history }) x
  if (stagePumps v.tab k).any fun p => startLimited v.tab p (x.pump p) && !startLimited v.tab p (y.pump p) then
    reconcile v k y
  else y

/-! ### Requests on a pump -/

/-- TRIP_RESET of a TRIPPED or LOCKED_OUT pump (R117). -/
def tripResetEvent (v : View) (p : Fin 32) (x : Plant) : Plant :=
  leaveTripped v p
    (x.setPump p { x.pump p with retries := 0, retryT := none, tripCount := 0, tripInd := false })

/-- OWNER_SET of an assigned pump: nothing where it names the present ownership (R153). -/
def ownerEvent (v : View) (p : Fin 32) (o : Ownership) (x : Plant) : Plant :=
  if (x.pump p).owner = o then x else finishPump v p (changeOwner v p o x)

/-- The pump falls back to AUTO on the loss of the upline (R159). -/
def fallsBack (v : View) (x : Plant) (p : Fin 32) : Bool :=
  assigned v.tab p && (x.pump p).owner == .manual && v.tab.t3[p].fallback

/-- Pumps become AUTO, and each stage concerned is reconciled once, after all its pumps have changed (R159).
DEDUCED: in ADVISORY these reconciliations write the shortfall flag and the advised fields, as R78 says, though R159
says that they change nothing outside ACTIVE (log 46). -/
def becomeAuto (ps : List (Fin 32)) (v : View) (x : Plant) : Plant :=
  reconcileAll v (stagesOf ps) (ps.foldl (fun y p => changeOwner v p .auto y) x)

/-- The fallback on loss of the upline (R159). -/
def fallback (v : View) (x : Plant) : Plant := becomeAuto (slots.filter (fallsBack v x)) v x

end Sys2Proof.Machine
end

