-- ==== Sys2Proof/Machine/Demand.lean ====
section
/-!
DEFINITION. The Demand Unit (chapter 3): the demand computation of a stage, W and the override, and the
evaluation as an event with what it hands on.
-/

namespace Sys2Proof.Machine

/-! ### The demand computation (R37 to R44) -/

/-- The shift of the band by the tariff class (R37). -/
def bandShift (e : ResEntry) (c : TariffClass) : Int :=
  match c with
  | .cheap => e.cr
  | .peak => -(e.pd : Int)
  | .normal => 0

/-- TH, formed and clamped first (R37). -/
def bandHigh (e : ResEntry) (c : TariffClass) : Int :=
  clampInt ((e.la : Int) + 2) ((e.ha : Int) - 1) ((e.thb : Int) + bandShift e c)

/-- TL, clamped below TH (R37). -/
def bandLow (e : ResEntry) (c : TariffClass) : Int :=
  clampInt ((e.la : Int) + 1) (bandHigh e c - 1) ((e.tlb : Int) + bandShift e c)

/-- The band demand D0 (R38). -/
def bandDemand (tl th l : Int) : Nat :=
  if l ≤ tl then 1000
  else if th ≤ l then 0
  else ((th - l) * 1000 / (th - tl)).toNat

/-- The trend demand D1 (R39). -/
def trendDemand (tl th l : Int) (d0 kr : Nat) (r : Int) : Nat :=
  if tl < l ∧ l < th then (clampInt 0 1000 ((d0 : Int) + (kr : Int) * r)).toNat else d0

/-- The tariff demand D2 (R40). -/
def tariffDemand (low : Bool) (c : TariffClass) (d1 pf : Nat) : Nat :=
  if low then 1000
  else if c = .peak then d1 * pf / 1000
  else d1

/-- The dry-run condition of a suction reservoir (R41). -/
def dryCondition (e : ResEntry) (l : ResLive) : Bool :=
  !(e.enabled && e.kind == .unmetered) && (l.state == .lowAlarm || l.state == .stale || l.state == .unknown)

/-- The suction cap (R41). -/
def suctionCap (e : ResEntry) (l : ResLive) (sb : Nat) : Nat :=
  if e.enabled && e.kind == .unmetered then 1000
  else if dryCondition e l then 0
  else if sb = 0 ∨ e.la + sb ≤ l.level then 1000
  else (l.level - e.la) * 1000 / sb

/-- T_on(k) for k from 1 (R43). -/
def tOn (n hb k : Nat) : Nat := (k - 1) * 1000 / n + hb

/-- T_off(k) for k from 1; a negative value is raised to 0 by the subtraction of naturals (R43). -/
def tOff (n hb k : Nat) : Nat := (k - 1) * 1000 / n - hb

/-- Step 1 of R44: W is raised while it is below n and D3 reaches T_on(W + 1); at most `fuel` times. -/
def raiseW (n hb d3 : Nat) : Nat → Nat → Nat
  | 0, w => w
  | fuel + 1, w => if w < n ∧ tOn n hb (w + 1) ≤ d3 then raiseW n hb d3 fuel (w + 1) else w

/-- Step 2 of R44: W is lowered while it is above 0 and D3 is at or below T_off(W). DESIGN CHOICE: where a write
has lowered the pump count n below W, T_off(W) is taken by the formula of R43 for that W too, though R43 forms
thresholds for 1 to n only (log 42). -/
def lowerW (n hb d3 : Nat) : Nat → Nat
  | 0 => 0
  | w + 1 => if d3 ≤ tOff n hb (w + 1) then lowerW n hb d3 w else w + 1

/-- W by the demand thresholds (R44). -/
def stepW (n hb maxRunning d3 w : Nat) : Nat :=
  let up := raiseW n hb d3 n w
  min (if w < up then up else lowerW n hb d3 w) maxRunning

/-! ### The three paths (R36, R42, R45, R46) -/

/-- The full computation (R36 to R44). -/
def fullPath (v : View) (k : Fin 8) (l : StageLive) : StageLive :=
  let e := v.tab.t2[k]
  let de := v.tab.t1[e.delivery]
  let dl := v.levels[e.delivery]
  let se := v.tab.t1[e.suction]
  let sl := v.levels[e.suction]
  let th := bandHigh de v.cls
  let tl := bandLow de v.cls
  let d0 := bandDemand tl th dl.level
  let d1 := trendDemand tl th dl.level d0 e.kr dl.rate
  let d2 := tariffDemand (dl.state == .lowAlarm) v.cls d1 e.pf
  let d3 := if dl.state = .highAlarm then 0 else min d2 (suctionCap se sl e.sb)
  if dryCondition se sl then { l with d0 := d0, d1 := d1, d2 := d2, d3 := d3, w := 0, override := .dryRun }
  else if dl.state = .highAlarm then
    { l with d0 := d0, d1 := d1, d2 := d2, d3 := d3, w := 0, override := .overflow }
  else
    { l with d0 := d0, d1 := d1, d2 := d2, d3 := d3, w := stepW e.n e.hb e.maxRunning d3 l.w, override := .none }

/-- The no level path (R45). -/
def noLevelPath (v : View) (k : Fin 8) (l : StageLive) : StageLive :=
  let e := v.tab.t2[k]
  { l with
    d0 := 0, d1 := 0, d2 := 0, d3 := 0, w := 0
    override := if dryCondition v.tab.t1[e.suction] v.levels[e.suction] then .dryRun else .noLevel }

/-- The stale hold path (R46). -/
def stalePath (v : View) (k : Fin 8) (l : StageLive) : StageLive :=
  let e := v.tab.t2[k]
  if dryCondition v.tab.t1[e.suction] v.levels[e.suction] then { l with d3 := 0, w := 0, override := .dryRun }
  else { l with w := min l.w (min e.staleCount e.maxRunning), override := .staleHold }

/-- The stage live record as an evaluation leaves it, by the path that the delivery reservoir chooses
(R36). -/
def evaluated (v : View) (k : Fin 8) (l : StageLive) : StageLive :=
  let d := v.tab.t2[k].delivery
  if !v.tab.t1[d].enabled || v.tab.t1[d].kind == .unmetered || v.levels[d].state == .unknown then
    noLevelPath v k l
  else if v.levels[d].state = .stale then stalePath v k l
  else fullPath v k l

/-! ### The evaluation as an event (R35, R36, R48, R49) -/

/-- The events of a change of override (R48). -/
def raiseOverride (old new : Override) (x : Plant) : Plant :=
  if new = .dryRun ∧ old ≠ .dryRun then x.raise .dryRunStop
  else if new = .overflow ∧ old ≠ .overflow then x.raise .overflowStop
  else x

/-- An evaluation of an enabled stage: the record is written with its cause, an event due to a change of
override is raised, and the stage is reconciled where W or the override changed or the cause is MODE_ENTRY
(R36, R48, R49). A stage that is not enabled is not evaluated (R34). -/
def evaluate (v : View) (c : Cause) (x : Plant) (k : Fin 8) : Plant :=
  if v.tab.t2[k].enabled then
    let l := x.stage k
    let l' := { evaluated v k l with cause := c }
    let y := raiseOverride l.override l'.override (x.setStage k l')
    if l'.w ≠ l.w ∨ l'.override ≠ l.override ∨ c = .modeEntry then reconcile v k y else y
  else x

/-- Every enabled stage is evaluated with one cause. -/
def evaluateAll (v : View) (c : Cause) (x : Plant) : Plant := stageList.foldl (evaluate v c) x

/-- A reservoir notification: the stages with the reservoir as delivery and those with it as suction are
evaluated (R15, R35). -/
def notifyStage (v : View) (r : Fin 10) (changed : Bool) (x : Plant) (k : Fin 8) : Plant :=
  if v.tab.t2[k].delivery = r then evaluate v (if changed then .deliveryState else .deliveryLevel) x k
  else if v.tab.t2[k].suction = r then evaluate v (if changed then .suctionState else .suctionLevel) x k
  else x

/-- A reservoir notification (R15, R35). -/
def notify (v : View) (r : Fin 10) (changed : Bool) (x : Plant) : Plant :=
  stageList.foldl (notifyStage v r changed) x

/-- The values of a stage record after a reset, or when the stage is disabled (R34). -/
def blankStage (c : Cause) : StageLive := { cause := c }

end Sys2Proof.Machine
end

