-- ==== Sys2Proof/Machine/Reservoirs.lean ====
section
/-!
DEFINITION. The Reservoir Monitor (chapter 1): the level states, the rate, a level arrival, the entry to
STALE, and what a settings write does to a live record.
-/

namespace Sys2Proof.Machine

/-- The state found from the bare thresholds (R7). -/
def bareState (e : ResEntry) (l : Nat) : ResState :=
  if l ≤ e.la then .lowAlarm else if e.ha ≤ l then .highAlarm else .normal

/-- The state found with hysteresis from the present state (R8). -/
def hystState (e : ResEntry) (st : ResState) (l : Nat) : ResState :=
  match st with
  | .lowAlarm =>
    if e.ha ≤ l then .highAlarm
    else if e.la + e.ah ≤ l ∧ l < e.ha ∧ e.la < l then .normal
    else .lowAlarm
  | .highAlarm =>
    if l ≤ e.la then .lowAlarm
    else if e.la < l ∧ l + e.ah ≤ e.ha ∧ l < e.ha then .normal
    else .highAlarm
  | .normal | .unknown | .stale => bareState e l

/-- The record is that of a first level: the state before is UNKNOWN or STALE (R6, R7, R11). -/
def ResLive.noLevel (l : ResLive) : Bool := l.state == .unknown || l.state == .stale

/-- The rate of a due sample: the fall since the sample, per minute, truncated toward zero and clamped
(R11). -/
def sampleRate (old new : Nat) (elapsed : Nat) : Int :=
  clampInt (-500) 500 ((((old : Int) - new) * 60).tdiv elapsed)

/-- The rate step of a level arrival (R11). -/
def rateStep (e : ResEntry) (now : Uptime) (l : Nat) (rec : ResLive) : ResLive :=
  if rec.noLevel then { rec with rate := 0, sampleLevel := l, sampleTime := now }
  else if e.rateInterval ≤ age now rec.sampleTime then
    { rec with rate := sampleRate rec.sampleLevel l (age now rec.sampleTime), sampleLevel := l, sampleTime := now }
  else rec

/-- The state a good level gives (R6 step 2). -/
def arrivalState (e : ResEntry) (rec : ResLive) (l : Nat) : ResState :=
  if rec.noLevel then bareState e l else hystState e rec.state l

/-- The live record after a good level (R6 steps 1 to 3). -/
def arrivalRecord (e : ResEntry) (now : Uptime) (l : Nat) (rec : ResLive) : ResLive :=
  { rateStep e now l rec with
    state := arrivalState e rec l, level := l, lastGood := now, staleDue := false }

/-- Entry to LOW_ALARM or HIGH_ALARM (R17). -/
def entersAlarm (old new : ResState) : Bool := new != old && (new == .lowAlarm || new == .highAlarm)

/-- The escalation and the event of a state change, the escalation first (R16, R17). DESIGN CHOICE: the event is raised
before the notification, which R6 step 4 and section 1.10 name before the events (log 47). -/
def handState (r : Fin 10) (old new : ResState) (s : Part) : Part :=
  let t := if new = .lowAlarm ∧ old ≠ .lowAlarm then s.onPlant fun v => escalate v r else s
  if entersAlarm old new then t.raise .levelAlarm else t

/-- A level arrival for a reservoir (R6); it is discarded where the reservoir is not enabled or is an
unmetered source. -/
def levelArrival (r : Fin 10) (l : Nat) (s : Part) : Part :=
  let e := s.tab.t1[r]
  if e.enabled && e.kind == .metered then
    let old := s.levels[r].state
    let rec' := arrivalRecord e s.cal.uptime l s.levels[r]
    (handState r old rec'.state (s.setLevel r rec')).onPlant fun v => notify v r (rec'.state != old)
  else s

/-- A reservoir whose staleness is tested: enabled, METERED and with a current level (R9). -/
def staleTested (e : ResEntry) (l : ResLive) : Bool :=
  e.enabled && e.kind == .metered && !l.noLevel

/-- The stale time has been reached at the present uptime (R9). -/
def staleReached (e : ResEntry) (now : Uptime) (l : ResLive) : Bool :=
  staleTested e l && decide (e.stale ≤ age now l.lastGood)

/-- The reservoir enters STALE (R9). DESIGN CHOICE: the event is raised before the notification (log 47). -/
def enterStale (r : Fin 10) (s : Part) : Part :=
  let t := s.setLevel r { s.levels[r] with state := .stale, rate := 0, staleDue := false }
  (t.raise .levelStale).onPlant fun v => notify v r true

/-- Entry to STALE where the last step found the stale time reached, and neither an arrival nor a change of the
reservoir's enabled flag or kind has been taken since (R9, R10, R14). The stale time is that of the step: a write of
it since then takes effect at the next step and does not withdraw the entry (R10). -/
def staleEvent (r : Fin 10) (s : Part) : Part :=
  if s.levels[r].staleDue && staleTested s.tab.t1[r] s.levels[r] then enterStale r s else s

/-- The live record of a reservoir after a reset or a change of its enabled flag or kind (R5, R14). -/
def freshRecord (e : ResEntry) : ResLive :=
  if e.enabled && e.kind == .unmetered then { level := e.fs, state := .normal } else {}

/-- The live record brought into line with new settings of an enabled METERED reservoir (R13). -/
def updatedRecord (e : ResEntry) (l : ResLive) : ResLive :=
  let c := { l with level := min l.level e.fs, sampleLevel := min l.sampleLevel e.fs }
  if l.noLevel then c else { c with state := hystState e c.state c.level }

/-- What a T1 write does to the live record of one reservoir (R12 to R14), with the escalation and the event
of a state change. The notification is taken into the write's evaluation (R35). -/
def reservoirWrite (old : Settings) (s : Part) (r : Fin 10) : Part :=
  let a := old.t1[r]
  let b := s.tab.t1[r]
  if a.enabled ≠ b.enabled ∨ a.kind ≠ b.kind then s.setLevel r (freshRecord b)
  else if b.enabled && b.kind == .unmetered then s.setLevel r { s.levels[r] with level := b.fs }
  else if b.enabled ∧ (a.fs ≠ b.fs ∨ a.la ≠ b.la ∨ a.ha ≠ b.ha ∨ a.ah ≠ b.ah) then
    let u := updatedRecord b s.levels[r]
    handState r s.levels[r].state u.state (s.setLevel r u)
  else s

end Sys2Proof.Machine
end

