-- ==== Sys2Proof/Machine/Calendar.lean ====
section
/-!
DEFINITION. The Calendar Unit (chapter 2): the clock, the current tariff class, and the class change at a
minute boundary.
-/

namespace Sys2Proof.Machine

/-- The window `b` governs rather than `a`: it starts later (R26). Start minutes are unique within a day
type (R25). -/
def laterWindow (a b : WindowEntry) : Bool := decide (b.start < a.start)

/-- The class that the tables give for a clock (R26). -/
def classAt (tab : Settings) (c : Calendar) : TariffClass :=
  if c.clockSet then
    match pickFirst laterWindow
        (tab.t5.toList.filter fun w => w.used && w.dayType == tab.t6[c.day] && decide (w.start ≤ c.minute)) with
    | some w => w.cls
    | none => .normal
  else .normal

/-- One step of the set clock, with rollover; the boundary is marked where the minute changes (R21). -/
def Calendar.tick (c : Calendar) : Calendar :=
  if c.clockSet then
    if c.second + 1 < 60 then { c with second := c.second + 1 }
    else if c.minute + 1 < 1440 then { c with second := 0, minute := c.minute + 1, boundaryDue := true }
    else { c with second := 0, minute := 0, day := c.day + 1, boundaryDue := true }
  else c

/-- The recomputation of the held class at a minute boundary; a change evaluates every enabled stage (R26,
R27). -/
def boundaryEvent (s : Part) : Part :=
  if s.cal.boundaryDue then
    let c := classAt s.tab s.cal
    let t := { s with cal := { s.cal with cls := c, boundaryDue := false } }
    if c = s.cal.cls then t else t.onPlant fun v => evaluateAll v .classChange
  else s

/-- The held class is recomputed and the boundary, if one was due, is spent (R26). -/
def recomputeClass (s : Part) : Part :=
  { s with cal := { s.cal with cls := classAt s.tab s.cal, boundaryDue := false } }

/-- CLOCK_SET with arguments within their ranges: the clock is set, the class recomputed and every enabled
stage evaluated (R22). -/
def setClock (day : Fin 7) (minute second : Nat) (s : Part) : Part :=
  let t := { s with cal := { s.cal with clockSet := true, day := day, minute := minute, second := second } }
  (recomputeClass t).onPlant fun v => evaluateAll v .clockSet

end Sys2Proof.Machine
end

