-- ==== Sys2Proof/Machine/Operands.lean ====
section
/-!
DEFINITION. The forms of what crosses the ports (chapter 8, R163): frame bytes and their check (R129, R138),
frame kinds, point reports, command items, reply status and reasons (R139), and the management requests with
their argument bytes, read from a payload and written to one.
-/

namespace Sys2Proof.Machine

/-! ### Frames -/

/-- Frame kinds (R138). -/
def kindTelemetry : Byte := 0x01
def kindCommand : Byte := 0x02
def kindReply : Byte := 0x03
def kindNotice : Byte := 0x04
def kindManage : Byte := 0x05

/-- One bit of the check: a shift by the generator x^8 + x^2 + x + 1 (R129). -/
def crcShift (c : Byte) : Byte := if c.msb then (c <<< 1) ^^^ 0x07 else c <<< 1

/-- The check after one more byte, most significant bit first (R129). -/
def crcByte (c b : Byte) : Byte :=
  crcShift (crcShift (crcShift (crcShift (crcShift (crcShift (crcShift (crcShift (c ^^^ b))))))))

/-- The check of a run of bytes, from the initial value 0 (R129). -/
def crc (bs : List Byte) : Byte := bs.foldl crcByte 0

/-- The bytes of a frame that its check covers: from the destination through the last payload byte
(R129). -/
def frameCovered (f : Frame) : List Byte :=
  f.dest :: f.source :: f.kind :: BitVec.ofNat 8 f.payload.length :: f.payload

/-- The check byte of a frame (R129). -/
def frameCheck (f : Frame) : Byte := crc (frameCovered f)

/-- The bytes of a frame on the line (R138). -/
def frameBytes (f : Frame) : List Byte := 0xA5 :: (frameCovered f ++ [frameCheck f])

/-- The two bytes of a 16-bit field, most significant first (R138). -/
def wordBytes (w : Word) : List Byte := [w.hiByte, w.loByte]

/-- A run of 16-bit fields as bytes. -/
def wordsBytes (ws : List Word) : List Byte := ws.flatMap wordBytes

/-- A 32-bit quantity as two words, the more significant first (section 11.4). -/
def longWords (u : BitVec 32) : List Word := [u.extractLsb' 16 16, u.extractLsb' 0 16]

/-! ### Telemetry reports and command items -/

/-- A point report of a TELEMETRY frame (R138). -/
structure Report where
  point : Byte
  quality : Byte
  raw : Word
  deriving DecidableEq, Repr

/-- The whole reports of a TELEMETRY payload; bytes after the last are ignored (R138, R143). -/
def reportsOf : List Byte → List Report
  | p :: q :: hi :: lo :: rest => ⟨p, q, joinBytes hi lo⟩ :: reportsOf rest
  | _ => []

/-- The whole two-byte items of a payload: (point, action) in a COMMAND frame (R138), (point, result) after
the status byte of an outstation reply (R139). A trailing odd byte is ignored (R148, R155). -/
def pairsOf : List Byte → List (Byte × Byte)
  | a :: b :: rest => (a, b) :: pairsOf rest
  | _ => []

/-- The actions of a command item (R138). -/
def actionCode : Action → Byte
  | .run => 0x01
  | .stop => 0x02

/-- The action that an item's byte names, if it names one (R138, R155). -/
def actionOf? (b : Byte) : Option Action :=
  if b = 0x01 then some .run else if b = 0x02 then some .stop else none

/-! ### Replies -/

/-- Reply statuses (R139). -/
inductive Status
  | accepted | acceptedClamped | refused
  deriving DecidableEq, Repr

/-- The code of a reply status (R139). -/
def Status.code : Status → Byte
  | .accepted => 0
  | .acceptedClamped => 1
  | .refused => 2

/-- Reply reasons (R139). -/
inductive Reason
  | checkHold | unknownRequest | badTable | badIndex | badValue | duplicateKey | wrongMode | busy | illegal
  | inconsistent | notPermitted | owned | outOfService | localControl | badAction | state | rest | limit | dry
  | slotBusy | budget
  deriving DecidableEq, Repr

/-- The code of a reply reason (R139). -/
def Reason.code : Reason → Byte
  | .checkHold => 0x01
  | .unknownRequest => 0x02
  | .badTable => 0x03
  | .badIndex => 0x04
  | .badValue => 0x05
  | .duplicateKey => 0x06
  | .wrongMode => 0x07
  | .busy => 0x08
  | .illegal => 0x09
  | .inconsistent => 0x0A
  | .notPermitted => 0x10
  | .owned => 0x11
  | .outOfService => 0x12
  | .localControl => 0x13
  | .badAction => 0x14
  | .state => 0x15
  | .rest => 0x16
  | .limit => 0x17
  | .dry => 0x18
  | .slotBusy => 0x19
  | .budget => 0x1A

/-- What a request is answered with: status, reason code and data (R162, R163). -/
structure Answer where
  status : Status
  reason : Byte
  data : List Byte
  restart : Bool := false
  deriving DecidableEq, Repr

/-- An accepted answer carries reason 00h (R139, R162). -/
def accept (data : List Byte) : Answer := { status := .accepted, reason := 0, data := data }

/-- A refused answer, with the table id and entry index or the check number and index where a rule names
them (R162, R163). -/
def refuse (r : Reason) (data : List Byte) : Answer := { status := .refused, reason := r.code, data := data }

/-! ### Tables as words -/

/-- The number of entries of a table (section 4.5 of the scope); 0 for an id above 14. -/
def tableSize : Nat → Nat
  | 0 => 128
  | 1 => 10
  | 2 => 8
  | 3 => 32
  | 4 => 2
  | 5 => 24
  | 6 => 7
  | 7 => 8
  | 8 => 4
  | 9 => 1
  | 10 => 32
  | 11 => 8
  | 12 => 32
  | 13 => 10
  | 14 => 32
  | _ => 0

/-- The number of words of one entry of a table (section 11.4 and the owning chapters). -/
def entryWords : Nat → Nat
  | 0 => 7
  | 1 => 12
  | 2 => 11
  | 3 => 15
  | 4 => 2
  | 5 => 4
  | 6 => 1
  | 7 => 5
  | 8 => 3
  | 9 => 7
  | 10 => 36
  | 11 => 11
  | 12 => 6
  | 13 => 8
  | 14 => 2
  | _ => 0

/-- Tables T10 to T13 are live and cannot be written (R165). -/
def liveTable (t : Nat) : Bool := decide (10 ≤ t) && decide (t ≤ 13)

/-! ### Management requests -/

/-- What step 1 of R165 makes of the segments of a TABLE_WRITE: the refusal of their form, or the
segments. -/
inductive WriteForm
  | refused (r : Reason)
  | segments (segs : List Segment)
  deriving DecidableEq, Repr

/-- The requests of R139 with the arguments of R163. -/
inductive ManageRequest
  | statusRead
  | tableRead (table first count : Byte) (offset : Word)
  | tableWrite (form : WriteForm)
  | modeSet (mode : Byte)
  | ownerSet (slot owner : Byte)
  | clockSet (day : Byte) (minute : Word) (second : Byte)
  | noticeOn (confirm : Byte)
  | noticeOff (confirm : Byte)
  | eventClear (keep : Word)
  | tripReset (slot : Byte)
  | addressTake
  | addressRelease
  | settingsSave
  | restart
  deriving DecidableEq, Repr

/-- The part's reading of a MANAGE payload (R162). -/
inductive Parsed
  /-- Shorter than 2 bytes; the request code is there where one byte is. -/
  | short (code : Option Byte)
  /-- A request code outside 01h..0Eh. -/
  | unknown (code tag : Byte)
  /-- Arguments shorter or longer than the request needs. -/
  | badArguments (code tag : Byte)
  | request (tag : Byte) (r : ManageRequest)
  deriving DecidableEq, Repr

/-- The form of one segment whose table id, first index and count are known (R165 step 1), in the order of
that step. -/
def segmentForm (table first count : Byte) (words : Nat) : Option Reason :=
  if 14 < table.toNat then some .badTable
  else if liveTable table.toNat then some .illegal
  else if tableSize table.toNat ≤ first.toNat ∨ count = 0 ∨ tableSize table.toNat < first.toNat + count.toNat then
    some .badIndex
  else if words ≠ count.toNat * entryWords table.toNat then some .illegal
  else none

/-- The 16-bit fields of a run of bytes; an odd last byte is left out. -/
def wordsOf : List Byte → List Word
  | hi :: lo :: rest => joinBytes hi lo :: wordsOf rest
  | _ => []

/-- Reads the segments of a TABLE_WRITE one after another, each taking the words that its count and its
table's entry size give; a segment cut short, or 1 or 2 bytes left over, is a segment whose words do not
match its count (R163, R165). `n` bounds the number of segments. -/
def readSegments : Nat → List Byte → WriteForm
  | _, [] => .segments []
  | 0, _ => .refused .illegal
  | n + 1, t :: i :: c :: rest =>
    let need := c.toNat * entryWords t.toNat
    let words := wordsOf (rest.take (2 * need))
    match segmentForm t i c (min need (rest.length / 2)) with
    | some r => .refused r
    | none =>
      match readSegments n (rest.drop (2 * need)) with
      | .refused r => .refused r
      | .segments gs => .segments (⟨t, i, c, words⟩ :: gs)
  | _ + 1, _ => .refused .illegal

/-- The bytes of the segments of a TABLE_WRITE (R163). -/
def segmentsBytes (segs : List Segment) : List Byte :=
  segs.flatMap fun g => g.table :: g.first :: g.count :: wordsBytes g.words

/-- The reading of the arguments of a known request code (R163). -/
def parseArguments (code tag : Byte) (args : List Byte) : Parsed :=
  match code.toNat, args with
  | 0x01, [] => .request tag .statusRead
  | 0x02, [t, i, n, hi, lo] => .request tag (.tableRead t i n (joinBytes hi lo))
  | 0x03, a :: b :: c :: rest =>
    .request tag (.tableWrite (readSegments (rest.length + 1) (a :: b :: c :: rest)))
  | 0x04, [m] => .request tag (.modeSet m)
  | 0x05, [p, o] => .request tag (.ownerSet p o)
  | 0x06, [d, hi, lo, s] => .request tag (.clockSet d (joinBytes hi lo) s)
  | 0x07, [c] => .request tag (.noticeOn c)
  | 0x08, [c] => .request tag (.noticeOff c)
  | 0x09, [hi, lo] => .request tag (.eventClear (joinBytes hi lo))
  | 0x0A, [p] => .request tag (.tripReset p)
  | 0x0B, [] => .request tag .addressTake
  | 0x0C, [] => .request tag .addressRelease
  | 0x0D, [] => .request tag .settingsSave
  | 0x0E, [] => .request tag .restart
  | _, _ => .badArguments code tag

/-- The part's reading of a MANAGE payload (R138, R162, R163). -/
def parseManage : List Byte → Parsed
  | [] => .short none
  | [c] => .short (some c)
  | code :: tag :: args =>
    if 1 ≤ code.toNat ∧ code.toNat ≤ 14 then parseArguments code tag args else .unknown code tag

/-- The request code of a reading, if there is one. -/
def Parsed.code? : Parsed → Option Byte
  | .short c => c
  | .unknown c _ => some c
  | .badArguments c _ => some c
  | .request _ r =>
    some (match r with
      | .statusRead => 0x01
      | .tableRead _ _ _ _ => 0x02
      | .tableWrite _ => 0x03
      | .modeSet _ => 0x04
      | .ownerSet _ _ => 0x05
      | .clockSet _ _ _ => 0x06
      | .noticeOn _ => 0x07
      | .noticeOff _ => 0x08
      | .eventClear _ => 0x09
      | .tripReset _ => 0x0A
      | .addressTake => 0x0B
      | .addressRelease => 0x0C
      | .settingsSave => 0x0D
      | .restart => 0x0E)

/-- The tag of a reading, if the payload is long enough to hold one. -/
def Parsed.tag? : Parsed → Option Byte
  | .short _ => none
  | .unknown _ t => some t
  | .badArguments _ t => some t
  | .request t _ => some t

/-- The MANAGE frame of a request code and its argument bytes (R138). -/
def manageFrame (h : ReqHead) (code : Byte) (args : List Byte) : Frame :=
  { dest := h.dest, source := h.source, kind := kindManage, payload := code :: h.tag :: args }

end Sys2Proof.Machine
end

