-- ==== Sys2Proof/Machine/Tables.lean ====
section
/-!
DEFINITION. Table entries as words (section 11.4): the words TABLE_READ gives for every table (R164), and
the judgement of the entries a TABLE_WRITE writes, table by table (R2, R25, R31, R54, R57, R93, R108, R141,
R149, R154, R161, R165).
-/

namespace Sys2Proof.Machine

/-! ### Codes -/

/-- A flag in a word of its own. -/
def flagWord (b : Bool) : Word := if b then 1 else 0

/-- A number as one word. -/
def natWord (n : Nat) : Word := BitVec.ofNat 16 n

def Ownership.code : Ownership → Nat
  | .auto => 0
  | .manual => 1
  | .outOfService => 2

def Ownership.ofCode? (n : Nat) : Option Ownership :=
  if n = 0 then some .auto else if n = 1 then some .manual else if n = 2 then some .outOfService else none

def feederCode : Feeder → Nat
  | .a => 0
  | .b => 1

def ResKind.code : ResKind → Nat
  | .metered => 0
  | .unmetered => 1

def TariffClass.code : TariffClass → Nat
  | .cheap => 0
  | .normal => 1
  | .peak => 2

def ResState.code : ResState → Nat
  | .unknown => 0
  | .lowAlarm => 1
  | .normal => 2
  | .highAlarm => 3
  | .stale => 4

def Override.code : Override → Nat
  | .none => 0
  | .overflow => 1
  | .dryRun => 2
  | .staleHold => 3
  | .noLevel => 4

def Advice.code : Advice → Nat
  | .none => 0
  | .start => 1
  | .stop => 2

def Cause.code : Cause → Nat
  | .none => 0
  | .deliveryLevel => 1
  | .deliveryState => 2
  | .suctionLevel => 3
  | .suctionState => 4
  | .classChange => 5
  | .tableWrite => 6
  | .clockSet => 7
  | .modeEntry => 8

def PumpState.code : PumpState → Nat
  | .unseen => 0
  | .off => 1
  | .resting => 2
  | .queued => 3
  | .starting => 4
  | .running => 5
  | .stopping => 6
  | .stopFailed => 7
  | .tripped => 8
  | .lockedOut => 9

def Feedback.code : Feedback → Nat
  | .none => 0
  | .stopped => 1
  | .running => 2

def TripCause.code : TripCause → Nat
  | .none => 0
  | .starterTrip => 1
  | .noFeedback => 2
  | .lostRun => 3
  | .refused => 4

/-- The pending command field (R58). -/
def commandCode : Option Command → Nat
  | none => 0
  | some c =>
    match c.action with
    | .run => 1
    | .stop => 2

def ReqClass.code : ReqClass → Nat
  | .recover => 0
  | .normal => 1
  | .precharge => 2

def Mode.code : Mode → Nat
  | .passive => 0
  | .advisory => 1
  | .settling => 2
  | .active => 3

def AddrMode.code : AddrMode → Nat
  | .commissioning => 0
  | .service => 1

def StoreState.code : StoreState → Nat
  | .valid => 0
  | .invalid => 1
  | .saving => 2

def StoreOutcome.code : StoreOutcome → Nat
  | .none => 0
  | .done => 1
  | .failed => 2
  | .loadFailed => 3

/-! ### Entries as words (R164) -/

/-- A T0 entry (R140). -/
def PointEntry.words (e : PointEntry) : List Word :=
  [flagWord e.used, natWord e.station, natWord e.point, natWord e.kind, natWord e.target, natWord e.zero,
    natWord e.span]

/-- A T1 entry (R1). -/
def ResEntry.words (e : ResEntry) : List Word :=
  [flagWord e.enabled, natWord e.kind.code, natWord e.fs, natWord e.la, natWord e.tlb, natWord e.thb,
    natWord e.ha, natWord e.ah, natWord e.stale, natWord e.rateInterval, natWord e.cr, natWord e.pd]

/-- A T2 entry (R30). -/
def StageEntry.words (e : StageEntry) : List Word :=
  [flagWord e.enabled, natWord e.delivery.val, natWord e.suction.val, natWord e.n, natWord e.maxRunning,
    natWord e.hb, natWord e.kr, natWord e.pf, natWord e.sb, natWord e.staleCount, natWord e.spacing]

/-- A T3 entry (R53). -/
def PumpEntry.words (e : PumpEntry) : List Word :=
  [natWord e.station, natWord e.point, natWord (feederCode e.feeder), natWord e.rating, natWord e.defaultOwner.code,
    natWord e.minRun, natWord e.minRest, natWord e.startConfirm, natWord e.stopConfirm,
    natWord e.startsPerHour, natWord e.retryLimit, natWord e.retryInterval, natWord e.provingTime,
    natWord e.tripConfirm, flagWord e.fallback]

/-- A T4 entry (R93). -/
def FeederEntry.words (e : FeederEntry) : List Word := [natWord e.budget, natWord e.spacing]

/-- A T5 entry (R24). -/
def WindowEntry.words (e : WindowEntry) : List Word :=
  [flagWord e.used, natWord e.dayType.val, natWord e.start, natWord e.cls.code]

/-- A T7 entry (R149). -/
def MirrorEntry.words (e : MirrorEntry) : List Word :=
  [flagWord e.used, natWord e.direction, natWord e.low, natWord e.high, natWord e.base]

/-- A T8 entry (R154). -/
def SourceEntry.words (e : SourceEntry) : List Word := [flagWord e.used, natWord e.address, natWord e.mask.toNat]

/-- The T9 entry: the three flags share the last word (R161). -/
def General.words (e : General) : List Word :=
  [natWord e.service, natWord e.notice, natWord e.classOrder, natWord e.bypassLimit, natWord e.quietTime,
    natWord e.settleTime, flagBit e.autoResume 0 ||| flagBit e.alertEnabled 1 ||| flagBit e.sourceValidation 2]

/-- The flags word of a T10 record (R58). -/
def pumpFlags (isAssigned : Bool) (q : Pump) : Word :=
  let g (p : Progress) : Bool := match q.cmd with
    | some c => c.progress == p
    | none => false
  flagBit isAssigned 0 ||| flagBit q.localSel 1 ||| flagBit q.warn 2 ||| flagBit (g .inTransit) 3 |||
    flagBit (g .sent) 4 ||| flagBit q.uncommanded 5 ||| flagBit q.stopRecorded 6 ||| flagBit q.minRunMet 7

/-- A T10 record: the start history is a count and twelve uptimes, oldest first, unused positions 0
(R58). -/
def Pump.words (isAssigned : Bool) (q : Pump) : List Word :=
  [natWord q.state.code, natWord q.owner.code, natWord q.feedback.code, natWord q.cause.code,
    natWord q.retries, natWord (commandCode q.cmd), pumpFlags isAssigned q] ++
    longWords q.runStart ++ longWords q.stopAt ++ [natWord q.history.length] ++
    ((List.range 12).flatMap fun i => longWords (q.history.getD i 0))

/-- A T11 record; the stop spacing remaining is formed at the reading (R33, R51). -/
def StageLive.words (now : Uptime) (l : StageLive) : List Word :=
  [natWord l.d0, natWord l.d1, natWord l.d2, natWord l.d3, natWord l.w, natWord l.override.code,
    natWord l.advice.code, natWord l.adviceSlot, flagWord l.shortfall, natWord (remaining now l.spacingT),
    natWord l.cause.code]

/-- A T12 entry; one beyond the last request reads as 0 throughout (R96). -/
def requestWords : Option Request → List Word
  | none => [0, 0, 0, 0, 0, 0]
  | some e =>
    [flagBit true 0 ||| flagBit e.blocking 1, natWord e.pump.val, natWord (feederCode e.feeder), natWord e.cls.code,
      natWord e.bypass, natWord e.rank]

/-- A T13 record; the rate is carried in two's complement (R4). -/
def ResLive.words (l : ResLive) : List Word :=
  [natWord l.level, natWord l.state.code, BitVec.ofInt 16 l.rate] ++ longWords l.lastGood ++
    [natWord l.sampleLevel] ++ longWords l.sampleTime

/-- A live feeder record (R94). -/
def FeederLive.words (now : Uptime) (l : FeederLive) : List Word :=
  [natWord l.committed, flagWord l.busy, natWord l.holder.val, flagWord l.released,
    natWord (remaining now l.spacingT)]

/-- The words of one entry of a settings table (R164). -/
def Settings.entry (tab : Settings) (t i : Nat) : List Word :=
  match t with
  | 0 => (tab.t0.toList.getD i {}).words
  | 1 => (tab.t1.toList.getD i {}).words
  | 2 => (tab.t2.toList.getD i {}).words
  | 3 => (tab.t3.toList.getD i {}).words
  | 4 => (if i = 0 then tab.t4a else tab.t4b).words
  | 5 => (tab.t5.toList.getD i {}).words
  | 6 => [natWord (tab.t6.toList.getD i 0).val]
  | 7 => (tab.t7.toList.getD i {}).words
  | 8 => (tab.t8.toList.getD i {}).words
  | 9 => tab.t9.words
  | 14 => longWords (tab.t14.toList.getD i 0)
  | _ => []

/-- The words of one T10 record (R58). -/
def pumpWords (s : Part) (i : Nat) : List Word :=
  match slotOf? i with
  | some p => (s.plant.pump p).words (assigned s.tab p)
  | none => []

/-- The words of one entry of any table, as it stands (R164). -/
def tableEntry (s : Part) (t i : Nat) : List Word :=
  match t with
  | 10 => pumpWords s i
  | 11 => (s.plant.stages.toList.getD i {}).words s.cal.uptime
  | 12 => requestWords s.plant.queue[i]?
  | 13 => (s.levels.toList.getD i {}).words
  | t => s.tab.entry t i

/-! ### The written entries -/

/-- One entry that a TABLE_WRITE writes: its table, its index and its words, the flags taken as R165
states. -/
structure Row where
  table : Nat
  index : Nat
  words : List Word
  deriving DecidableEq, Repr

/-- A flag field in a word of its own is set for any non-zero word (R165). -/
def asFlag (w : Word) : Word := if w = 0 then 0 else 1

/-- The words of an entry with its flags taken as R165 states: an own-word flag for any non-zero word, and
bits of a shared flag word that carry no flag clear. -/
def takeFlags (t : Nat) (ws : List Word) : List Word :=
  match t with
  | 0 | 1 | 2 | 5 | 7 => ws.modify 0 asFlag
  | 3 => ws.modify 14 asFlag
  | 8 => (ws.modify 0 asFlag).modify 2 fun w => w &&& 0x00FF
  | 9 => ws.modify 6 fun w => w &&& 0x0007
  | _ => ws

/-- The rows of one segment (R163). -/
def segmentRows (g : Segment) : List Row :=
  let t := g.table.toNat
  (List.range g.count.toNat).map fun i =>
    { table := t, index := g.first.toNat + i,
      words := takeFlags t ((g.words.drop (i * entryWords t)).take (entryWords t)) }

/-- The rows of a request, in order (R165). -/
def rowsOf (segs : List Segment) : List Row := segs.flatMap segmentRows

/-- The words last written for an entry, if the request writes it. -/
def rowFor (rows : List Row) (t i : Nat) : Option (List Word) :=
  (rows.reverse.find? fun r => r.table == t && r.index == i).map Row.words

/-- The request writes an entry of the table. -/
def touches (rows : List Row) (t : Nat) : Bool := rows.any fun r => r.table == t

/-- The request writes this entry. -/
def touchesEntry (rows : List Row) (t i : Nat) : Bool := rows.any fun r => r.table == t && r.index == i

/-- Field `j` of an entry's words, as a number. -/
def field (ws : List Word) (j : Nat) : Nat := (ws.getD j 0).toNat

/-- Field `j`, a flag. -/
def flagField (ws : List Word) (j : Nat) : Bool := field ws j != 0

/-- The structural fields of each table, by their places in the entry (R1, R30, R53, R140, R161). -/
def structuralFields : Nat → List Nat
  | 0 => [0, 1, 2, 3, 4, 5, 6]
  | 1 => [0, 1]
  | 2 => [0, 1, 2, 3]
  | 3 => [0, 1, 2]
  | 9 => [0]
  | _ => []

/-- The row changes a structural field (R165 step 3). -/
def changesStructure (tab : Settings) (r : Row) : Bool :=
  (structuralFields r.table).any fun j => field r.words j != field (tab.entry r.table r.index) j

/-! ### Judgement -/

/-- The judgement of one table: the refusal with the entry it names, or the resulting table and whether a
value was clamped. -/
inductive Verdict (α : Type)
  | refused (r : Reason) (t i : Nat)
  | passed (a : α) (clamped : Bool)

/-- The first of a list of tests on indexes that fails. -/
def firstFailure {n : Nat} (bad : Fin n → Bool) : Option (Fin n) := (List.finRange n).find? bad

/-- The first index that repeats one before it, under a relation (R25, R54, R141, R149, R154). -/
def firstRepeat {n : Nat} (same : Fin n → Fin n → Bool) : Option (Fin n) :=
  (List.finRange n).find? fun i => (List.finRange n).any fun j => decide (j.val < i.val) && same j i

/-- A T0 entry as written (R140); the raw span of a used entry is at least 1 (R141). -/
def pointOf (ws : List Word) : PointEntry :=
  { used := flagField ws 0, station := field ws 1, point := field ws 2, kind := field ws 3,
    target := field ws 4, zero := field ws 5, span := field ws 6 }

/-- The range tests of a used T0 entry (R141 test 1). -/
def PointEntry.outOfRange (e : PointEntry) : Bool :=
  e.used && (decide (e.station < 1) || decide (62 < e.station) || decide (255 < e.point) || decide (4 < e.kind) ||
    (if e.kind = 0 then decide (9 < e.target) else decide (31 < e.target)))

/-- The raw span of a used entry raised to 1 (R141). -/
def PointEntry.raised (e : PointEntry) : PointEntry := if e.used ∧ e.span = 0 then { e with span := 1 } else e

/-- T0 (R141). -/
def judgeT0 (tab : Settings) (rows : List Row) : Verdict (Vector PointEntry 128) :=
  let raw : Vector PointEntry 128 := Vector.ofFn fun i =>
    match rowFor rows 0 i.val with
    | some ws => pointOf ws
    | none => tab.t0[i]
  match firstFailure (n := 128) fun i => raw[i].outOfRange with
  | some i => .refused .badValue 0 i.val
  | none =>
    match firstRepeat (n := 128) fun j i =>
        raw[j].used && raw[i].used && raw[j].station == raw[i].station && raw[j].point == raw[i].point with
    | some i => .refused .duplicateKey 0 i.val
    | none =>
      match firstRepeat (n := 128) fun j i =>
          raw[j].used && raw[i].used && raw[j].kind == raw[i].kind && raw[j].target == raw[i].target with
      | some i => .refused .duplicateKey 0 i.val
      | none =>
        .passed (Vector.ofFn fun i => raw[i].raised)
          ((List.finRange 128).any fun i => raw[i].raised != raw[i])

/-- A T1 entry as written, its ranged fields clamped (R2). -/
def resOf (ws : List Word) : ResEntry :=
  { enabled := flagField ws 0, kind := if field ws 1 = 1 then .unmetered else .metered
    fs := clamp 1000 20000 (field ws 2), la := field ws 3, tlb := field ws 4, thb := field ws 5
    ha := field ws 6, ah := clamp 0 500 (field ws 7), stale := clamp 10 3600 (field ws 8)
    rateInterval := clamp 30 600 (field ws 9), cr := clamp 0 2000 (field ws 10), pd := clamp 0 2000 (field ws 11) }

/-- The ordering constraint of an enabled METERED entry (R2). -/
def ResEntry.ordered (e : ResEntry) : Bool :=
  !(e.enabled && e.kind == .metered) ||
    (decide (0 < e.la) && decide (e.la < e.tlb) && decide (e.tlb < e.thb) && decide (e.thb < e.ha) &&
      decide (e.ha ≤ e.fs) && decide (2 * e.ah + e.la < e.ha))

/-- T1 (R2). A kind outside 0..1 is refused with BAD_VALUE. -/
def judgeT1 (tab : Settings) (rows : List Row) : Verdict (Vector ResEntry 10) :=
  let new : Vector ResEntry 10 := Vector.ofFn fun i =>
    match rowFor rows 1 i.val with
    | some ws => resOf ws
    | none => tab.t1[i]
  match firstFailure (n := 10) fun i =>
      match rowFor rows 1 i.val with
      | some ws => decide (1 < field ws 1)
      | none => false with
  | some i => .refused .badValue 1 i.val
  | none =>
    match firstFailure (n := 10) fun i => !new[i].ordered with
    | some i => .refused .badValue 1 i.val
    | none =>
      .passed new ((List.finRange 10).any fun i =>
        match rowFor rows 1 i.val with
        | some ws => (resOf ws).words != ws
        | none => false)

/-- The structural tests of a T2 entry as written (R31). -/
def stageBad (ws : List Word) : Bool :=
  decide (field ws 1 < 1) || decide (9 < field ws 1) || decide (9 < field ws 2) || field ws 2 == field ws 1 ||
    decide (field ws 3 < 1) || decide (4 < field ws 3)

/-- A T2 entry as written, its tuning fields clamped (R31). -/
def stageEntryOf (ws : List Word) : StageEntry :=
  let n := field ws 3
  { enabled := flagField ws 0, delivery := Fin.ofNat 10 (field ws 1), suction := Fin.ofNat 10 (field ws 2)
    n := n, maxRunning := clamp 1 n (field ws 4), hb := clamp 1 250 (field ws 5), kr := clamp 0 20 (field ws 6)
    pf := clamp 0 1000 (field ws 7), sb := clamp 0 5000 (field ws 8), staleCount := clamp 0 n (field ws 9)
    spacing := clamp 0 600 (field ws 10) }

/-- T2 (R31). -/
def judgeT2 (tab : Settings) (rows : List Row) : Verdict (Vector StageEntry 8) :=
  match firstFailure (n := 8) fun i =>
      match rowFor rows 2 i.val with
      | some ws => stageBad ws
      | none => false with
  | some i => .refused .badValue 2 i.val
  | none =>
    .passed
      (Vector.ofFn fun i =>
        match rowFor rows 2 i.val with
        | some ws => stageEntryOf ws
        | none => tab.t2[i])
      ((List.finRange 8).any fun i =>
        match rowFor rows 2 i.val with
        | some ws => (stageEntryOf ws).words != ws
        | none => false)

/-- The tests of a T3 entry's fields that have no nearest sensible value (R54). -/
def pumpBad (ws : List Word) : Bool :=
  decide (field ws 0 < 1) || decide (62 < field ws 0) || decide (255 < field ws 1) || decide (1 < field ws 2) ||
    decide (2 < field ws 4)

/-- A T3 entry as written, its tuning fields clamped (R53, R54). -/
def pumpEntryOf (ws : List Word) : PumpEntry :=
  { station := field ws 0, point := field ws 1, feeder := if field ws 2 = 1 then .b else .a
    rating := clamp 1 500 (field ws 3), defaultOwner := (Ownership.ofCode? (field ws 4)).getD .outOfService
    minRun := clamp 0 3600 (field ws 5), minRest := clamp 0 3600 (field ws 6)
    startConfirm := clamp 5 120 (field ws 7), stopConfirm := clamp 5 120 (field ws 8)
    startsPerHour := clamp 1 12 (field ws 9), retryLimit := clamp 0 5 (field ws 10)
    retryInterval := clamp 60 3600 (field ws 11), provingTime := clamp 60 3600 (field ws 12)
    tripConfirm := clamp 1 4 (field ws 13), fallback := flagField ws 14 }

/-- T3 (R54), with the refusal of a feeder change of a STARTING pump (R108). DESIGN CHOICE: that refusal is tested
after BAD_VALUE and DUPLICATE_KEY and names the lowest index that fails; R54 and R108 give it no place (log 43). -/
def judgeT3 (s : Part) (rows : List Row) : Verdict (Vector PumpEntry 32) :=
  let new : Vector PumpEntry 32 := Vector.ofFn fun i =>
    match rowFor rows 3 i.val with
    | some ws => pumpEntryOf ws
    | none => s.tab.t3[i]
  match firstFailure (n := 32) fun i =>
      match rowFor rows 3 i.val with
      | some ws => pumpBad ws
      | none => false with
  | some i => .refused .badValue 3 i.val
  | none =>
    match firstRepeat (n := 32) fun j i => new[j].station == new[i].station && new[j].point == new[i].point with
    | some i => .refused .duplicateKey 3 i.val
    | none =>
      match firstFailure (n := 32) fun i =>
          assigned s.tab i && (s.plant.pump i).state == .starting && new[i].feeder != s.tab.t3[i].feeder with
      | some i => .refused .busy 3 i.val
      | none =>
        .passed new ((List.finRange 32).any fun i =>
          match rowFor rows 3 i.val with
          | some ws => (pumpEntryOf ws).words != ws
          | none => false)

/-- A T4 entry as written, clamped (R93). -/
def feederEntryOf (ws : List Word) : FeederEntry :=
  { budget := clamp 0 2000 (field ws 0), spacing := clamp 5 600 (field ws 1) }

/-- T4 (R93). -/
def judgeT4 (tab : Settings) (rows : List Row) : Verdict (FeederEntry × FeederEntry) :=
  let new (i : Nat) (old : FeederEntry) : FeederEntry :=
    match rowFor rows 4 i with
    | some ws => feederEntryOf ws
    | none => old
  .passed (new 0 tab.t4a, new 1 tab.t4b)
    ([0, 1].any fun i =>
      match rowFor rows 4 i with
      | some ws => (feederEntryOf ws).words != ws
      | none => false)

/-- The refused fields of a T5 entry (R24). -/
def windowBad (ws : List Word) : Bool := decide (1 < field ws 1) || decide (2 < field ws 3)

/-- A T5 entry as written, its start minute clamped (R24). -/
def windowOf (ws : List Word) : WindowEntry :=
  { used := flagField ws 0, dayType := Fin.ofNat 2 (field ws 1), start := clamp 0 1439 (field ws 2)
    cls := if field ws 3 = 0 then .cheap else if field ws 3 = 1 then .normal else .peak }

/-- T5 (R24, R25 condition 1). -/
def judgeT5 (tab : Settings) (rows : List Row) : Verdict (Vector WindowEntry 24) :=
  let new : Vector WindowEntry 24 := Vector.ofFn fun i =>
    match rowFor rows 5 i.val with
    | some ws => windowOf ws
    | none => tab.t5[i]
  match firstFailure (n := 24) fun i =>
      match rowFor rows 5 i.val with
      | some ws => windowBad ws
      | none => false with
  | some i => .refused .badValue 5 i.val
  | none =>
    match firstRepeat (n := 24) fun j i =>
        new[j].used && new[i].used && new[j].dayType == new[i].dayType && new[j].start == new[i].start with
    | some i => .refused .badValue 5 i.val
    | none =>
      .passed new ((List.finRange 24).any fun i =>
        match rowFor rows 5 i.val with
        | some ws => (windowOf ws).words != ws
        | none => false)

/-- A day type has a used window at minute 0 (R25 condition 2). -/
def hasMidnight (t5 : Vector WindowEntry 24) (d : Fin 2) : Bool :=
  t5.toList.any fun w => w.used && w.dayType == d && w.start == 0

/-- T6 (R23, R25 condition 2), judged with T5 as it would stand. -/
def judgeT6 (tab : Settings) (t5 : Vector WindowEntry 24) (rows : List Row) : Verdict (Vector (Fin 2) 7) :=
  let new : Vector (Fin 2) 7 := Vector.ofFn fun i =>
    match rowFor rows 6 i.val with
    | some ws => Fin.ofNat 2 (field ws 0)
    | none => tab.t6[i]
  match firstFailure (n := 7) fun i =>
      match rowFor rows 6 i.val with
      | some ws => decide (1 < field ws 0)
      | none => false with
  | some i => .refused .badValue 6 i.val
  | none =>
    match firstFailure (n := 7) fun i => !hasMidnight t5 new[i] with
    | some i => .refused .badValue 6 i.val
    | none => .passed new false

/-- A T7 entry as written (R149). -/
def mirrorOf (ws : List Word) : MirrorEntry :=
  { used := flagField ws 0, direction := field ws 1, low := field ws 2, high := field ws 3, base := field ws 4 }

/-- The range tests of a used T7 entry (R149). -/
def MirrorEntry.outOfRange (e : MirrorEntry) : Bool :=
  e.used && (decide (2 < e.direction) || decide (e.low < 1) || decide (62 < e.low) || decide (e.high < e.low) ||
    decide (62 < e.high) || decide (e.base < 1) || decide (62 < e.base))

/-- The window covers a direction: UP is 0, DOWN is 1, and BOTH, 2, covers both (R149). -/
def MirrorEntry.covers (e : MirrorEntry) (d : Nat) : Bool := e.direction == 2 || e.direction == d

/-- Two used windows cover a common direction and hold a common source address (R149). -/
def MirrorEntry.overlaps (e e' : MirrorEntry) : Bool :=
  e.used && e'.used && ((e.covers 0 && e'.covers 0) || (e.covers 1 && e'.covers 1)) &&
    decide (e.low ≤ e'.high) && decide (e'.low ≤ e.high)

/-- T7 (R149). -/
def judgeT7 (tab : Settings) (rows : List Row) : Verdict (Vector MirrorEntry 8) :=
  let new : Vector MirrorEntry 8 := Vector.ofFn fun i =>
    match rowFor rows 7 i.val with
    | some ws => mirrorOf ws
    | none => tab.t7[i]
  match firstFailure (n := 8) fun i => new[i].outOfRange with
  | some i => .refused .badValue 7 i.val
  | none =>
    match firstRepeat (n := 8) fun j i => new[j].overlaps new[i] with
    | some i => .refused .badValue 7 i.val
    | none => .passed new false

/-- A T8 entry as written; bits 8..15 of the stage mask are stored clear (R154). -/
def sourceOf (ws : List Word) : SourceEntry :=
  { used := flagField ws 0, address := field ws 1, mask := BitVec.ofNat 8 (field ws 2) }

/-- T8 (R154). -/
def judgeT8 (tab : Settings) (rows : List Row) : Verdict (Vector SourceEntry 4) :=
  let new : Vector SourceEntry 4 := Vector.ofFn fun i =>
    match rowFor rows 8 i.val with
    | some ws => sourceOf ws
    | none => tab.t8[i]
  match firstFailure (n := 4) fun i =>
      new[i].used && (decide (new[i].address < 1) || decide (62 < new[i].address)) with
  | some i => .refused .badValue 8 i.val
  | none =>
    match firstRepeat (n := 4) fun j i => new[j].used && new[i].used && new[j].address == new[i].address with
    | some i => .refused .duplicateKey 8 i.val
    | none => .passed new false

/-- The upline quiet time clamped: 0 is off, and 1..9 becomes 10 (R161). -/
def clampQuiet (n : Nat) : Nat := if n = 0 then 0 else clamp 10 3600 n

/-- The T9 entry as written, clamped (R161). -/
def generalOf (ws : List Word) : General :=
  { service := field ws 0, notice := field ws 1, classOrder := field ws 2, bypassLimit := clamp 1 7 (field ws 3)
    quietTime := clampQuiet (field ws 4), settleTime := clamp 30 600 (field ws 5)
    autoResume := (ws.getD 6 0).getLsbD 0, alertEnabled := (ws.getD 6 0).getLsbD 1
    sourceValidation := (ws.getD 6 0).getLsbD 2 }

/-- The refused values of T9 (R161). -/
def generalBad (s : Part) (ws : List Word) : Bool :=
  decide (62 < field ws 0) || decide (62 < field ws 1) || decide (field ws 2 < 1) || decide (6 < field ws 2) ||
    (field ws 0 == 0 && s.mgmt.addrMode == .service) || (field ws 1 == 0 && s.plant.events.on)

/-- T9 (R161). -/
def judgeT9 (s : Part) (rows : List Row) : Verdict General :=
  match rowFor rows 9 0 with
  | none => .passed s.tab.t9 false
  | some ws =>
    if generalBad s ws then .refused .badValue 9 0
    else .passed (generalOf ws) ((generalOf ws).words != ws)

/-- T14: every 32-bit value is within range (R57). -/
def newT14 (tab : Settings) (rows : List Row) : Vector (BitVec 32) 32 :=
  Vector.ofFn fun i =>
    match rowFor rows 14 i.val with
    | some ws => ws.getD 0 0 ++ ws.getD 1 0
    | none => tab.t14[i]

/-- A judgement continued with the table it gives. -/
def Verdict.andThen {α β : Type} (x : Verdict α) (f : α → Bool → Verdict β) : Verdict β :=
  match x with
  | .refused r t i => .refused r t i
  | .passed a c => f a c

/-- The judgement of every table the request writes, in order of table id; the first refusal decides (R165
step 4). -/
def judge (s : Part) (rows : List Row) : Verdict Settings :=
  let tab := s.tab
  let part {α : Type} (t : Nat) (old : α) (v : Verdict α) : Verdict α :=
    if touches rows t then v else .passed old false
  (part 0 tab.t0 (judgeT0 tab rows)).andThen fun t0 c0 =>
  (part 1 tab.t1 (judgeT1 tab rows)).andThen fun t1 c1 =>
  (part 2 tab.t2 (judgeT2 tab rows)).andThen fun t2 c2 =>
  (part 3 tab.t3 (judgeT3 s rows)).andThen fun t3 c3 =>
  (part 4 (tab.t4a, tab.t4b) (judgeT4 tab rows)).andThen fun t4 c4 =>
  (if touches rows 5 || touches rows 6 then judgeT5 tab rows else .passed tab.t5 false).andThen fun t5 c5 =>
  (if touches rows 5 || touches rows 6 then judgeT6 tab t5 rows else .passed tab.t6 false).andThen fun t6 c6 =>
  (part 7 tab.t7 (judgeT7 tab rows)).andThen fun t7 c7 =>
  (part 8 tab.t8 (judgeT8 tab rows)).andThen fun t8 c8 =>
  (part 9 tab.t9 (judgeT9 s rows)).andThen fun t9 c9 =>
  .passed
    { t0 := t0, t1 := t1, t2 := t2, t3 := t3, t4a := t4.1, t4b := t4.2, t5 := t5, t6 := t6, t7 := t7, t8 := t8,
      t9 := t9, t14 := newT14 tab rows }
    (c0 || c1 || c2 || c3 || c4 || c5 || c6 || c7 || c8 || c9)

end Sys2Proof.Machine
end

