-- ==== Sys2Proof/Machine/Line.lean ====
section
/-!
DEFINITION. The Line Interface (chapter 8) but for the disposal of good frames: the part's current address,
the four queues, the mirroring of a frame, check errors and the check hold, the upline quiet timer, and the
three transmitters.
-/

namespace Sys2Proof.Machine

/-- The part's current address: 63 in COMMISSIONING mode, the service address in SERVICE mode (R130). -/
def Part.address (s : Part) : Byte :=
  match s.mgmt.addrMode with
  | .commissioning => 63
  | .service => BitVec.ofNat 8 s.tab.t9.service

/-! ### Queues (R133) -/

/-- The capacity of the forward queues and of the mirror queue (R133). -/
def frameCapacity : Nat := 16

/-- The capacity of the reply queue (R133). -/
def replyCapacity : Nat := 4

/-- A frame is entered in the U forward queue, or dropped with FORWARD_DROP where it is full (R133). -/
def enterU (f : Frame) (s : Part) : Part :=
  if s.line.uQueue.length < frameCapacity then
    { s with line := { s.line with uQueue := s.line.uQueue ++ [f] } }
  else s.raise .forwardDrop

/-- A frame is entered in the D forward queue with the commands it carries, or dropped with FORWARD_DROP
where it is full (R133). -/
def enterD (f : DFrame) (s : Part) : Part :=
  if s.line.dQueue.length < frameCapacity then
    { s with line := { s.line with dQueue := s.line.dQueue ++ [f] } }
  else s.raise .forwardDrop

/-- A copy is entered in the mirror queue, or dropped with MIRROR_DROP where it is full (R133, R150). -/
def enterMirror (f : Frame) (s : Part) : Part :=
  if s.line.mirrorQueue.length < frameCapacity then
    { s with line := { s.line with mirrorQueue := s.line.mirrorQueue ++ [f] } }
  else s.raise .mirrorDrop

/-- The reply queue is full (R133). -/
def replyFull (s : Part) : Bool := decide (replyCapacity ≤ s.line.replyQueue.length)

/-- A reply is entered in the reply queue; it is lost where the queue is full (R133). -/
def enterReply (r : Reply) (s : Part) : Part :=
  if replyFull s then s else { s with line := { s.line with replyQueue := s.line.replyQueue ++ [r] } }

/-! ### Mirroring (R149, R150) -/

/-- The two directions of mirroring, by their codes in T7 (R149). -/
inductive Direction
  | up | down
  deriving DecidableEq, Repr

/-- The code of a direction in T7 (R149). -/
def Direction.code : Direction → Nat
  | .up => 0
  | .down => 1

/-- The window covers the direction and holds the source address (R150). -/
def MirrorEntry.holdsSource (e : MirrorEntry) (d : Direction) (source : Byte) : Bool :=
  e.used && e.covers d.code && decide (e.low ≤ source.toNat) && decide (source.toNat ≤ e.high)

/-- The address that a window gives a source in the copy (R150). -/
def MirrorEntry.translated (e : MirrorEntry) (source : Byte) : Nat := e.base + source.toNat - e.low

/-- A frame is offered for mirroring in a direction (R150). -/
def mirror (d : Direction) (f : Frame) (s : Part) : Part :=
  match s.tab.t7.toList.find? fun e => e.holdsSource d f.source with
  | none => s
  | some e =>
    if 62 < e.translated f.source then s.raise .mirrorDrop
    else enterMirror { f with source := BitVec.ofNat 8 (e.translated f.source) } s

/-! ### Reception: check errors and the check hold (R128 to R130) -/

/-- The receiver of a port is set; port M has none (R127). -/
def Part.setRx (s : Part) (port : Port) (r : Rx) : Part :=
  match port with
  | .u => { s with line := { s.line with rxU := r } }
  | .d => { s with line := { s.line with rxD := r } }
  | .m => s

/-- The receiver of a port (R128); that of port M is never out of HUNT (R127). -/
def Part.rx (s : Part) : Port → Rx
  | .u => s.line.rxU
  | .d => s.line.rxD
  | .m => .hunt

/-- The destination byte that a receiver holds, if it has been received. -/
def Rx.dest? : Rx → Option Byte
  | .hunt => none
  | .header [] => none
  | .header (b :: _) => some b
  | .payload d _ _ _ _ => some d
  | .check d _ _ _ => some d

/-- A check error: the frame is dropped, LINE_CHECK is raised, and on U the check hold is set where the
destination byte was received and is the part's current address (R129, R130). -/
def checkErrorEvent (port : Port) (dest : Option Byte) (s : Part) : Part :=
  match port with
  | .m => s
  | .d => (s.setRx .d .hunt).raise .lineCheck
  | .u =>
    let t := (s.setRx .u .hunt).raise .lineCheck
    if dest = some s.address then { t with line := { t.line with checkHold := true } } else t

/-- The frame under assembly at a port is abandoned: it counts as a check error. A receiver in HUNT has no
frame to abandon (R128). -/
def abandonFrame (port : Port) (s : Part) : Part :=
  if s.rx port = .hunt then s else checkErrorEvent port (s.rx port).dest? s

/-- 250 ms without a character on U: a frame still under assembly has been abandoned for its gap, and the
check hold is cleared (R128, R130). -/
def checkHoldQuietEvent (s : Part) : Part :=
  let t := abandonFrame .u s
  { t with line := { t.line with checkHold := false } }

/-! ### Upline quiet (R137) -/

/-- The upline quiet timer is restarted by a good frame on U where the quiet time is not 0, and the upline
lost condition is cleared (R137). A frame taken at the uptime of the expiry, before the expiry is taken, so puts the
loss off; the pumps that it stops fall back all the same (R160, `stopFallback`). -/
def uplineHeard (s : Part) : Part :=
  { s with line := { s.line with
      quietT := if s.tab.t9.quietTime = 0 then s.line.quietT else startTimer s.cal.uptime s.tab.t9.quietTime
      uplineLost := false } }

/-- Expiry of the upline quiet timer: UPLINE_LOST is raised, the condition is set and the fallback applied
(R137, R159). -/
def quietEvent (s : Part) : Part :=
  if due s.cal.uptime s.line.quietT then
    (({ s with line := { s.line with quietT := none, uplineLost := true } }).raise .uplineLost).onPlant fallback
  else s

/-- The action of a T9 write on the timer and the condition (R137). -/
def quietWrite (old new : Nat) (s : Part) : Part :=
  if new = 0 then { s with line := { s.line with quietT := none, uplineLost := false } }
  else if old = 0 then { s with line := { s.line with quietT := startTimer s.cal.uptime new } }
  else s

/-! ### The U transmitter (R125, R134) -/

/-- The frame of a reply, its source address read when it is taken (R134, R139). -/
def replyFrame (address : Byte) (r : Reply) : Frame :=
  { dest := r.dest, source := address, kind := kindReply, payload := r.status :: r.reason :: r.tag :: r.data }

/-- The frame of a notice, formed from the state as it stands (R125, R139). -/
def noticeFrame (s : Part) : Frame :=
  { dest := BitVec.ofNat 8 s.tab.t9.notice, source := s.address, kind := kindNotice
    payload := wordBytes s.plant.events.pending ++ wordBytes (conditionSummary s) ++
      [BitVec.ofNat 8 s.mgmt.mode.code] }

/-- The head of the U forward queue is taken (R134). -/
def takeForwardU (f : Frame) (rest : List Frame) (s : Part) : Part :=
  { s with line := { s.line with uTx := some (.forward f), uQueue := rest, uTurn := .own } }

/-- The notice in the slot is taken: the slot becomes EMPTY and the notified set becomes the pending set that
the notice carries (R125). -/
def takeNotice (s : Part) : Part :=
  { s with
    line := { s.line with uTx := some (.notice (noticeFrame s)), uTurn := .forward }
    plant := { s.plant with
      events := { s.plant.events with waiting := false, notified := s.plant.events.pending } } }

/-- Own traffic is taken: the head of the reply queue, or else the notice (R134). -/
def takeOwn (s : Part) : Part :=
  match s.line.replyQueue with
  | r :: rest =>
    { s with line := { s.line with
        uTx := some (.reply (replyFrame s.address r) r.restart), replyQueue := rest, uTurn := .forward } }
  | [] => takeNotice s

/-- Own traffic waits on U (R134). -/
def ownWaiting (s : Part) : Bool := s.line.replyQueue != [] || s.plant.events.waiting

/-- The idle U transmitter takes its next frame, by its turn (R134). -/
def uStartEvent (s : Part) : Part :=
  if s.line.uTx.isSome then s
  else
    match s.line.uQueue with
    | f :: rest => if ownWaiting s ∧ s.line.uTurn = .own then takeOwn s else takeForwardU f rest s
    | [] => if ownWaiting s then takeOwn s else s

/-! ### The D transmitter (R70, R135) -/

/-- The pump's command can be included in a command frame (R70, R135). -/
def includable (tab : Settings) (x : Plant) (p : Fin 32) : Bool :=
  assigned tab p && ((x.pump p).awaits .run || (x.pump p).awaits .stop) && (x.pump p).reachable &&
    !((x.pump p).awaits .run && (x.stage (stageOf p)).override == .dryRun)

/-- The slots in the order of the search: from the slot after the pointer, wrapping from 31 to 0 (R135). -/
def searchOrder (pointer : Fin 32) : List (Fin 32) := slots.map fun i => pointer + 1 + i

/-- The slot whose station the next command frame serves (R135 step 1). -/
def servedSlot (tab : Settings) (pointer : Fin 32) (x : Plant) : Option (Fin 32) :=
  (searchOrder pointer).find? (includable tab x)

/-- The slots that a command frame for a station includes, in slot order, at most 30 (R135 step 2). -/
def includedSlots (tab : Settings) (x : Plant) (station : Nat) : List (Fin 32) :=
  (slots.filter fun p => includable tab x p && tab.t3[p].station == station).take 30

/-- The item of a pump's command (R70). -/
def commandItem (tab : Settings) (x : Plant) (p : Fin 32) : List Byte :=
  [BitVec.ofNat 8 tab.t3[p].point, if (x.pump p).holds .run then actionCode .run else actionCode .stop]

/-- A command's `id`, with the slot that holds it. -/
def carriedOf (x : Plant) (p : Fin 32) : Option (Fin 32 × Nat) := (x.pump p).cmd.map fun c => (p, c.id)

/-- The command frame for some slots of one station (R135). -/
def commandFrame (address : Byte) (tab : Settings) (x : Plant) (station : Nat) (ps : List (Fin 32)) : DFrame :=
  { frame := { dest := BitVec.ofNat 8 station, source := address, kind := kindCommand
               payload := ps.flatMap (commandItem tab x) }
    carried := ps.filterMap (carriedOf x) }

/-- An included command becomes in transit (R70). -/
def toTransit (x : Plant) (p : Fin 32) : Plant :=
  x.setPump p { x.pump p with cmd := (x.pump p).cmd.map fun c => { c with progress := .inTransit } }

/-- The command frame for the station of a slot is built and taken (R135). DESIGN CHOICE: unsafe, log 48. Where more
than 30 includable commands of one station await, the steps of R135 are followed: the pointer becomes the thirtieth
slot, and the next search can serve the same station before another. -/
def takeCommand (p : Fin 32) (s : Part) : Part :=
  let station := s.tab.t3[p].station
  let ps := includedSlots s.tab s.plant station
  { s with
    line := { s.line with
      dTx := some (commandFrame s.address s.tab s.plant station ps), dTurn := .forward
      pointer := ps.getLastD s.line.pointer }
    plant := ps.foldl toTransit s.plant }

/-- The head of the D forward queue is taken (R135). -/
def takeForwardD (f : DFrame) (rest : List DFrame) (s : Part) : Part :=
  { s with line := { s.line with dTx := some f, dQueue := rest, dTurn := .own } }

/-- The idle D transmitter takes its next frame, by its turn (R135). -/
def dStartEvent (s : Part) : Part :=
  if s.line.dTx.isSome then s
  else
    match s.line.dQueue, servedSlot s.tab s.line.pointer s.plant with
    | f :: rest, some p => if s.line.dTurn = .own then takeCommand p s else takeForwardD f rest s
    | f :: rest, none => takeForwardD f rest s
    | [], some p => takeCommand p s
    | [], none => s

/-- A carried command that is still the pump's command and still in transit becomes sent, and its confirm
timer starts with the length standing in T3 (R70). -/
def commandSent (v : View) (x : Plant) (c : Fin 32 × Nat) : Plant :=
  let q := x.pump c.1
  match q.cmd with
  | none => x
  | some m =>
    if m.id = c.2 ∧ m.progress = .inTransit then
      let q' := { q with cmd := some { m with progress := .sent } }
      x.setPump c.1 (match m.action with
        | .run => { q' with startT := startTimer v.now v.tab.t3[c.1].startConfirm }
        | .stop => { q' with stopT := startTimer v.now v.tab.t3[c.1].stopConfirm })
    else x

/-- The transmission on D completes (R70, R135, R157). -/
def dCompleteEvent (s : Part) : Part :=
  match s.line.dTx with
  | none => s
  | some f =>
    ({ s with line := { s.line with dTx := none } }).onPlant fun v x => f.carried.foldl (commandSent v) x

/-! ### The M transmitter (R136) -/

/-- The idle M transmitter takes the head of the mirror queue (R136). -/
def mStartEvent (s : Part) : Part :=
  match s.line.mTx, s.line.mirrorQueue with
  | none, f :: rest => { s with line := { s.line with mTx := some f, mirrorQueue := rest } }
  | _, _ => s

/-- The transmission on M completes; it hands nothing on (R136). -/
def mCompleteEvent (s : Part) : Part := { s with line := { s.line with mTx := none } }

end Sys2Proof.Machine
end

