-- ==== Sys2Proof/Machine/Filter.lean ====
section
/-!
DEFINITION. The Command Filter (chapter 10): the judgement of an upline COMMAND frame item by item, the
refusal of a frame, and the effects of the items of a passed frame. The changes of ownership are in
Machine/Pumps.lean and Machine/PumpEvents.lean.
-/

namespace Sys2Proof.Machine

/-- A used T8 entry admits commands from the source for the stage of the pump (R154, R155). -/
def admits (tab : Settings) (source : Byte) (p : Fin 32) : Bool :=
  tab.t8.toList.any fun e => e.used && e.address == source.toNat && e.mask.getLsbD (stageOf p).val

/-- The assigned pump that an item of a frame to `station` addresses, if there is one (R155). -/
def itemPump (tab : Settings) (station point : Nat) : Option (Fin 32) :=
  slots.find? fun p => assigned tab p && tab.t3[p].station == station && tab.t3[p].point == point

/-- The tests of a RUN item past the common tests, in order (R105, R155). -/
def runRefusal (v : View) (x : Plant) (p : Fin 32) : Option Reason :=
  let q := x.pump p
  let f := x.feeder v.tab.t3[p].feeder
  if q.state = .resting then some .rest
  else if q.state ≠ .off then some .state
  else if startLimited v.tab p q then some .limit
  else if (x.stage (stageOf p)).override = .dryRun then some .dry
  else if f.busy then some .slotBusy
  else if (v.tab.feeder v.tab.t3[p].feeder).budget < f.committed + v.tab.t3[p].rating then some .budget
  else none

/-- The tests of an item that addresses a pump, in order: the reason of the first that fails (R155). -/
def itemRefusal (v : View) (source : Byte) (x : Plant) (p : Fin 32) (action : Byte) : Option Reason :=
  let q := x.pump p
  if !admits v.tab source p then some .notPermitted
  else if q.localSel then some .localControl
  else if q.owner = .outOfService then some .outOfService
  else if q.owner = .auto then some .owned
  else
    match actionOf? action with
    | none => some .badAction
    | some .stop => none
    | some .run => runRefusal v x p

/-- The effect of a passed RUN: STARTING with the RUN in transit, the slot and the committed power taken as
by a grant (R105, R157). -/
def manualRun (v : View) (p : Fin 32) (x : Plant) : Plant :=
  let f := v.tab.t3[p].feeder
  let y := (x.setPump p { (x.pump p).goto .starting with uncommanded := false }).makePending p .run .inTransit
  handCommitted v.tab p (y.setFeeder f ((y.feeder f).take p v.now (v.tab.feeder f).spacing))

/-- The effect of a passed STOP, by the pump's state (R157). -/
def manualStop (v : View) (p : Fin 32) (x : Plant) : Plant :=
  let q := x.pump p
  match q.state with
  | .running | .stopping | .stopFailed =>
    handCommitted v.tab p ((x.setPump p (q.goto .stopping)).makePending p .stop .inTransit)
  | .starting =>
    handCommitted v.tab p (leaveStarting p ((x.setPump p (q.goto .stopping)).makePending p .stop .inTransit))
  | .tripped | .lockedOut => x.makePending p .stop .inTransit
  | .unseen | .off | .resting | .queued => x

/-- What the judgement of a frame gives: the refusal of its first refused item, or the records as its items
leave them, with the commands that the frame carries. -/
inductive Judgement
  | refused (r : Reason) (index : Nat) (point : Byte)
  | passed (x : Plant) (carried : List (Fin 32 × Nat))

/-- The effect of one passed item, with the command that the frame comes to carry (R157). -/
def itemEffect (v : View) (p : Fin 32) (action : Byte) (x : Plant) : Plant × List (Fin 32 × Nat) :=
  let y := if actionOf? action = some .run then manualRun v p x else manualStop v p x
  (y, if y.nextId = x.nextId then [] else [(p, x.nextId)])

/-- The items of a frame are judged one after another, each against the records as those before it leave them
(R155). -/
def judgeItems (v : View) (f : Frame) : Nat → List (Byte × Byte) → Plant → List (Fin 32 × Nat) → Judgement
  | _, [], x, carried => .passed x carried
  | i, (point, action) :: rest, x, carried =>
    match itemPump v.tab f.dest.toNat point.toNat with
    | none => judgeItems v f (i + 1) rest x carried
    | some p =>
      match itemRefusal v f.source x p action with
      | some r => .refused r i point
      | none =>
        let e := itemEffect v p action x
        judgeItems v f (i + 1) rest e.1 (carried ++ e.2)

/-- The judgement of a whole COMMAND frame; a broadcast that holds an item is refused at item 0 (R155). -/
def judgeFrame (v : View) (f : Frame) (x : Plant) : Judgement :=
  match pairsOf f.payload with
  | [] => .passed x []
  | (point, action) :: rest =>
    if f.dest = 0 then .refused .notPermitted 0 point
    else judgeItems v f 0 ((point, action) :: rest) x []

/-- The reply of the Command Filter (R139, R156). -/
def filterReply (source : Byte) (r : Reason) (index : Nat) (point : Byte) : Reply :=
  { dest := source, status := Status.refused.code, reason := r.code, tag := 0
    data := [BitVec.ofNat 8 index, point], restart := false }

/-- The pump holds, in transit, a STOP that the frame carries (R157). -/
def stoppedBy (carried : List (Fin 32 × Nat)) (x : Plant) (p : Fin 32) : Bool :=
  (x.pump p).holds .stop && (x.pump p).cmd.any fun c => c.progress == .inTransit && carried.contains (p, c.id)

/-- The upline loss fallback that meets a passed frame and is taken after it reaches the pumps that the frame stops:
each that would fall back becomes AUTO, in the state in which the STOP leaves it (R160). DEDUCED: unsafe, log 45. -/
def stopFallback (carried : List (Fin 32 × Nat)) (v : View) (x : Plant) : Plant :=
  becomeAuto (slots.filter fun p => fallsBack v x p && stoppedBy carried x p) v x

/-- An upline COMMAND frame in ACTIVE mode: dropped before judgement where the D forward queue is full, and
otherwise refused whole or passed whole (R131, R155 to R157). `met`: the upline quiet timer was due when the frame
came, so that the fallback follows for the pumps that it stops (R160). -/
def filterFrame (met : Bool) (f : Frame) (s : Part) : Part :=
  if s.line.dQueue.length < frameCapacity then
    match judgeFrame s.view f s.plant with
    | .refused r i point => (enterReply (filterReply f.source r i point) s).raise .commandRefused
    | .passed x carried =>
      let t := (enterD { frame := f, carried := carried } { s with plant := x }).onPlant fun v y =>
        reconcileAll v (stagesOf (carried.map Prod.fst)) y
      if met then (t.onPlant settle).onPlant (stopFallback carried) else t
  else s.raise .forwardDrop

end Sys2Proof.Machine
end

