-- ==== Sys2Proof/Machine/Intake.lean ====
section
/-!
DEFINITION. The Intake Unit (chapter 9): source validation, the reading of telemetry reports, the inspection
of outstation replies, and the disposal of good frames on D (R132). The scans that a report causes are taken
before the next report.
-/

namespace Sys2Proof.Machine

/-- The scans an event has caused are taken (R100). -/
def settlePart (s : Part) : Part := s.onPlant settle

/-- The source is named by a used T0 entry or by an assigned pump (R144). -/
def knownSource (tab : Settings) (source : Nat) : Bool :=
  (tab.t0.toList.any fun e => e.used && e.station == source) ||
    slots.any fun p => assigned tab p && tab.t3[p].station == source

/-- The used T0 entry of a station's point (R145). -/
def pointEntry (tab : Settings) (station point : Nat) : Option PointEntry :=
  tab.t0.toList.find? fun e => e.used && e.station == station && e.point == point

/-- A raw value scaled into a level (R146). -/
def scaleLevel (e : PointEntry) (fs raw : Nat) : Nat :=
  if raw ≤ e.zero then 0 else min fs ((raw - e.zero) * fs / e.span)

/-- The quality lets a report of this kind be used: GOOD for every kind, SUSPECT for every kind but LEVEL
(R145). -/
def qualityUsed (kind : Nat) (quality : Byte) : Bool := quality == 0 || (quality == 1 && kind != 0)

/-- The reservoir that a number names, if it names one. -/
def reservoirOf? (n : Nat) : Option (Fin 10) := if h : n < 10 then some ⟨n, h⟩ else none

/-- A report of a pump point is handed to the block that owns the pump (R147). -/
def pumpReport (kind : Nat) (p : Fin 32) (nonZero : Bool) (v : View) (x : Plant) : Plant :=
  match kind with
  | 1 => runFeedback v p nonZero x
  | 2 => tripReport v p nonZero x
  | 3 => warnReport v p nonZero x
  | 4 => localReport v p nonZero x
  | _ => x

/-- A matched report whose quality lets it be used is handed on (R146, R147). -/
def handReport (e : PointEntry) (raw : Nat) (s : Part) : Part :=
  if e.kind = 0 then
    match reservoirOf? e.target with
    | some r => levelArrival r (scaleLevel e s.tab.t1[r].fs raw) s
    | none => s
  else
    match slotOf? e.target with
    | some p => s.onPlant (pumpReport e.kind p (raw != 0))
    | none => s

/-- One report of an admitted TELEMETRY frame; the scans it causes follow (R145). -/
def takeReport (source : Byte) (s : Part) (r : Report) : Part :=
  match pointEntry s.tab source.toNat r.point.toNat with
  | none => s
  | some e => if qualityUsed e.kind r.quality then settlePart (handReport e r.raw.toNat s) else s

/-- The reports of a frame, in list order (R143 step 2). -/
def takeReports (f : Frame) (s : Part) : Part :=
  if f.kind = kindTelemetry then (reportsOf f.payload).foldl (takeReport f.source) s else s

/-- A frame handed to the Intake Unit: source, reports, forwarding and mirroring, in that order (R143,
R144). -/
def intakeFrame (f : Frame) (s : Part) : Part :=
  if knownSource s.tab f.source.toNat then mirror .up f (enterU f (takeReports f s))
  else
    let t := s.raise .foreignSource
    mirror .up f (if t.tab.t9.sourceValidation then t else enterU f t)

/-- One pair of an outstation's reply to the part (R148). -/
def inspectPair (source : Byte) (s : Part) (pair : Byte × Byte) : Part :=
  if pair.2 = 1 then
    match itemPump s.tab source.toNat pair.1.toNat with
    | some p => settlePart (s.onPlant fun v => refusedReport v p)
    | none => s
  else s

/-- The pairs of an outstation's reply, after its status byte (R139, R148). -/
def replyPairs (payload : List Byte) : List (Byte × Byte) := pairsOf (payload.drop 1)

/-- An outstation's reply to the part: its refused pairs are read in list order, and it is offered for
mirroring (R148). -/
def inspectReply (f : Frame) (s : Part) : Part :=
  mirror .up f ((replyPairs f.payload).foldl (inspectPair f.source) s)

/-- The disposal of a good frame on D (R132). -/
def disposeD (f : Frame) (s : Part) : Part :=
  if f.kind = kindReply ∧ f.dest = s.address then inspectReply f s
  else if f.kind = kindManage then s
  else intakeFrame f s

end Sys2Proof.Machine
end

