-- ==== Sys2Proof/Machine/Manage.lean ====
section
/-!
DEFINITION. The Management Unit (chapter 11): the consistency checks, changes of operating mode, table access,
each management request, and the taking of a MANAGE frame with its tests and its reply (R162).
-/

namespace Sys2Proof.Machine

/-! ### Consistency checks (R167) -/

/-- Check 1 fails for this stage. -/
def check1Fails (tab : Settings) (k : Fin 8) : Bool :=
  tab.t2[k].enabled && !(tab.t1[tab.t2[k].delivery].enabled && tab.t1[tab.t2[k].suction].enabled)

/-- A used T0 entry of this kind has this target. -/
def hasPoint (tab : Settings) (kind target : Nat) : Bool :=
  tab.t0.toList.any fun e => e.used && e.kind == kind && e.target == target

/-- The reservoir serves an enabled stage. -/
def servesStage (tab : Settings) (r : Fin 10) : Bool :=
  stageList.any fun k => tab.t2[k].enabled && (tab.t2[k].delivery == r || tab.t2[k].suction == r)

/-- Check 2 fails for this reservoir. -/
def check2Fails (tab : Settings) (r : Fin 10) : Bool :=
  tab.t1[r].enabled && tab.t1[r].kind == .metered && servesStage tab r && !hasPoint tab 0 r.val

/-- Check 3 fails for this pump. -/
def check3Fails (tab : Settings) (p : Fin 32) : Bool := assigned tab p && !hasPoint tab 1 p.val

/-- Check 4 fails for this pump. -/
def check4Fails (tab : Settings) (p : Fin 32) : Bool :=
  assigned tab p && decide ((tab.feeder tab.t3[p].feeder).budget < tab.t3[p].rating)

/-- T9 is valid (R161). -/
def General.valid (e : General) : Bool := e.service != 0 && e.notice != 0

/-- The consistency checks, in order: the first failure ends them (R167). -/
def modeCheck (tab : Settings) : ModeCheck :=
  match stageList.find? (check1Fails tab) with
  | some k => .inconsistent 1 k.val
  | none =>
    match reservoirList.find? (check2Fails tab) with
    | some r => .inconsistent 2 r.val
    | none =>
      match slots.find? (check3Fails tab) with
      | some p => .inconsistent 3 p.val
      | none =>
        match slots.find? (check4Fails tab) with
        | some p => .inconsistent 4 p.val
        | none => if tab.t9.valid then .passed else .inconsistent 5 0

/-! ### Operating modes (R91, R167 to R169) -/

/-- The pump is QUEUED, or holds an awaiting command, so that leaving ACTIVE changes it (R168). -/
def Pump.heldByActive (q : Pump) : Bool := q.state == .queued || q.awaits .run || q.awaits .stop

/-- Steps 1 and 2 of leaving ACTIVE: every request leaves the queue, a scan of each feeder follows, and every
awaiting command is cleared (R168). -/
def leaveActive (v : View) (x : Plant) : Plant :=
  let y := ((slots.foldl (fun z p => withdraw v p z) x).markScan .a).markScan .b
  slots.foldl (fun z p => clearAwaiting v p z) y

/-- The update of a stage's reconciliation state at a change of mode: the advised fields, and at a change to
PASSIVE or SETTLING the shortfall flag (R91). -/
def updateStage (m : Mode) (l : StageLive) : StageLive :=
  { l with
    advice := .none, adviceSlot := 0
    shortfall := l.shortfall && (m == .active || m == .advisory) }

/-- The update of every stage (R91). -/
def updateStages (m : Mode) (x : Plant) : Plant :=
  { x with stages := Vector.ofFn fun k => updateStage m x.stages[k] }

/-- A change of operating mode to another: leaving ACTIVE, the updates of R91, the new mode, the
reconciliations that leaving ACTIVE caused, and the evaluation of every enabled stage at entry to ADVISORY or
ACTIVE (R35, R91, R167, R168). -/
def changeMode (m : Mode) (s : Part) : Part :=
  let left := if s.mgmt.mode = .active then s.onPlant leaveActive else s
  let touched := if s.mgmt.mode = .active then slots.filter fun p => (s.plant.pump p).heldByActive else []
  let updated := left.onPlant fun _ x => updateStages m x
  let entered := { updated with mgmt := { updated.mgmt with mode := m, settleT := none } }
  let told := entered.onPlant fun v x => reconcileAll v (stagesOf touched) x
  if m = .advisory ∨ m = .active then told.onPlant fun v x => evaluateAll v .modeEntry x else told

/-- A change to a mode, if it is another than the present (R166, R167). -/
def toMode (m : Mode) (s : Part) : Part := if s.mgmt.mode = m then s else changeMode m s

/-- The outcome of a run of the checks is kept (R167). -/
def keepCheck (c : ModeCheck) (s : Part) : Part := { s with mgmt := { s.mgmt with lastCheck := c } }

/-- The checks as the settle expiry makes them: a part in COMMISSIONING mode fails check 5 (R169). -/
def settleCheck (s : Part) : ModeCheck :=
  if modeCheck s.tab = .passed ∧ s.mgmt.addrMode = .commissioning then .inconsistent 5 0 else modeCheck s.tab

/-- Expiry of the settle timer: ACTIVE where the checks pass, PASSIVE where they fail (R169). -/
def settleEvent (s : Part) : Part :=
  if due s.cal.uptime s.mgmt.settleT then
    let t := { s with mgmt := { s.mgmt with settleT := none } }
    if s.mgmt.mode = .settling then
      changeMode (if settleCheck s = .passed then .active else .passive) (keepCheck (settleCheck s) t)
    else t
  else s

/-! ### Status and table reads (R164, R172) -/

/-- The last mode check as a check number and an index (R172). -/
def ModeCheck.words : ModeCheck → List Word
  | .none => [0, 0]
  | .passed => [0, 1]
  | .inconsistent c i => [natWord c, natWord i]

/-- The words of STATUS_READ (R172). -/
def statusWords (s : Part) : List Word :=
  [natWord s.mgmt.mode.code, natWord s.mgmt.addrMode.code, s.plant.events.pending, conditionSummary s,
    flagWord s.cal.clockSet, natWord s.cal.day.val, natWord s.cal.minute, natWord s.cal.second,
    natWord s.cal.cls.code] ++
    longWords s.cal.uptime ++ [natWord s.mgmt.storeState.code, natWord s.mgmt.outcome.code] ++
    s.mgmt.lastCheck.words ++ s.plant.feedA.words s.cal.uptime ++ s.plant.feedB.words s.cal.uptime

/-- The words of `n` entries from the first index, wrapping from the last entry to entry 0 (R164). -/
def readRun (s : Part) (t first n : Nat) : List Word :=
  (List.range n).flatMap fun i => tableEntry s t ((first + i) % tableSize t)

/-- TABLE_READ (R164). -/
def tableReadAnswer (s : Part) (t first n offset : Nat) : Answer :=
  if 14 < t then refuse .badTable []
  else if tableSize t ≤ first ∨ n = 0 ∨ tableSize t < n ∨ n * entryWords t ≤ offset then refuse .badIndex []
  else
    let run := readRun s t first n
    accept (wordsBytes (natWord run.length :: (run.drop offset).take 27))

/-! ### TABLE_WRITE (R165) -/

/-- The refusal that names a table entry (R163). -/
def refuseEntry (r : Reason) (t i : Nat) : Answer := refuse r [BitVec.ofNat 8 t, BitVec.ofNat 8 i]

/-- The live records of a stage write: a slot that becomes assigned or unassigned. Its request, if one were
queued, would leave with the old record: the write is made in PASSIVE mode only, where the queue is empty
(R56). -/
def slotWrite (old new : Settings) (x : Plant) (p : Fin 32) : Plant :=
  if assigned old p = assigned new p then x
  else if assigned new p then (dequeue p x).setPump p (freshPump new.t3[p])
  else (leaveStarting p (dequeue p x)).setPump p (unassignedPump new.t3[p])

/-- The retry count is lowered to a lowered limit (R55 step 2). -/
def lowerRetries (tab : Settings) (x : Plant) (p : Fin 32) : Plant :=
  x.setPump p { x.pump p with retries := min (x.pump p).retries tab.t3[p].retryLimit }

/-- The pump was start-limited before the write and is not after it (R55 step 3). -/
def limitEnded (old new : Settings) (x : Plant) (p : Fin 32) : Bool :=
  assigned new p && startLimited old p (x.pump p) && !startLimited new p (x.pump p)

/-- A scan follows for the queued request of a pump whose rating or feeder changed (R108). -/
def rescan (old new : Settings) (x : Plant) (p : Fin 32) : Plant :=
  match requestOf p x.queue with
  | some e => if old.t3[p].rating ≠ new.t3[p].rating then x.markScan e.feeder else x
  | none => x

/-- The slots whose T3 entry the request writes. -/
def writtenSlots (rows : List Row) : List (Fin 32) := slots.filter fun p => touchesEntry rows 3 p.val

/-- The Pump Sequencer's completion of a write of T2 or T3 (R55, R56, R108). -/
def pumpWrite (old : Settings) (rows : List Row) (v : View) (x : Plant) : Plant :=
  let ws := writtenSlots rows
  let y := slots.foldl (slotWrite old v.tab) x
  let z := ws.foldl (rescan old v.tab) (ws.foldl (lowerRetries v.tab) y)
  let c := if touches rows 2 || touches rows 3 then recommit v.tab .b (recommit v.tab .a z) else z
  reconcileAll v (stagesOf (ws.filter (limitEnded old v.tab c))) c

/-- The pump had a used point of this kind and the write leaves it without one (R142). -/
def pointLost (old new : Settings) (kind : Nat) (p : Fin 32) : Bool :=
  hasPoint old kind p.val && !hasPoint new kind p.val

/-- The effects of lost status points on one pump (R142). -/
def lostPoints (old : Settings) (v : View) (x : Plant) (p : Fin 32) : Plant :=
  let a := if pointLost old v.tab 3 p then warnReport v p false x else x
  let b := if pointLost old v.tab 4 p then localReport v p false a else a
  if pointLost old v.tab 2 p then tripReport v p false b else b

/-- The Start Arbiter's completion of a write of T4 or T9, the queue having been re-sorted with the write itself
(R98, R107). DESIGN CHOICE: a write that changes both the class order code and the bypass limit makes both changes
and then takes one scan of each feeder; R98 and R107 do not say whether a scan falls between them (log 44). -/
def arbiterWrite (rows : List Row) (v : View) (x : Plant) : Plant :=
  let a := if touchesEntry rows 4 0 then x.markScan .a else x
  let b := if touchesEntry rows 4 1 then a.markScan .b else a
  if touches rows 9 then
    (({ b with queue := applyBypassLimit v.tab.t9.bypassLimit b.queue }).markScan .a).markScan .b
  else b

/-- A stage whose enabled flag the write changes takes the values of R34 with cause TABLE_WRITE, its stop
spacing timer cancelled. -/
def stageWrite (old new : Settings) (x : Plant) (k : Fin 8) : Plant :=
  if old.t2[k].enabled = new.t2[k].enabled then x else x.setStage k (blankStage .tableWrite)

/-- The write causes an evaluation of this stage, if it is enabled (R35). -/
def writeEvaluates (rows : List Row) (tab : Settings) (k : Fin 8) : Bool :=
  touchesEntry rows 2 k.val || touchesEntry rows 1 tab.t2[k].delivery.val ||
    touchesEntry rows 1 tab.t2[k].suction.val || touches rows 5 || touches rows 6

/-- The Demand Unit's completion of a write (R34, R35). -/
def demandWrite (old : Settings) (rows : List Row) (v : View) (x : Plant) : Plant :=
  (stageList.filter (writeEvaluates rows v.tab)).foldl (evaluate v .tableWrite)
    (stageList.foldl (stageWrite old v.tab) x)

/-- The reservoirs whose T1 entry the request writes. -/
def writtenReservoirs (rows : List Row) : List (Fin 10) :=
  reservoirList.filter fun r => touchesEntry rows 1 r.val

/-- The queue under the class order code that a write leaves: re-sorted where the write changes the code (R98). -/
def resortWritten (old new : Settings) (q : List Request) : List Request :=
  if new.t9.classOrder = old.t9.classOrder then q else resort new.t9.classOrder q

/-- Every table is written. The queue is re-sorted with the tables, so that a request that the rest of the write
enters or reclasses joins its rank behind the requests of its class already there (R97 to R99). -/
def storeTables (new : Settings) (s : Part) : Part :=
  { s with tab := new, plant := { s.plant with queue := resortWritten s.tab new s.plant.queue } }

/-- Every table is written, and each block brings its live state into line with the write (R165 step 5). -/
def applyWrite (rows : List Row) (new : Settings) (s : Part) : Part :=
  let calendar := touches rows 5 || touches rows 6
  let s0 := if calendar then settlePart (boundaryEvent s) else s
  let s1 := (writtenReservoirs rows).foldl (reservoirWrite s.tab) (storeTables new s0)
  let s2 := s1.onPlant (pumpWrite s.tab rows)
  let s3 := if touches rows 0 then s2.onPlant fun v x => slots.foldl (lostPoints s.tab v) x else s2
  let s4 := if touches rows 9 then quietWrite s.tab.t9.quietTime new.t9.quietTime s3 else s3
  let s5 := settlePart (s4.onPlant (arbiterWrite rows))
  let s6 := if calendar then recomputeClass s5 else s5
  s6.onPlant (demandWrite s.tab rows)

/-- Steps 2 to 5 of a TABLE_WRITE whose form passes (R165). -/
def writeSegments (segs : List Segment) (s : Part) : Part × Answer :=
  let rows := rowsOf segs
  if s.mgmt.store.saving.isSome then (s, refuse .busy [])
  else
    match if s.mgmt.mode = .passive then none else rows.find? (changesStructure s.tab) with
    | some r => (s, refuseEntry .wrongMode r.table r.index)
    | none =>
      match judge s rows with
      | .refused r t i => (s, refuseEntry r t i)
      | .passed new clamped =>
        (applyWrite rows new s, { accept [] with status := if clamped then .acceptedClamped else .accepted })

/-- TABLE_WRITE: the tests of its form first (R165). -/
def tableWriteRequest (form : WriteForm) (s : Part) : Part × Answer :=
  match form with
  | .refused r => (s, refuse r [])
  | .segments segs => writeSegments segs s

/-! ### The other requests -/

/-- The operating mode of a number (R139). -/
def modeOf? (b : Byte) : Option Mode :=
  if b = 0 then some .passive else if b = 1 then some .advisory
  else if b = 2 then some .settling else if b = 3 then some .active else none

/-- MODE_SET (R167). -/
def modeSetRequest (b : Byte) (s : Part) : Part × Answer :=
  match modeOf? b with
  | none => (s, refuse .badValue [])
  | some .settling => (s, refuse .illegal [])
  | some .passive => (toMode .passive s, accept [])
  | some .advisory => (toMode .advisory s, accept [])
  | some .active =>
    if s.mgmt.mode = .active then (s, accept [])
    else if s.mgmt.addrMode = .commissioning then (s, refuse .wrongMode [])
    else
      let c := modeCheck s.tab
      match c with
      | .inconsistent n i => (keepCheck c s, refuse .inconsistent [BitVec.ofNat 8 n, BitVec.ofNat 8 i])
      | .passed => (changeMode .active (keepCheck c s), accept [])
      | .none => (changeMode .active (keepCheck c s), accept [])

/-- The assigned pump slot that a request names (R117, R153). -/
def namedPump (tab : Settings) (b : Byte) : Option (Fin 32) :=
  (slotOf? b.toNat).filter (assigned tab)

/-- OWNER_SET (R153). -/
def ownerSetRequest (slot owner : Byte) (s : Part) : Part × Answer :=
  match namedPump s.tab slot with
  | none => (s, refuse .badIndex [])
  | some p =>
    match Ownership.ofCode? owner.toNat with
    | none => (s, refuse .badValue [])
    | some o => (s.onPlant fun v => ownerEvent v p o, accept [])

/-- CLOCK_SET; a minute boundary that is due is taken first (R22, R28). -/
def clockSetRequest (day : Byte) (minute : Word) (second : Byte) (s : Part) : Part × Answer :=
  if h : day.toNat < 7 ∧ minute.toNat < 1440 ∧ second.toNat < 60 then
    (setClock ⟨day.toNat, h.1⟩ minute.toNat second.toNat (settlePart (boundaryEvent s)), accept [])
  else (s, refuse .badValue [])

/-- NOTICE_ON: its tests; the change is made after the reply (R172). -/
def noticeOnRequest (confirm : Byte) (s : Part) : Part × Answer :=
  if confirm = 0 ∨ s.tab.t9.notice = 0 then (s, refuse .illegal []) else (s, accept [])

/-- NOTICE_OFF: its test; the change is made after the reply (R172). -/
def noticeOffRequest (confirm : Byte) (s : Part) : Part × Answer :=
  if confirm = 0 then (s, refuse .illegal []) else (s, accept [])

/-- EVENT_CLEAR (R121). -/
def eventClearRequest (keep : Word) (s : Part) : Part × Answer :=
  ({ s with plant := { s.plant with events := s.plant.events.clear keep } }, accept [])

/-- TRIP_RESET (R117). -/
def tripResetRequest (slot : Byte) (s : Part) : Part × Answer :=
  match namedPump s.tab slot with
  | none => (s, refuse .badIndex [])
  | some p =>
    if (s.plant.pump p).state = .tripped ∨ (s.plant.pump p).state = .lockedOut then
      (s.onPlant fun v => tripResetEvent v p, accept [])
    else (s, refuse .illegal [])

/-- ADDRESS_TAKE (R166). -/
def addressTakeRequest (s : Part) : Part × Answer :=
  if s.tab.t9.service = 0 then (s, refuse .wrongMode [])
  else ({ s with mgmt := { s.mgmt with addrMode := .service } }, accept [])

/-- ADDRESS_RELEASE, steps 1 to 3; step 5 is made after the reply (R166). -/
def addressReleaseRequest (s : Part) : Part × Answer :=
  let t := toMode .passive s
  ({ t with mgmt := { t.mgmt with addrMode := .commissioning }, line := { t.line with checkHold := false } },
    accept [])

/-- A save is in flight or a restart is pending (R162). -/
def saveBusy (s : Part) : Bool := s.mgmt.store.saving.isSome || s.mgmt.restartPending

/-- SETTINGS_SAVE: the tables are captured as they stand (R170). -/
def settingsSaveRequest (s : Part) : Part × Answer :=
  if saveBusy s then (s, refuse .busy [])
  else
    ({ s with mgmt := { s.mgmt with
        store := { s.mgmt.store with saving := some s.tab }, storeState := .saving } }, accept [])

/-- RESTART (R171). -/
def restartRequest (s : Part) : Part × Answer :=
  if saveBusy s then (s, refuse .busy [])
  else ({ s with mgmt := { s.mgmt with restartPending := true } }, { accept [] with restart := true })

/-- Carries out a request whose arguments have the length it needs, up to its reply (R162). -/
def carryOut (r : ManageRequest) (s : Part) : Part × Answer :=
  match r with
  | .statusRead => (s, accept (wordsBytes (statusWords s)))
  | .tableRead t i n o => (s, tableReadAnswer s t.toNat i.toNat n.toNat o.toNat)
  | .tableWrite form => tableWriteRequest form s
  | .modeSet m => modeSetRequest m s
  | .ownerSet p o => ownerSetRequest p o s
  | .clockSet d m sec => clockSetRequest d m sec s
  | .noticeOn c => noticeOnRequest c s
  | .noticeOff c => noticeOffRequest c s
  | .eventClear k => eventClearRequest k s
  | .tripReset p => tripResetRequest p s
  | .addressTake => addressTakeRequest s
  | .addressRelease => addressReleaseRequest s
  | .settingsSave => settingsSaveRequest s
  | .restart => restartRequest s

/-- What an accepted request does after its reply has been queued (R124, R166, R172). -/
def afterReply (r : ManageRequest) (s : Part) : Part :=
  match r with
  | .noticeOn _ => { s with plant := { s.plant with events := s.plant.events.enable } }
  | .noticeOff _ => { s with plant := { s.plant with events := s.plant.events.disable } }
  | .addressRelease => { s with plant := { s.plant with events := s.plant.events.disable } }
  | .statusRead | .tableRead _ _ _ _ | .tableWrite _ | .modeSet _ | .ownerSet _ _ | .clockSet _ _ _ => s
  | .eventClear _ | .tripReset _ | .addressTake | .settingsSave | .restart => s

/-! ### Taking a request (R162) -/

/-- The requests that a broadcast may carry (R162). -/
def ManageRequest.broadcastable : ManageRequest → Bool
  | .addressTake | .addressRelease | .clockSet _ _ _ | .noticeOff _ => true
  | .statusRead | .tableRead _ _ _ _ | .tableWrite _ | .modeSet _ | .ownerSet _ _ | .noticeOn _ => false
  | .eventClear _ | .tripReset _ | .settingsSave | .restart => false

/-- The reply of an answer (R139, R162). -/
def replyOf (source tag : Byte) (a : Answer) : Reply :=
  { dest := source, status := a.status.code, reason := a.reason, tag := tag, data := a.data
    restart := a.restart }

/-- A request is carried out, its reply is queued where it is directed, and what follows the reply is done
where it was accepted (R162). -/
def completeRequest (directed : Bool) (source tag : Byte) (r : ManageRequest) (s : Part) : Part :=
  let o := carryOut r s
  let t := if directed then enterReply (replyOf source tag o.2) (settlePart o.1) else settlePart o.1
  if o.2.status = .refused then t else afterReply r t

/-- The CHECK_HOLD refusal; where the payload is too short to hold a tag, the tag of the reply is a free
value (R162). -/
def refuseHeld (source : Byte) (p : Parsed) (s : Part) : Part :=
  match p.tag? with
  | some tag => enterReply (replyOf source tag (refuse .checkHold [])) s
  | none =>
    enterReply (replyOf source (Config.missingTag s.free) (refuse .checkHold [])) { s with free := s.free + 1 }

/-- A directed request (R162). -/
def takeDirected (source : Byte) (p : Parsed) (s : Part) : Part :=
  if s.line.checkHold ∧ p.code? ≠ some 0x0C then refuseHeld source p s
  else if replyFull s then s
  else
    match p with
    | .short _ => s
    | .unknown _ tag => enterReply (replyOf source tag (refuse .unknownRequest [])) s
    | .badArguments _ tag => enterReply (replyOf source tag (refuse .illegal [])) s
    | .request tag r => completeRequest true source tag r s

/-- A broadcast request (R162). -/
def takeBroadcast (p : Parsed) (s : Part) : Part :=
  if s.line.checkHold ∧ p.code? ≠ some 0x0C then s
  else
    match p with
    | .short _ => s
    | .unknown _ _ => s
    | .badArguments _ _ => s
    | .request tag r => if r.broadcastable then completeRequest false 0 tag r s else s

/-- A MANAGE frame on U: a directed or a broadcast request to the part, or nothing (R131, R162). -/
def takeManage (dest source : Byte) (p : Parsed) (s : Part) : Part :=
  if dest = s.address then takeDirected source p s
  else if dest = 0 then takeBroadcast p s
  else s

end Sys2Proof.Machine
end

