-- ==== Sys2Proof/Machine/Resets.lean ====
section
/-!
DEFINITION. The three kinds of reset (R170, R171, and the rules of every chapter that give its state after a
reset): power-on, the RESET input and a management restart; the loss of power; and the completion of a save.
-/

namespace Sys2Proof.Machine

/-- The line rate of the strap levels (R127). -/
def rateOf (p : Straps) : Rate :=
  match p.rate1, p.rate0 with
  | false, false => .b9600
  | false, true => .b19200
  | true, false => .b38400
  | true, true => .b57600

/-- The pump records after a reset (R56, R59). -/
def resetPumps (tab : Settings) : Vector Pump 32 :=
  Vector.ofFn fun p => if assigned tab p then freshPump tab.t3[p] else unassignedPump tab.t3[p]

/-- The scheduling records after a reset: the stage records of R34, an empty queue, free slots, and the
committed power of the pumps as the reset leaves them (R59, R94, R96, R120, R124). -/
def resetPlant (tab : Settings) (events : Events) : Plant :=
  let x : Plant := { pumps := resetPumps tab, events := events }
  { x with
    feedA := { committed := committedPower tab x .a }
    feedB := { committed := committedPower tab x .b } }

/-- The reservoir records after a reset (R5). -/
def resetLevels (tab : Settings) : Vector ResLive 10 := Vector.ofFn fun r => freshRecord tab.t1[r]

/-- The Line Interface after a reset, the straps sampled and the upline quiet timer started at uptime 0 where
its time is not 0 (R127, R128, R130, R133 to R137). -/
def resetLine (tab : Settings) (straps : Straps) : Line :=
  { rate := rateOf straps, quietT := if tab.t9.quietTime = 0 then none else startTimer 0 tab.t9.quietTime }

/-- The address mode after a reset (R166, R171). -/
def resetAddress (tab : Settings) : AddrMode := if tab.t9.service = 0 then .commissioning else .service

/-- The tables that the store gives: its copy where the check word matches, the defaults where it fails
(R170). -/
def loadedTables (store : Store) : Settings := if store.checkMatches then store.copy else {}

/-- The operating mode after power-on and the RESET input (R169, R171). -/
def resetMode (store : Store) : Mode :=
  if store.checkMatches && (loadedTables store).t9.autoResume then .settling else .passive

/-- The Management Unit after power-on and the RESET input (R170, R171). -/
def resetMgmt (store : Store) : Mgmt :=
  { addrMode := resetAddress (loadedTables store), mode := resetMode store, store := store
    storeState := if store.checkMatches then .valid else .invalid
    outcome := if store.checkMatches then .none else .loadFailed
    storeInvalid := !store.checkMatches
    settleT := if resetMode store = .settling then startTimer 0 (loadedTables store).t9.settleTime else none }

/-- The events after power-on and the RESET input: SETTINGS is raised where the store is invalid (R120). -/
def resetEvents (store : Store) : Events :=
  if store.checkMatches then {} else ({} : Events).raise .settings

/-- The part after power-on or the RESET input: the store is tested first, then every block takes its reset
values; the clock is unset and its class NORMAL (R29, R170, R171). -/
def fullReset (straps : Straps) (s : Part) : Part :=
  driveLines
    { power := .on, tab := loadedTables s.mgmt.store, cal := {}, levels := resetLevels (loadedTables s.mgmt.store)
      plant := resetPlant (loadedTables s.mgmt.store) (resetEvents s.mgmt.store)
      line := resetLine (loadedTables s.mgmt.store) straps, mgmt := resetMgmt s.mgmt.store, free := s.free }

/-- A save in flight is broken off and leaves the check word failing (R170). -/
def Store.breakOff (store : Store) : Store :=
  if store.saving.isSome then { store with checkMatches := false, saving := none } else store

/-- A save in flight, if there is one, is broken off (R170). -/
def breakSave (s : Part) : Part := { s with mgmt := { s.mgmt with store := s.mgmt.store.breakOff } }

/-- A management restart: the tables, the clock and the store are kept, the class is recomputed, and every
other block takes its reset values (R29, R171). -/
def managementRestart (straps : Straps) (s : Part) : Part :=
  { s with
    cal := { s.cal with uptime := 0, cls := classAt s.tab s.cal, boundaryDue := false }
    levels := resetLevels s.tab
    plant := resetPlant s.tab {}
    line := resetLine s.tab straps
    mgmt := { s.mgmt with
      addrMode := resetAddress s.tab, mode := .passive, lastCheck := .none, settleT := none
      restartPending := false } }

/-- The RESET input is asserted: a save in flight is broken off, transmissions are cut off and the queues
emptied, and the lines are held with FAULT asserted and ALERT inactive (R123, R133, R136, R170). -/
def resetAssertEvent (s : Part) : Part :=
  let t := breakSave s
  { t with power := .held, line := { rate := s.line.rate }, fault := true, alert := false }

/-- The RESET input is asserted: it holds a part that has power, and is level only for one that has none. -/
def Power.resetAsserted : Power → Bool
  | .off asserted => asserted
  | .held => true
  | .on => false

/-- The part has power. -/
def Power.applied : Power → Bool
  | .off _ => false
  | .held => true
  | .on => true

/-- Power is applied; where the part has power already, it is a loss of power followed by power-on. A part whose
RESET input is asserted at power-on is held by it until the release (R123, R171). -/
def powerOnEvent (straps : Straps) (s : Part) : Part :=
  let t := fullReset straps (breakSave s)
  if s.power.resetAsserted then resetAssertEvent t else t

/-- The RESET input (R171): without power its level alone changes, for the next power-on (R123). -/
def resetInputEvent (phase : ResetPhase) (s : Part) : Part :=
  match phase with
  | .asserted => if s.power.applied then resetAssertEvent s else { s with power := .off true }
  | .released straps =>
    match s.power with
    | .off _ => { s with power := .off false }
    | .held => fullReset straps s
    | .on => s

/-- Power is lost: the store alone keeps what it holds, a save in flight being broken off, and the RESET input its
level; the levels of the alarm pins without power are free values (R170). -/
def powerLossEvent (s : Part) : Part :=
  if s.power.applied = false then s
  else
    { power := .off s.power.resetAsserted, mgmt := { store := s.mgmt.store.breakOff }
      fault := Config.unpoweredFault s.free, alert := Config.unpoweredAlert s.free, free := s.free + 1 }

/-- The completion of a save, DONE or FAILED (R170). -/
def saveComplete (done : Bool) (s : Part) : Part :=
  match s.mgmt.store.saving with
  | none => s
  | some tab =>
    let store : Store :=
      if done then { copy := tab, checkMatches := true, saving := none }
      else { s.mgmt.store with checkMatches := false, saving := none }
    ({ s with mgmt := { s.mgmt with
        store := store
        storeState := if done then .valid else .invalid
        outcome := if done then .done else .failed
        storeInvalid := s.mgmt.storeInvalid && !done } }).raise .settings

/-- The transmission on U completes; at the completion of the reply of a RESTART the restart takes effect
(R134, R171). -/
def uCompleteEvent (straps : Straps) (s : Part) : Part :=
  match s.line.uTx with
  | some (.reply _ true) => managementRestart straps s
  | _ => { s with line := { s.line with uTx := none } }

end Sys2Proof.Machine
end

