-- ==== Sys2Proof/WellFormed.lean ====
section
/-!
DEFINITION. Which commands can arise on the part's pins: a frame's payload holds at most 60 bytes (R128,
R138), a check error happens at a receiver of U or D, and an unknown request carries a code outside
01h..0Eh. `exec` gives every command a meaning; a statement takes these checks as a premise where the
command must be one that can arrive.
-/

namespace Sys2Proof

/-- The most payload bytes a frame can hold (R128, R138). -/
def maxPayload : Nat := 60

/-- A frame that can be received: at most 60 payload bytes (R128). -/
def Frame.wf (f : Frame) : Bool := decide (f.payload.length ≤ maxPayload)

/-- The argument bytes that the segments of a TABLE_WRITE take: three header bytes and two for each word
(R163). -/
def segmentBytes (segs : List Segment) : Nat :=
  (segs.map fun g => 3 + 2 * g.words.length).sum

/-- The command can arise at the part. -/
def Instr.wf : Instr → Bool
  | .goodFrameOnU f => f.wf
  | .goodFrameOnD f => f.wf
  | .checkError port _ => port != .m
  | .characterGapTimeout port => port != .m
  | .tableWrite _ segs => decide (2 + segmentBytes segs ≤ maxPayload)
  | .unknownRequest _ code args =>
      decide (2 + args.length ≤ maxPayload) && !(decide (1 ≤ code.toNat) && decide (code.toNat ≤ 14))
  | .powerOn _ => true
  | .resetInput _ => true
  | .secondsStep => true
  | .minuteBoundary => true
  | .staleEntry _ => true
  | .startHistoryAgeing _ => true
  | .minRunExpiry _ => true
  | .minRestExpiry _ => true
  | .startConfirmExpiry _ => true
  | .stopConfirmExpiry _ => true
  | .stopSpacingExpiry _ => true
  | .feederSpacingExpiry _ => true
  | .retryTimerExpiry _ => true
  | .provingExpiry _ => true
  | .uplineQuietExpiry => true
  | .settleExpiry => true
  | .checkHoldQuiet => true
  | .uTransmitStart => true
  | .uTransmitComplete _ => true
  | .dTransmitStart => true
  | .dTransmitComplete => true
  | .mTransmitStart => true
  | .mTransmitComplete => true
  | .settingsSaveComplete _ => true
  | .statusRead _ => true
  | .tableRead _ _ _ _ _ => true
  | .modeSet _ _ => true
  | .ownerSet _ _ _ => true
  | .clockSet _ _ _ _ => true
  | .noticeOn _ _ => true
  | .noticeOff _ _ => true
  | .eventClear _ _ => true
  | .tripReset _ _ => true
  | .addressTake _ => true
  | .addressRelease _ => true
  | .settingsSave _ => true
  | .restart _ => true
  | .characterReceived _ _ _ => true
  | .powerLoss => true

end Sys2Proof
end

