-- ==== Sys2Proof/Machine/Ports.lean ====
section
/-!
DEFINITION. Reception at the ports: the disposal of good frames on U (R131), the whole event of a good frame on
each port, and the receivers that assemble frames from characters (R127, R128).
-/

namespace Sys2Proof.Machine

/-! ### Good frames -/

/-- The disposal of a good frame on U, with the part's reading of a MANAGE payload given (R131). `met`: the upline
quiet timer was due when the frame came (R160). -/
def disposeU (met : Bool) (f : Frame) (p : Parsed) (s : Part) : Part :=
  if f.kind = kindManage then takeManage f.dest f.source p s
  else if f.kind = kindCommand ∧ s.mgmt.mode = .active then filterFrame met f s
  else enterD { frame := f, carried := [] } s

/-- The event of a good frame on U: the receiver is in HUNT, the frame restarts the upline quiet timer, is
disposed of, and is offered for mirroring in the DOWN direction (R128, R131, R137). -/
def goodFrameU (f : Frame) (p : Parsed) (s : Part) : Part :=
  mirror .down f (settlePart (disposeU (due s.cal.uptime s.line.quietT) f p (uplineHeard (s.setRx .u .hunt))))

/-- The event of a good frame on D: the receiver is in HUNT and the frame is disposed of (R128, R132). -/
def goodFrameD (f : Frame) (s : Part) : Part := disposeD f (s.setRx .d .hunt)

/-- A frame of more than 60 payload bytes is abandoned at its length, with its destination received (R128). -/
def arriveU (f : Frame) (s : Part) : Part :=
  if f.wf then goodFrameU f (parseManage f.payload) s else checkErrorEvent .u (some f.dest) s

/-- The same on D. -/
def arriveD (f : Frame) (s : Part) : Part :=
  if f.wf then goodFrameD f s else checkErrorEvent .d (some f.dest) s

/-- A frame whose check equals its check byte is disposed of on its port (R129). -/
def goodFrame (port : Port) (f : Frame) (s : Part) : Part :=
  match port with
  | .u => goodFrameU f (parseManage f.payload) s
  | .d => goodFrameD f s
  | .m => s

/-- The event of a management request: the good frame on U that carries it. `code` and `args` are the bytes of
the request, `p` the part's reading of them. -/
def requestFrame (h : ReqHead) (code : Byte) (args : List Byte) (p : Parsed) (s : Part) : Part :=
  if (manageFrame h code args).wf then goodFrameU (manageFrame h code args) p s
  else checkErrorEvent .u (some h.dest) s

/-! ### Receivers (R128, R129) -/

/-- The most payload bytes that a length byte may state (R128). -/
def lengthOk (b : Byte) : Bool := decide (b.toNat ≤ maxPayload)

/-- A frame is complete: its check is tested (R128, R129). -/
def frameComplete (port : Port) (f : Frame) (check : Byte) (s : Part) : Part :=
  if check = frameCheck f then goodFrame port f s else checkErrorEvent port (some f.dest) s

/-- The receiver once the header is whole: CHECK for a length of 0, PAYLOAD otherwise (R128). -/
def afterLength (dest source kind len : Byte) : Rx :=
  if len.toNat = 0 then .check dest source kind [] else .payload dest source kind len.toNat []

/-- A character with its stop bit, by the state of the receiver (R128). An opener inside a frame is data. -/
def takeCharacter (port : Port) (ch : Byte) (s : Part) : Part :=
  match s.rx port with
  | .hunt => if ch = 0xA5 then s.setRx port (.header []) else s
  | .header [dest, source, kind] =>
    if lengthOk ch then s.setRx port (afterLength dest source kind ch) else checkErrorEvent port (some dest) s
  | .header held => s.setRx port (.header (held ++ [ch]))
  | .payload dest source kind len held =>
    if held.length + 1 < len then s.setRx port (.payload dest source kind len (held ++ [ch]))
    else s.setRx port (.check dest source kind (held ++ [ch]))
  | .check dest source kind held =>
    frameComplete port { dest := dest, source := source, kind := kind, payload := held } ch s

/-- A character on a port: discarded on M; with its stop bit missing it is discarded and abandons the frame
under assembly; otherwise it is taken by the receiver (R127, R128). -/
def characterEvent (port : Port) (ch : Byte) (stopOk : Bool) (s : Part) : Part :=
  if port = .m then s
  else if stopOk then takeCharacter port ch s
  else abandonFrame port s

end Sys2Proof.Machine
end

