-- ==== Sys2Proof/Machine/Timebase.lean ====
section
/-!
DEFINITION. A step of the seconds timebase (R18): what the step before has made due and is not yet taken is
taken first, in one fixed order; then uptime and the clock advance, the run seconds grow, and the stale times
are tested.
-/

namespace Sys2Proof.Machine

/-- The expiries of one pump's timers (R65, R68, R72, R115, R116). -/
def pumpExpiries (p : Fin 32) : List (View → Plant → Plant) :=
  [fun v x => minRunEvent v p x, fun v x => minRestEvent v p x, fun v x => startConfirmEvent v p x,
    fun v x => stopConfirmEvent v p x, fun v x => retryEvent v p x, fun v x => provingEvent v p x]

/-- The time-driven events of the scheduling records, in the order in which a step takes those left over. -/
def plantExpiries : List (View → Plant → Plant) :=
  (stageList.map fun k v x => ageingEvent v k x) ++ slots.flatMap pumpExpiries ++
    (stageList.map fun k v x => stopSpacingEvent v k x) ++
    [fun v x => feederSpacingEvent v .a x, fun v x => feederSpacingEvent v .b x]

/-- A time-driven event of the scheduling records, with the scans that follow it (R100). -/
def takeExpiry (s : Part) (f : View → Plant → Plant) : Part := settlePart (s.onPlant f)

/-- Everything that is due at the present uptime is taken (R18, R19). -/
def takeDue (s : Part) : Part :=
  let a := settlePart (boundaryEvent s)
  let b := reservoirList.foldl (fun t r => settlePart (staleEvent r t)) a
  let c := plantExpiries.foldl takeExpiry b
  settlePart (settleEvent (settlePart (quietEvent c)))

/-- The run seconds of a slot after a step (R57). -/
def runSeconds (tab : Settings) (x : Plant) (p : Fin 32) : BitVec 32 :=
  if assigned tab p ∧ (x.pump p).feedback = .running ∧ tab.t14[p] ≠ 0xFFFFFFFF then tab.t14[p] + 1 else tab.t14[p]

/-- The step itself: uptime rises by 1 modulo 2^32, the set clock by a second, and the run seconds of every
running pump by 1; each reservoir whose stale time is reached is marked (R9, R18, R21, R57). -/
def advance (s : Part) : Part :=
  let now := s.cal.uptime + 1
  { s with
    cal := { s.cal.tick with uptime := now }
    tab := { s.tab with t14 := Vector.ofFn fun p => runSeconds s.tab s.plant p }
    levels := Vector.ofFn fun r =>
      { s.levels[r] with staleDue := staleReached s.tab.t1[r] now s.levels[r] } }

/-- A step of the seconds timebase (R18). -/
def secondsEvent (s : Part) : Part := advance (takeDue s)

end Sys2Proof.Machine
end

