-- ==== Sys2Proof/Machine/TimeCommands.lean ====
section
/-!
DEFINITION. The frame that every command's meaning stands in (`act`), and the meanings of the time-driven
commands: SECONDS_STEP, MINUTE_BOUNDARY, STALE_ENTRY, START_HISTORY_AGEING and the expiries of the timers. An
expiry whose timer is not due has no effect.
-/

namespace Sys2Proof.Machine

/-- The end of every event: the scans it has caused are taken, the standing conditions are recomputed and the
lines follow them (R100, R122, R123). -/
def finish (s : Part) : Part := driveLines (settlePart s)

/-- The effect of a command on the part: without power, or while the RESET input holds the part, it has none
(R171). -/
def Part.act (f : Part → Part) (s : Part) : Part := if s.up then finish (f s) else s

/-- A command whose effect is an event of the running part. -/
def act (f : Part → Part) (s : State) : Host.Outcome State Fault Refusal := .next { s with part := s.part.act f }

/-- SECONDS_STEP (R18). -/
def execSecondsStep (s : State) : Host.Outcome State Fault Refusal := act secondsEvent s

/-- MINUTE_BOUNDARY (R27). -/
def execMinuteBoundary (s : State) : Host.Outcome State Fault Refusal := act boundaryEvent s

/-- STALE_ENTRY (R9). -/
def execStaleEntry (r : Fin 10) (s : State) : Host.Outcome State Fault Refusal := act (staleEvent r) s

/-- START_HISTORY_AGEING (R73, R74). -/
def execStartHistoryAgeing (k : Fin 8) (s : State) : Host.Outcome State Fault Refusal :=
  act (fun t => t.onPlant fun v => ageingEvent v k) s

/-- MIN_RUN_EXPIRY (R68). -/
def execMinRunExpiry (p : Fin 32) (s : State) : Host.Outcome State Fault Refusal :=
  act (fun t => t.onPlant fun v => minRunEvent v p) s

/-- MIN_REST_EXPIRY (R65). -/
def execMinRestExpiry (p : Fin 32) (s : State) : Host.Outcome State Fault Refusal :=
  act (fun t => t.onPlant fun v => minRestEvent v p) s

/-- START_CONFIRM_EXPIRY (R72). -/
def execStartConfirmExpiry (p : Fin 32) (s : State) : Host.Outcome State Fault Refusal :=
  act (fun t => t.onPlant fun v => startConfirmEvent v p) s

/-- STOP_CONFIRM_EXPIRY (R72). -/
def execStopConfirmExpiry (p : Fin 32) (s : State) : Host.Outcome State Fault Refusal :=
  act (fun t => t.onPlant fun v => stopConfirmEvent v p) s

/-- STOP_SPACING_EXPIRY (R86). -/
def execStopSpacingExpiry (k : Fin 8) (s : State) : Host.Outcome State Fault Refusal :=
  act (fun t => t.onPlant fun v => stopSpacingEvent v k) s

/-- FEEDER_SPACING_EXPIRY (R103). -/
def execFeederSpacingExpiry (f : Feeder) (s : State) : Host.Outcome State Fault Refusal :=
  act (fun t => t.onPlant fun v => feederSpacingEvent v f) s

/-- RETRY_TIMER_EXPIRY (R115). -/
def execRetryTimerExpiry (p : Fin 32) (s : State) : Host.Outcome State Fault Refusal :=
  act (fun t => t.onPlant fun v => retryEvent v p) s

/-- PROVING_EXPIRY (R116). -/
def execProvingExpiry (p : Fin 32) (s : State) : Host.Outcome State Fault Refusal :=
  act (fun t => t.onPlant fun v => provingEvent v p) s

/-- UPLINE_QUIET_EXPIRY (R137). -/
def execUplineQuietExpiry (s : State) : Host.Outcome State Fault Refusal := act quietEvent s

/-- SETTLE_EXPIRY (R169). -/
def execSettleExpiry (s : State) : Host.Outcome State Fault Refusal := act settleEvent s

end Sys2Proof.Machine
end

