-- ==== Sys2Proof/Machine/LineCommands.lean ====
section
/-!
DEFINITION. The meanings of the commands of the line: characters, gaps, check errors, the check hold, good
frames, and the starts and completions of the three transmitters.
-/

namespace Sys2Proof.Machine

/-- CHECK_HOLD_QUIET (R130). -/
def execCheckHoldQuiet (s : State) : Host.Outcome State Fault Refusal := act checkHoldQuietEvent s

/-- CHARACTER_GAP_TIMEOUT (R128). -/
def execCharacterGapTimeout (port : Port) (s : State) : Host.Outcome State Fault Refusal :=
  act (abandonFrame port) s

/-- CHECK_ERROR (R129). -/
def execCheckError (port : Port) (dest : Option Byte) (s : State) : Host.Outcome State Fault Refusal :=
  act (checkErrorEvent port dest) s

/-- GOOD_FRAME_ON_U (R131). -/
def execGoodFrameOnU (f : Frame) (s : State) : Host.Outcome State Fault Refusal := act (arriveU f) s

/-- GOOD_FRAME_ON_D (R132). -/
def execGoodFrameOnD (f : Frame) (s : State) : Host.Outcome State Fault Refusal := act (arriveD f) s

/-- U_TRANSMIT_START (R134). -/
def execUTransmitStart (s : State) : Host.Outcome State Fault Refusal := act uStartEvent s

/-- U_TRANSMIT_COMPLETE (R134). -/
def execUTransmitComplete (straps : Straps) (s : State) : Host.Outcome State Fault Refusal :=
  act (uCompleteEvent straps) s

/-- D_TRANSMIT_START (R135). -/
def execDTransmitStart (s : State) : Host.Outcome State Fault Refusal := act dStartEvent s

/-- D_TRANSMIT_COMPLETE (R70). -/
def execDTransmitComplete (s : State) : Host.Outcome State Fault Refusal := act dCompleteEvent s

/-- M_TRANSMIT_START (R136). -/
def execMTransmitStart (s : State) : Host.Outcome State Fault Refusal := act mStartEvent s

/-- M_TRANSMIT_COMPLETE (R136). -/
def execMTransmitComplete (s : State) : Host.Outcome State Fault Refusal := act mCompleteEvent s

/-- CHARACTER_RECEIVED (R128). -/
def execCharacterReceived (port : Port) (ch : Byte) (stopOk : Bool) (s : State) :
    Host.Outcome State Fault Refusal :=
  act (characterEvent port ch stopOk) s

end Sys2Proof.Machine
end

