-- ==== Sys2Proof/Machine/PowerCommands.lean ====
section
/-!
DEFINITION. The meanings of POWER_ON, RESET_INPUT, POWER_LOSS and SETTINGS_SAVE_COMPLETE.
-/

namespace Sys2Proof.Machine

/-- POWER_ON (R171). -/
def execPowerOn (straps : Straps) (s : State) : Host.Outcome State Fault Refusal :=
  .next { s with part := powerOnEvent straps s.part }

/-- RESET_INPUT (R171). -/
def execResetInput (phase : ResetPhase) (s : State) : Host.Outcome State Fault Refusal :=
  .next { s with part := resetInputEvent phase s.part }

/-- POWER_LOSS (R170). -/
def execPowerLoss (s : State) : Host.Outcome State Fault Refusal :=
  .next { s with part := powerLossEvent s.part }

/-- SETTINGS_SAVE_COMPLETE (R170). -/
def execSettingsSaveComplete (done : Bool) (s : State) : Host.Outcome State Fault Refusal :=
  act (saveComplete done) s

end Sys2Proof.Machine
end

