-- ==== Sys2Proof/Machine/RequestCommands.lean ====
section
/-!
DEFINITION. The meanings of the management requests. Each is the event of the good frame on U that carries the
request: its receiver, the upline quiet timer, the tests of R162, the request itself, its reply and the
mirroring of the frame.
-/

namespace Sys2Proof.Machine

/-- A request with fixed arguments. -/
def takeRequest (h : ReqHead) (code : Byte) (args : List Byte) (r : ManageRequest) (s : State) :
    Host.Outcome State Fault Refusal :=
  act (requestFrame h code args (.request h.tag r)) s

/-- STATUS_READ (R172). -/
def execStatusRead (h : ReqHead) (s : State) : Host.Outcome State Fault Refusal :=
  takeRequest h 0x01 [] .statusRead s

/-- TABLE_READ (R164). -/
def execTableRead (h : ReqHead) (table first count : Byte) (offset : Word) (s : State) :
    Host.Outcome State Fault Refusal :=
  takeRequest h 0x02 (table :: first :: count :: wordBytes offset) (.tableRead table first count offset) s

/-- TABLE_WRITE: its segments are read from their bytes (R163, R165). -/
def execTableWrite (h : ReqHead) (segs : List Segment) (s : State) : Host.Outcome State Fault Refusal :=
  act (requestFrame h 0x03 (segmentsBytes segs) (parseArguments 0x03 h.tag (segmentsBytes segs))) s

/-- MODE_SET (R167). -/
def execModeSet (h : ReqHead) (mode : Byte) (s : State) : Host.Outcome State Fault Refusal :=
  takeRequest h 0x04 [mode] (.modeSet mode) s

/-- OWNER_SET (R153). -/
def execOwnerSet (h : ReqHead) (slot owner : Byte) (s : State) : Host.Outcome State Fault Refusal :=
  takeRequest h 0x05 [slot, owner] (.ownerSet slot owner) s

/-- CLOCK_SET (R22). -/
def execClockSet (h : ReqHead) (day : Byte) (minute : Word) (second : Byte) (s : State) :
    Host.Outcome State Fault Refusal :=
  takeRequest h 0x06 (day :: (wordBytes minute ++ [second])) (.clockSet day minute second) s

/-- NOTICE_ON (R124, R172). -/
def execNoticeOn (h : ReqHead) (confirm : Byte) (s : State) : Host.Outcome State Fault Refusal :=
  takeRequest h 0x07 [confirm] (.noticeOn confirm) s

/-- NOTICE_OFF (R124, R172). -/
def execNoticeOff (h : ReqHead) (confirm : Byte) (s : State) : Host.Outcome State Fault Refusal :=
  takeRequest h 0x08 [confirm] (.noticeOff confirm) s

/-- EVENT_CLEAR (R121). -/
def execEventClear (h : ReqHead) (keep : Word) (s : State) : Host.Outcome State Fault Refusal :=
  takeRequest h 0x09 (wordBytes keep) (.eventClear keep) s

/-- TRIP_RESET (R117). -/
def execTripReset (h : ReqHead) (slot : Byte) (s : State) : Host.Outcome State Fault Refusal :=
  takeRequest h 0x0A [slot] (.tripReset slot) s

/-- ADDRESS_TAKE (R166). -/
def execAddressTake (h : ReqHead) (s : State) : Host.Outcome State Fault Refusal :=
  takeRequest h 0x0B [] .addressTake s

/-- ADDRESS_RELEASE (R166). -/
def execAddressRelease (h : ReqHead) (s : State) : Host.Outcome State Fault Refusal :=
  takeRequest h 0x0C [] .addressRelease s

/-- SETTINGS_SAVE (R170). -/
def execSettingsSave (h : ReqHead) (s : State) : Host.Outcome State Fault Refusal :=
  takeRequest h 0x0D [] .settingsSave s

/-- RESTART (R171). -/
def execRestart (h : ReqHead) (s : State) : Host.Outcome State Fault Refusal :=
  takeRequest h 0x0E [] .restart s

/-- UNKNOWN_REQUEST: a MANAGE frame with any request code and argument bytes, read as the part reads it
(R162). -/
def execUnknownRequest (h : ReqHead) (code : Byte) (args : List Byte) (s : State) :
    Host.Outcome State Fault Refusal :=
  act (requestFrame h code args (parseManage (code :: h.tag :: args))) s

end Sys2Proof.Machine
end

