-- ==== Sys2Proof/Machine/Dispatch.lean ====
section
/-!
DEFINITION. The dispatch of a command to its meaning, one arm per command.
-/

namespace Sys2Proof.Machine

def exec (i : Instr) (s : State) : Host.Outcome State Fault Refusal :=
  match i with
  | .powerOn straps => Sys2Proof.Machine.execPowerOn straps s
  | .resetInput phase => Sys2Proof.Machine.execResetInput phase s
  | .secondsStep => Sys2Proof.Machine.execSecondsStep s
  | .minuteBoundary => Sys2Proof.Machine.execMinuteBoundary s
  | .staleEntry r => Sys2Proof.Machine.execStaleEntry r s
  | .startHistoryAgeing k => Sys2Proof.Machine.execStartHistoryAgeing k s
  | .minRunExpiry p => Sys2Proof.Machine.execMinRunExpiry p s
  | .minRestExpiry p => Sys2Proof.Machine.execMinRestExpiry p s
  | .startConfirmExpiry p => Sys2Proof.Machine.execStartConfirmExpiry p s
  | .stopConfirmExpiry p => Sys2Proof.Machine.execStopConfirmExpiry p s
  | .stopSpacingExpiry k => Sys2Proof.Machine.execStopSpacingExpiry k s
  | .feederSpacingExpiry f => Sys2Proof.Machine.execFeederSpacingExpiry f s
  | .retryTimerExpiry p => Sys2Proof.Machine.execRetryTimerExpiry p s
  | .provingExpiry p => Sys2Proof.Machine.execProvingExpiry p s
  | .uplineQuietExpiry => Sys2Proof.Machine.execUplineQuietExpiry s
  | .settleExpiry => Sys2Proof.Machine.execSettleExpiry s
  | .checkHoldQuiet => Sys2Proof.Machine.execCheckHoldQuiet s
  | .characterGapTimeout port => Sys2Proof.Machine.execCharacterGapTimeout port s
  | .checkError port dest => Sys2Proof.Machine.execCheckError port dest s
  | .goodFrameOnU f => Sys2Proof.Machine.execGoodFrameOnU f s
  | .goodFrameOnD f => Sys2Proof.Machine.execGoodFrameOnD f s
  | .uTransmitStart => Sys2Proof.Machine.execUTransmitStart s
  | .uTransmitComplete straps => Sys2Proof.Machine.execUTransmitComplete straps s
  | .dTransmitStart => Sys2Proof.Machine.execDTransmitStart s
  | .dTransmitComplete => Sys2Proof.Machine.execDTransmitComplete s
  | .mTransmitStart => Sys2Proof.Machine.execMTransmitStart s
  | .mTransmitComplete => Sys2Proof.Machine.execMTransmitComplete s
  | .settingsSaveComplete done => Sys2Proof.Machine.execSettingsSaveComplete done s
  | .statusRead h => Sys2Proof.Machine.execStatusRead h s
  | .tableRead h table first count offset => Sys2Proof.Machine.execTableRead h table first count offset s
  | .tableWrite h segs => Sys2Proof.Machine.execTableWrite h segs s
  | .modeSet h mode => Sys2Proof.Machine.execModeSet h mode s
  | .ownerSet h slot owner => Sys2Proof.Machine.execOwnerSet h slot owner s
  | .clockSet h day minute second => Sys2Proof.Machine.execClockSet h day minute second s
  | .noticeOn h confirm => Sys2Proof.Machine.execNoticeOn h confirm s
  | .noticeOff h confirm => Sys2Proof.Machine.execNoticeOff h confirm s
  | .eventClear h keep => Sys2Proof.Machine.execEventClear h keep s
  | .tripReset h slot => Sys2Proof.Machine.execTripReset h slot s
  | .addressTake h => Sys2Proof.Machine.execAddressTake h s
  | .addressRelease h => Sys2Proof.Machine.execAddressRelease h s
  | .settingsSave h => Sys2Proof.Machine.execSettingsSave h s
  | .restart h => Sys2Proof.Machine.execRestart h s
  | .unknownRequest h code args => Sys2Proof.Machine.execUnknownRequest h code args s
  | .characterReceived port ch stopOk => Sys2Proof.Machine.execCharacterReceived port ch stopOk s
  | .powerLoss => Sys2Proof.Machine.execPowerLoss s

end Sys2Proof.Machine
end

