-- ==== Sys2Proof/Safety.lean ====
section
/-!
DEFINITION. What a sound state of the machine is, in the terms that statements use: the settings within the
ranges of their tables, the queues within their capacities, the start queue and the pump records in agreement,
the committed power and the alarm lines as the records give them, and no scan left over.
-/

namespace Sys2Proof.Machine

/-- The queues of the Line Interface are within their capacities (R133). -/
def QueuesFit (l : Line) : Prop :=
  l.uQueue.length ≤ frameCapacity ∧ l.dQueue.length ≤ frameCapacity ∧
    l.mirrorQueue.length ≤ frameCapacity ∧ l.replyQueue.length ≤ replyCapacity

/-- The standing condition summary and the two lines are those that the records give, while the part runs; while
the RESET input holds it, FAULT is asserted and ALERT inactive (R122, R123). -/
def LinesFollow (s : Part) : Prop :=
  (s.power = .on → s.conditions = conditionSummary s ∧ s.fault = faultLevel s ∧ s.alert = alertLevel s) ∧
    (s.power = .held → s.fault = true ∧ s.alert = false)

/-- A notice waits only while notices are enabled (R124). -/
def NoticeFits (v : Events) : Prop := v.waiting = true → v.on = true

/-- No grant scan is left over (R100). -/
def Settled (x : Plant) : Prop := x.feedA.scanDue = false ∧ x.feedB.scanDue = false

/-- A pump is in the start queue exactly when its state is QUEUED, and no pump is in it twice (R96). -/
def QueueAgrees (x : Plant) : Prop :=
  (∀ p : Fin 32, (∃ e ∈ x.queue, e.pump = p) ↔ (x.pump p).state = .queued) ∧
    (x.queue.map Request.pump).Nodup

/-- The committed power of each feeder is the sum that R95 gives. -/
def PowerAgrees (tab : Settings) (x : Plant) : Prop :=
  x.feedA.committed = committedPower tab x .a ∧ x.feedB.committed = committedPower tab x .b

/-- A feeder's budget is not exceeded by its committed power. -/
def WithinBudget (tab : Settings) (x : Plant) (f : Feeder) : Prop :=
  (x.feeder f).committed ≤ (tab.feeder f).budget

/-- The entry ranks of the queued requests are 1 to their number, each once (R96). -/
def QueueRanked (x : Plant) : Prop :=
  (x.queue.map Request.rank).Nodup ∧ ∀ e ∈ x.queue, 1 ≤ e.rank ∧ e.rank ≤ x.queue.length

/-- The start queue stands in the order of the class ranks (R98). -/
def QueueSorted (tab : Settings) (x : Plant) : Prop :=
  x.queue.Pairwise fun a b => classRank tab.t9.classOrder a.cls ≤ classRank tab.t9.classOrder b.cls

/-- The T9 entry is within the ranges of R161. -/
def General.ok (e : General) : Prop :=
  e.service ≤ 62 ∧ e.notice ≤ 62 ∧ 1 ≤ e.classOrder ∧ e.classOrder ≤ 6 ∧ 1 ≤ e.bypassLimit ∧ e.bypassLimit ≤ 7 ∧
    (e.quietTime = 0 ∨ 10 ≤ e.quietTime) ∧ e.quietTime ≤ 3600 ∧ 30 ≤ e.settleTime ∧ e.settleTime ≤ 600

/-- A T1 entry is within the ranges of R1 and, where it is enabled and METERED, in the order of R2. -/
def ResEntry.ok (e : ResEntry) : Prop :=
  1000 ≤ e.fs ∧ e.fs ≤ 20000 ∧ e.ah ≤ 500 ∧ 10 ≤ e.stale ∧ e.stale ≤ 3600 ∧ 30 ≤ e.rateInterval ∧
    e.rateInterval ≤ 600 ∧ e.cr ≤ 2000 ∧ e.pd ≤ 2000 ∧ e.ordered = true

/-- A T2 entry is within the ranges of R30. -/
def StageEntry.ok (e : StageEntry) : Prop :=
  1 ≤ e.delivery.val ∧ e.suction ≠ e.delivery ∧ 1 ≤ e.n ∧ e.n ≤ 4 ∧ 1 ≤ e.maxRunning ∧ e.maxRunning ≤ e.n ∧
    1 ≤ e.hb ∧ e.hb ≤ 250 ∧ e.kr ≤ 20 ∧ e.pf ≤ 1000 ∧ e.sb ≤ 5000 ∧ e.staleCount ≤ e.n ∧ e.spacing ≤ 600

/-- A T3 entry is within the ranges of R53. -/
def PumpEntry.ok (e : PumpEntry) : Prop :=
  1 ≤ e.station ∧ e.station ≤ 62 ∧ e.point ≤ 255 ∧ 1 ≤ e.rating ∧ e.rating ≤ 500 ∧ e.minRun ≤ 3600 ∧
    e.minRest ≤ 3600 ∧ 5 ≤ e.startConfirm ∧ e.startConfirm ≤ 120 ∧ 5 ≤ e.stopConfirm ∧ e.stopConfirm ≤ 120 ∧
    1 ≤ e.startsPerHour ∧ e.startsPerHour ≤ 12 ∧ e.retryLimit ≤ 5 ∧ 60 ≤ e.retryInterval ∧
    e.retryInterval ≤ 3600 ∧ 60 ≤ e.provingTime ∧ e.provingTime ≤ 3600 ∧ 1 ≤ e.tripConfirm ∧ e.tripConfirm ≤ 4

/-- A T4 entry is within the ranges of R93. -/
def FeederEntry.ok (e : FeederEntry) : Prop := e.budget ≤ 2000 ∧ 5 ≤ e.spacing ∧ e.spacing ≤ 600

/-- A used T0 entry is within the ranges of R140 and R141. -/
def PointEntry.ok (e : PointEntry) : Prop :=
  e.used = true → 1 ≤ e.station ∧ e.station ≤ 62 ∧ e.point ≤ 255 ∧ e.kind ≤ 4 ∧
    e.target ≤ (if e.kind = 0 then 9 else 31) ∧ 1 ≤ e.span

/-- A used T7 entry is within the ranges of R149. -/
def MirrorEntry.ok (e : MirrorEntry) : Prop :=
  e.used = true → e.direction ≤ 2 ∧ 1 ≤ e.low ∧ e.low ≤ e.high ∧ e.high ≤ 62 ∧ 1 ≤ e.base ∧ e.base ≤ 62

/-- A used T8 entry is within the range of R154. -/
def SourceEntry.ok (e : SourceEntry) : Prop := e.used = true → 1 ≤ e.address ∧ e.address ≤ 62

/-- Two T0 entries are not both used with the same key or with the same kind and target (R141). -/
def PointEntry.apart (e e' : PointEntry) : Prop :=
  e.used = true → e'.used = true →
    ¬(e.station = e'.station ∧ e.point = e'.point) ∧ ¬(e.kind = e'.kind ∧ e.target = e'.target)

/-- Two T7 entries are not both used with a common direction and a common source address (R149). -/
def MirrorEntry.apart (e e' : MirrorEntry) : Prop :=
  e.used = true → e'.used = true → e.direction = e'.direction ∨ e.direction = 2 ∨ e'.direction = 2 →
    e.high < e'.low ∨ e'.high < e.low

/-- No two entries of a table stand in the way of each other. -/
def AllApart {α : Type} {n : Nat} (apart : α → α → Prop) (t : Vector α n) : Prop :=
  ∀ i j : Fin n, i < j → apart t[i] t[j]

/-- The settings tables hold only values within their ranges, and no two entries with one key: T0 (R141), T1 (R1, R2),
T2 (R30), T3 (R53, R54), T4 (R93), T5 (R24, R25), T7 (R149), T8 (R154) and T9 (R161). Every value of T6 and T14 is
within range by its type. -/
def Settings.ok (tab : Settings) : Prop :=
  (∀ r : Fin 10, tab.t1[r].ok) ∧ (∀ k : Fin 8, tab.t2[k].ok) ∧ (∀ p : Fin 32, tab.t3[p].ok) ∧
    tab.t4a.ok ∧ tab.t4b.ok ∧ tab.t9.ok ∧
    (∀ i : Fin 128, tab.t0[i].ok) ∧ AllApart PointEntry.apart tab.t0 ∧
    AllApart (fun e e' : PumpEntry => ¬(e.station = e'.station ∧ e.point = e'.point)) tab.t3 ∧
    (∀ i : Fin 24, tab.t5[i].start ≤ 1439) ∧
    AllApart (fun e e' : WindowEntry => e.used = true → e'.used = true →
      ¬(e.dayType = e'.dayType ∧ e.start = e'.start)) tab.t5 ∧
    (∀ i : Fin 8, tab.t7[i].ok) ∧ AllApart MirrorEntry.apart tab.t7 ∧
    (∀ i : Fin 4, tab.t8[i].ok) ∧
    AllApart (fun e e' : SourceEntry => e.used = true → e'.used = true → e.address ≠ e'.address) tab.t8

/-- A pump record is within the ranges of R58 and R111: at most twelve starts are kept, the retry count does not
exceed the retry limit, and the trip confirm count is at most 4 (R73, R111, R114). -/
def Pump.ok (e : PumpEntry) (q : Pump) : Prop :=
  q.history.length ≤ 12 ∧ q.retries ≤ e.retryLimit ∧ q.tripCount ≤ 4

/-- A stage record is within the ranges of R33. -/
def StageLive.ok (e : StageEntry) (l : StageLive) : Prop :=
  l.d0 ≤ 1000 ∧ l.d1 ≤ 1000 ∧ l.d2 ≤ 1000 ∧ l.d3 ≤ 1000 ∧ l.w ≤ e.maxRunning

/-- A reservoir record is within the ranges of R4, with rate 0 in UNKNOWN and STALE (R11); that of an unmetered
source holds the fixed values of R12, and that of a reservoir not enabled the values of R5 and R14. -/
def ResLive.ok (e : ResEntry) (l : ResLive) : Prop :=
  l.level ≤ e.fs ∧ l.sampleLevel ≤ e.fs ∧ -500 ≤ l.rate ∧ l.rate ≤ 500 ∧
    (l.state = .unknown ∨ l.state = .stale → l.rate = 0) ∧
    (e.enabled = true → e.kind = .unmetered → l = { level := e.fs, state := .normal }) ∧
    (e.enabled = false → l = {})

/-- Of the scheduling records nothing has changed but the pump records and the count of commands. -/
def OnlyPumps (x y : Plant) : Prop :=
  y.stages = x.stages ∧ y.queue = x.queue ∧ y.feedA = x.feedA ∧ y.feedB = x.feedB ∧ y.events = x.events

/-- Of the stage and pump records nothing has changed but the record of one pump; the start queue, the feeder
records, the events and the count of commands may have. -/
def OnlyPump (p : Fin 32) (x y : Plant) : Prop := y.stages = x.stages ∧ ∀ p' : Fin 32, p' ≠ p → y.pump p' = x.pump p'

/-- The start slots of `y` are those of `x`, and every scan that `x` asks for is still asked for; the committed power,
whose fall asks for a scan of its own, may differ (R95, R100, R103). -/
def SlotsFrom (x y : Plant) : Prop :=
  ∀ f : Feeder, (y.feeder f).busy = (x.feeder f).busy ∧ (y.feeder f).holder = (x.feeder f).holder ∧
    (y.feeder f).released = (x.feeder f).released ∧ (y.feeder f).spacingT = (x.feeder f).spacingT ∧
    ((x.feeder f).scanDue = true → (y.feeder f).scanDue = true)

/-- Nothing of the part outside the scheduling records, the standing conditions and the lines has changed. -/
def OnlyPlant (s t : Part) : Prop :=
  t.power = s.power ∧ t.tab = s.tab ∧ t.cal = s.cal ∧ t.levels = s.levels ∧ t.line = s.line ∧ t.mgmt = s.mgmt ∧
    t.free = s.free

/-- No record of the scheduling blocks has changed but the events. -/
def SameRecords (x y : Plant) : Prop :=
  y.pumps = x.pumps ∧ y.stages = x.stages ∧ y.queue = x.queue ∧ y.feedA = x.feedA ∧ y.feedB = x.feedB ∧
    y.nextId = x.nextId

/-- Of the Line Interface nothing has changed but what the arrival of a frame on U and its reply can change: the
receiver of U, the mirror and reply queues, the upline quiet timer and the upline lost condition. -/
def SameLine (l m : Line) : Prop :=
  m.rate = l.rate ∧ m.rxD = l.rxD ∧ m.uQueue = l.uQueue ∧ m.dQueue = l.dQueue ∧ m.uTx = l.uTx ∧ m.dTx = l.dTx ∧
    m.mTx = l.mTx ∧ m.uTurn = l.uTurn ∧ m.dTurn = l.dTurn ∧ m.pointer = l.pointer ∧ m.checkHold = l.checkHold

/-- Every event but MIRROR_DROP, which the mirroring of the frame itself can raise, is pending exactly where the
set `w` says so. -/
def PendingBut (w : Word) (v : Events) : Prop :=
  ∀ n : Nat, n ≠ 2 → v.pending.getLsbD n = w.getLsbD n

/-- The part runs, the last event has been taken whole, and the lines follow the conditions. -/
def Steady (s : Part) : Prop := s.power = .on ∧ Settled s.plant ∧ LinesFollow s

/-- The part as the arrival of a good frame on U leaves it before the frame is disposed of: its receiver in HUNT, the
upline quiet timer restarted where its time is not 0, and the upline lost condition clear (R128, R137). -/
def Part.heard (s : Part) : Part :=
  { s with line := { s.line with
      rxU := .hunt
      quietT := if s.tab.t9.quietTime = 0 then s.line.quietT else startTimer s.cal.uptime s.tab.t9.quietTime
      uplineLost := false } }

/-- The event of a frame on U whose disposal leaves the part as `s` ends as `t`: the frame is offered for mirroring and
the lines follow the conditions, and nothing else of `s` has changed, where no scan is left over (R100, R122, R123,
R131, R150). -/
def Mirrored (f : Frame) (s t : Part) : Prop := t = finish (mirror .down f s)

/-- What the mirroring of a frame can change: the mirror queue, and MIRROR_DROP with the notice that it places. -/
def OnlyMirror (s t : Part) : Prop :=
  SameRecords s.plant t.plant ∧ PendingBut s.plant.events.pending t.plant.events ∧ SameLine s.line t.line ∧
    t.line.rxU = s.line.rxU ∧ t.line.replyQueue = s.line.replyQueue ∧ t.line.quietT = s.line.quietT ∧
    t.line.uplineLost = s.line.uplineLost ∧ t.power = s.power ∧ t.tab = s.tab ∧ t.cal = s.cal ∧
    t.levels = s.levels ∧ t.mgmt = s.mgmt ∧ t.free = s.free ∧ t.plant.events.on = s.plant.events.on ∧
    t.plant.events.notified = s.plant.events.notified

/-- A directed request reaches a part that can take it: the part runs, no scan is left over, the check hold is
clear and the reply queue has room (R162). -/
def Asked (h : ReqHead) (s : Part) : Prop :=
  s.power = .on ∧ Settled s.plant ∧ h.dest = s.address ∧ s.line.checkHold = false ∧
    s.line.replyQueue.length < replyCapacity

/-- The reply that a directed request is answered with. -/
def replyTo (h : ReqHead) (status : Status) (reason : Byte) (data : List Byte) : Reply :=
  { dest := h.source, status := status.code, reason := reason, tag := h.tag, data := data, restart := false }

/-- The reply has been entered at the end of the reply queue. -/
def Replied (s t : Part) (r : Reply) : Prop := t.line.replyQueue = s.line.replyQueue ++ [r]

/-- The request that the frame `f` carries ends as `t`, where its carrying out leaves the part as `u`: its reply is at
the end of the reply queue, and the frame is offered for mirroring (R139, R150, R162). -/
def Answered (f : Frame) (u t : Part) (r : Reply) : Prop :=
  Mirrored f { u with line := { u.line with replyQueue := u.line.replyQueue ++ [r] } } t

/-- A request that changes nothing but its own reply and what the arrival of its frame changes: the receiver of U, the
upline quiet timer, the upline lost condition and what the mirroring of the frame changes (R128, R137, R150). -/
def OnlyReply (f : Frame) (s t : Part) (r : Reply) : Prop := Answered f s.heard t r

/-- The events after a request that leaves them as `v`: MIRROR_DROP is raised besides where the frame of the request is
mirrored and its copy is dropped, and it is mirrored only where a window holds its source (R150). -/
def EventsAfter (h : ReqHead) (s : Part) (v w : Events) : Prop :=
  w = v ∨ (w = v.raise .mirrorDrop ∧ ∃ i : Fin 8, s.tab.t7[i].holdsSource .down h.source = true)

/-- The scheduling records after a minute boundary, if one is due: where the class of the clock is not the class held,
every enabled stage has been evaluated with CLASS_CHANGE and the scans have been taken (R27, R100). -/
def BoundaryTaken (s : Part) (y : Plant) : Prop :=
  y = if s.cal.boundaryDue = true ∧ classAt s.tab s.cal ≠ s.cal.cls then
      settle { s.view with cls := classAt s.tab s.cal }
        (evaluateAll { s.view with cls := classAt s.tab s.cal } .classChange s.plant)
    else s.plant

/-- Commands sent one after another, each to the state that the one before it leaves. -/
def execAll : List Instr → State → Host.Outcome State Fault Refusal
  | [], s => .next s
  | c :: cs, s =>
    match exec c s with
    | .next t => execAll cs t
    | o => o

/-- The expiry and entry commands, each once, in the order in which a step takes what is left over (log 8). -/
def leftovers : List Instr :=
  [.minuteBoundary] ++ reservoirList.map .staleEntry ++ stageList.map .startHistoryAgeing ++
    (slots.flatMap fun p => [.minRunExpiry p, .minRestExpiry p, .startConfirmExpiry p, .stopConfirmExpiry p,
      .retryTimerExpiry p, .provingExpiry p]) ++
    stageList.map .stopSpacingExpiry ++ [.feederSpacingExpiry .a, .feederSpacingExpiry .b, .uplineQuietExpiry,
      .settleExpiry]

/-- The state in which an event of the running part ends that leaves the part as `t`: the scans it has caused are
taken, and the lines follow the conditions (R100, R122, R123). -/
def State.endingAt (s : State) (t : Part) : State := { s with part := finish t }

/-- The same for an event that leaves the scheduling records as `y` and the rest of the part as it is. -/
def State.ending (s : State) (y : Plant) : State := s.endingAt { s.part with plant := y }

/-- Nothing is due at the present uptime and nothing is left over from the step before: no timer, minute
boundary, stale entry or ageing of a start history (R18, R19). -/
def NothingDue (s : Part) : Prop :=
  s.cal.boundaryDue = false ∧ (∀ r : Fin 10, s.levels[r].staleDue = false) ∧
    (∀ p : Fin 32, ∀ u ∈ (s.plant.pump p).history, age s.cal.uptime u < 3600) ∧
    (∀ p : Fin 32, ∀ t ∈ [(s.plant.pump p).minRunT, (s.plant.pump p).minRestT, (s.plant.pump p).startT,
      (s.plant.pump p).stopT, (s.plant.pump p).retryT, (s.plant.pump p).provingT], t ≠ some s.cal.uptime) ∧
    (∀ k : Fin 8, (s.plant.stage k).spacingT ≠ some s.cal.uptime) ∧
    s.plant.feedA.spacingT ≠ some s.cal.uptime ∧ s.plant.feedB.spacingT ≠ some s.cal.uptime ∧
    s.line.quietT ≠ some s.cal.uptime ∧ s.mgmt.settleT ≠ some s.cal.uptime

/-- The characters of a run of bytes arrive on a port one after another, each with its stop bit. -/
def receive (port : Port) : List Byte → State → Host.Outcome State Fault Refusal
  | [], s => .next s
  | b :: bs, s =>
    match exec (.characterReceived port b true) s with
    | .next t => receive port bs t
    | o => o

/-- The expiry and entry commands that act only where what they take is due, and whether it is: the timer of the
command expires at the present uptime, the last step marked the entry or the boundary, or the stage has a start
that has aged. -/
def dueAt (s : Part) : Instr → Option Bool
  | .minuteBoundary => some s.cal.boundaryDue
  | .staleEntry r => some s.levels[r].staleDue
  | .startHistoryAgeing k =>
    some ((stageSlots k).any fun p => (s.plant.pump p).history.any fun u => decide (3600 ≤ age s.cal.uptime u))
  | .minRunExpiry p => some (due s.cal.uptime (s.plant.pump p).minRunT)
  | .minRestExpiry p => some (due s.cal.uptime (s.plant.pump p).minRestT)
  | .startConfirmExpiry p => some (due s.cal.uptime (s.plant.pump p).startT)
  | .stopConfirmExpiry p => some (due s.cal.uptime (s.plant.pump p).stopT)
  | .stopSpacingExpiry k => some (due s.cal.uptime (s.plant.stage k).spacingT)
  | .feederSpacingExpiry f => some (due s.cal.uptime (s.plant.feeder f).spacingT)
  | .retryTimerExpiry p => some (due s.cal.uptime (s.plant.pump p).retryT)
  | .provingExpiry p => some (due s.cal.uptime (s.plant.pump p).provingT)
  | .uplineQuietExpiry => some (due s.cal.uptime s.line.quietT)
  | .settleExpiry => some (due s.cal.uptime s.mgmt.settleT)
  | _ => none

/-- The commands that act on a part that is not running: those of power and of the RESET input (R171). -/
def ofPower : Instr → Bool
  | .powerOn _ => true
  | .resetInput _ => true
  | .powerLoss => true
  | _ => false

/-- Every STARTING pump is the holder of a BUSY start slot that it has not yet left, so that at most one pump of each
slot is STARTING (R103). -/
def SlotsHeld (x : Plant) : Prop :=
  ∀ p : Fin 32, (x.pump p).state = .starting →
    ∃ f : Feeder, (x.feeder f).busy = true ∧ (x.feeder f).holder = p ∧ (x.feeder f).released = false

/-- What every step keeps of the part: the interface's queues, the lines and the notice slot. -/
def Part.Sound (s : Part) : Prop := QueuesFit s.line ∧ LinesFollow s ∧ NoticeFits s.plant.events

/-- What every step keeps of the settings: the ranged tables in working memory, in the store's copy and in a save
in flight are within their ranges. -/
def Part.SettingsKept (s : Part) : Prop :=
  s.tab.ok ∧ s.mgmt.store.copy.ok ∧ ∀ t, s.mgmt.store.saving = some t → t.ok

/-- What every step keeps of the live records: reservoirs, stages and pumps within their ranges, the record of a
stage that is not enabled at the values of R34, the advised slot 0 without an advised action (R33), and the clock
within a day (R21). -/
def Part.RecordsKept (s : Part) : Prop :=
  (∀ r : Fin 10, s.levels[r].ok s.tab.t1[r]) ∧
    (∀ k : Fin 8, (s.plant.stage k).ok s.tab.t2[k] ∧
      (s.tab.t2[k].enabled = false → s.plant.stage k = { cause := (s.plant.stage k).cause }) ∧
      ((s.plant.stage k).advice = .none → (s.plant.stage k).adviceSlot = 0) ∧ (s.plant.stage k).adviceSlot ≤ 31) ∧
    (∀ p : Fin 32, (s.plant.pump p).ok s.tab.t3[p]) ∧ s.cal.minute < 1440 ∧ s.cal.second < 60

/-- What every step keeps of the start queue and of the committed power (R95, R96, R98). -/
def Part.Agrees (s : Part) : Prop :=
  QueueAgrees s.plant ∧ PowerAgrees s.tab s.plant ∧ QueueSorted s.tab s.plant ∧ QueueRanked s.plant

/-! ### What a reconciliation ends with, and the orders of selection -/

/-- The end of a reconciliation: the shortfall flag and the advised fields are written, and SHORTFALL is raised where
the flag goes from clear to set (R78, R83, R90). -/
def Plant.reported (k : Fin 8) (a : Advice) (n : Nat) (short : Bool) (y : Plant) : Plant :=
  let z := y.setStage k { y.stage k with shortfall := short, advice := a, adviceSlot := n }
  if short = true ∧ (y.stage k).shortfall = false then z.raise .shortfall else z

/-- The assigned pumps of a stage, in order of position. -/
def ownPumps (tab : Settings) (k : Fin 8) : List (Fin 32) := slots.filter fun p => stageOf p == k && assigned tab p

/-- The order of start selection: not warned before warned, then the lower run seconds, then the lower position
(R82). -/
def StartsFirst (v : View) (x : Plant) (p p' : Fin 32) : Prop :=
  ((x.pump p).warn = false ∧ (x.pump p').warn = true) ∨
    ((x.pump p).warn = (x.pump p').warn ∧
      (v.tab.t14[p] < v.tab.t14[p'] ∨ (v.tab.t14[p] = v.tab.t14[p'] ∧ p < p')))

/-- The order of stop selection: warned before not warned, then the greater age of the uptime of run start, then the
lower position (R85). -/
def StopsFirst (v : View) (x : Plant) (p p' : Fin 32) : Prop :=
  ((x.pump p).warn = true ∧ (x.pump p').warn = false) ∨
    ((x.pump p).warn = (x.pump p').warn ∧
      (age v.now (x.pump p').runStart < age v.now (x.pump p).runStart ∨
        (age v.now (x.pump p').runStart = age v.now (x.pump p).runStart ∧ p < p')))

/-! ### Judgement -/

/-- The first index that a test names. -/
def FirstOf {n : Nat} (bad : Fin n → Prop) (i : Fin n) : Prop := bad i ∧ ∀ j : Fin n, j < i → ¬bad j

/-- Tests made one after another, each with its reason: the first that any index fails refuses, naming the first index
that fails it; what passes them all passes as `pass` says. -/
def JudgedBy {α : Type} {n : Nat} (v : Verdict α) (table : Nat) (pass : α → Bool → Prop) :
    List (Reason × (Fin n → Prop)) → Prop
  | [] => ∃ (a : α) (clamped : Bool), v = .passed a clamped ∧ pass a clamped
  | t :: rest => (∀ i : Fin n, FirstOf t.2 i → v = .refused t.1 table i.val) ∧
      ((∀ i : Fin n, ¬t.2 i) → JudgedBy v table pass rest)

/-- The written rows as a TABLE_WRITE of the right form gives them: the words of an entry, the flags taken as R165
states. -/
def RowsFit (rows : List Row) : Prop :=
  ∀ r ∈ rows, r.words.length = entryWords r.table ∧ takeFlags r.table r.words = r.words

/-- An entry of a table as it would stand after the write: as written, or as it stands. -/
def asWritten {α : Type} (rows : List Row) (table index : Nat) (of : List Word → α) (old : α) : α :=
  match rowFor rows table index with
  | some ws => of ws
  | none => old

/-- A word written for an entry of the table is changed by clamping. -/
def ClampedIn (rows : List Row) (table : Nat) (out : List Word → Prop) : Prop :=
  ∃ (i : Nat) (ws : List Word), i < tableSize table ∧ rowFor rows table i = some ws ∧ out ws

/-- A field is outside a range. -/
def outside (lo hi n : Nat) : Prop := n < lo ∨ hi < n

/-- The refusal of a judgement, if it refuses. -/
def Verdict.refusal {α : Type} : Verdict α → Option (Reason × Nat × Nat)
  | .refused r t i => some (r, t, i)
  | .passed _ _ => none

/-- The table that a judgement gives, where it passes. -/
def Verdict.table? {α : Type} : Verdict α → Option (α × Bool)
  | .refused _ _ _ => none
  | .passed a c => some (a, c)

/-- The records, and the commands carried, as some items of a COMMAND frame leave them, each item taken as passed
(R155, R157). -/
def itemsEffect (v : View) (f : Frame) (items : List (Byte × Byte)) (x : Plant) : Plant × List (Fin 32 × Nat) :=
  items.foldl (fun z item =>
    match itemPump v.tab f.dest.toNat item.1.toNat with
    | none => z
    | some p => ((itemEffect v p item.2 z.1).1, z.2 ++ (itemEffect v p item.2 z.1).2)) (x, [])

/-- What power-on, and the release of the RESET input, give the part from a store: the tables, the store's state
and the address and operating modes by R170 and R171, the clock unset, uptime 0, every queue empty and every
receiver in HUNT. -/
def FreshFrom (store : Store) (straps : Straps) (t : Part) : Prop :=
  t.power = .on ∧ t.mgmt.store = store ∧ t.mgmt.lastCheck = .none ∧ t.mgmt.restartPending = false ∧
    (store.checkMatches = true → t.tab = store.copy ∧ t.mgmt.storeState = .valid ∧ t.mgmt.outcome = .none ∧
      t.mgmt.storeInvalid = false ∧ t.plant.events.pending = 0 ∧
      t.mgmt.mode = (if store.copy.t9.autoResume then .settling else .passive) ∧
      t.mgmt.settleT = (if store.copy.t9.autoResume then startTimer 0 store.copy.t9.settleTime else none)) ∧
    (store.checkMatches = false → t.tab = {} ∧ t.mgmt.storeState = .invalid ∧ t.mgmt.outcome = .loadFailed ∧
      t.mgmt.storeInvalid = true ∧ t.plant.events.pending = Event.settings.bit ∧ t.mgmt.mode = .passive ∧
      t.mgmt.settleT = none) ∧
    t.mgmt.addrMode = (if t.tab.t9.service = 0 then .commissioning else .service) ∧
    t.cal = { uptime := 0, clockSet := false, day := 0, minute := 0, second := 0, cls := .normal } ∧
    t.line.rate = rateOf straps ∧ t.line.rxU = .hunt ∧ t.line.rxD = .hunt ∧ t.line.uQueue = [] ∧
    t.line.dQueue = [] ∧ t.line.replyQueue = [] ∧ t.line.mirrorQueue = [] ∧ t.line.uTx = none ∧
    t.line.dTx = none ∧ t.line.mTx = none ∧ t.line.uTurn = .forward ∧ t.line.dTurn = .forward ∧
    t.line.pointer = 31 ∧ t.line.checkHold = false ∧ t.line.uplineLost = false ∧
    t.line.quietT = (if t.tab.t9.quietTime = 0 then none else startTimer 0 t.tab.t9.quietTime) ∧
    t.plant.queue = [] ∧ t.plant.events.on = false ∧ t.plant.events.notified = 0 ∧
    t.plant.events.waiting = false ∧ Settled t.plant ∧ LinesFollow t

/-- The live records after any reset: reservoirs by R5, stages by R34, pumps by R56 and R59, feeders by R94. -/
def FreshRecords (t : Part) : Prop :=
  (∀ r : Fin 10, t.levels[r] =
    if t.tab.t1[r].enabled = true ∧ t.tab.t1[r].kind = .unmetered then
      { level := t.tab.t1[r].fs, state := .normal } else {}) ∧
    (∀ k : Fin 8, t.plant.stage k = {}) ∧
    (∀ p : Fin 32, t.plant.pump p =
      { state := if assigned t.tab p then .unseen else .off, owner := t.tab.t3[p].defaultOwner }) ∧
    ∀ f : Feeder, (t.plant.feeder f).busy = false ∧ (t.plant.feeder f).holder = 0 ∧
      (t.plant.feeder f).released = false ∧ (t.plant.feeder f).spacingT = none ∧
      (t.plant.feeder f).committed =
        ((slots.filter fun p => assigned t.tab p && t.tab.t3[p].feeder == f).map fun p =>
          t.tab.t3[p].rating).sum

end Sys2Proof.Machine
end

