-- ==== Sys2Proof/Certificates/Slice0/Obligations.lean ====
section
/-!
DEFINITION. The statements for the provers. A statement about a command gives the outcome of `exec` on it; what
its result names is a shared operation of the model (`reconcile`, `restTest`, `settle`, `finish`), and those
operations have statements of their own.
-/

open Sys2Proof Sys2Proof.Machine

/-! ### The machine -/

/-- A step carries out the command at the front of the queue on the state with the rest of the queue; on an empty
queue it changes nothing. The block's own convention: log 1. -/
def Obligations.StepTakesFront : Prop :=
  (∀ (c : Instr) (rest : List Instr) (s : State),
    step { s with pending := c :: rest } = exec c { s with pending := rest }) ∧
  ∀ s : State, step { s with pending := [] } = .next { s with pending := [] }

/-- Right after reset the machine is a new part that has powered up with an invalid store (section 11.9): every
table at its defaults, COMMISSIONING, PASSIVE, SETTINGS pending, the store-invalid condition standing and FAULT
asserted. That reset is this power-up is the model's choice: log 2. The reset state has what every step keeps. -/
def Obligations.ResetState : Prop :=
  (State.reset.pending = [] ∧ State.reset.part.power = .on ∧ State.reset.part.tab = {} ∧
     State.reset.part.mgmt.addrMode = .commissioning ∧ State.reset.part.mgmt.mode = .passive ∧
     State.reset.part.mgmt.storeState = .invalid ∧ State.reset.part.mgmt.outcome = .loadFailed ∧
     State.reset.part.mgmt.storeInvalid = true ∧ State.reset.part.plant.events.pending = Event.settings.bit ∧
     State.reset.part.conditions = flagBit true 3 ∧ State.reset.part.fault = true ∧
     State.reset.part.alert = false ∧ State.reset.part.cal.uptime = 0 ∧
     State.reset.part.cal.clockSet = false ∧ State.reset.part.cal.cls = .normal ∧
     ∀ straps : Straps, fullReset straps { State.reset.part with power := .off false } =
       { State.reset.part with line := { rate := rateOf straps } }) ∧
  State.reset.part.Sound ∧ State.reset.part.SettingsKept ∧ State.reset.part.RecordsKept ∧
  State.reset.part.Agrees ∧ SlotsHeld State.reset.part.plant ∧ Steady State.reset.part

/-- Every step keeps the queues of the Line Interface within their capacities, the two lines as the standing
conditions give them (asserted and inactive while the RESET input holds the part), and the notice slot EMPTY while
notices are disabled (R122, R123, R124, R133). The standing condition summary, flag by flag: an assigned pump
TRIPPED, LOCKED_OUT or STOP_FAILED; an enabled stage under DRY_RUN or OVERFLOW; an enabled METERED reservoir in
LOW_ALARM or HIGH_ALARM; the store-invalid flag; an enabled METERED reservoir STALE; an assigned pump warned; the
upline lost; an enabled stage short; a feeder's committed power above its budget; the flags 9 to 15 clear (R122).
FAULT is asserted while one of the conditions 0 to 3 stands where the ALERT line is enabled, and while any stands
where it is not; ALERT is active while any stands and the line is enabled (R123). -/
def Obligations.StepKeepsSound : Prop :=
  (∀ s t : State, s.part.Sound → step s = .next t → t.part.Sound) ∧
  ∀ (s : Part) (stands : Nat → Prop),
    (∀ n : Nat, stands n ↔
      (n = 0 ∧ ∃ p : Fin 32, assigned s.tab p = true ∧ ((s.plant.pump p).state = .tripped ∨
        (s.plant.pump p).state = .lockedOut ∨ (s.plant.pump p).state = .stopFailed)) ∨
      (n = 1 ∧ ∃ k : Fin 8, s.tab.t2[k].enabled = true ∧
        ((s.plant.stage k).override = .dryRun ∨ (s.plant.stage k).override = .overflow)) ∨
      (n = 2 ∧ ∃ r : Fin 10, s.tab.t1[r].enabled = true ∧ s.tab.t1[r].kind = .metered ∧
        (s.levels[r].state = .lowAlarm ∨ s.levels[r].state = .highAlarm)) ∨
      (n = 3 ∧ s.mgmt.storeInvalid = true) ∨
      (n = 4 ∧ ∃ r : Fin 10, s.tab.t1[r].enabled = true ∧ s.tab.t1[r].kind = .metered ∧
        s.levels[r].state = .stale) ∨
      (n = 5 ∧ ∃ p : Fin 32, assigned s.tab p = true ∧ (s.plant.pump p).warn = true) ∨
      (n = 6 ∧ s.line.uplineLost = true) ∨
      (n = 7 ∧ ∃ k : Fin 8, s.tab.t2[k].enabled = true ∧ (s.plant.stage k).shortfall = true) ∨
      (n = 8 ∧ ∃ f : Feeder, (s.tab.feeder f).budget < (s.plant.feeder f).committed)) →
    (∀ n : Nat, (conditionSummary s).getLsbD n = true ↔ stands n) ∧
    (faultLevel s = true ↔ ∃ n : Nat, stands n ∧ (s.tab.t9.alertEnabled = true → n ≤ 3)) ∧
    (alertLevel s = true ↔ s.tab.t9.alertEnabled = true ∧ ∃ n : Nat, stands n)

/-- Every step keeps the settings tables T0 to T9, in working memory, in the store's copy and in a save in flight,
within their ranges and without two entries of one key (R1, R2, R24, R25, R30, R53, R54, R93, R141, R149, R154,
R161). With them, every step keeps the live records within their ranges: a level within 0..FS, a rate within
-500..500 and 0 in UNKNOWN and STALE, the fixed values of an unmetered source and of a reservoir not enabled (R4,
R5, R11, R12); D0 to D3 within 0..1000 and W within 0..max running, the values of R34 on a stage not enabled (R33,
R34); at most twelve starts, the retry count not above its limit and the trip confirm count not above 4 (R73, R111,
R114); and the clock within a day (R21). -/
def Obligations.StepKeepsSettings : Prop :=
  (∀ s t : State, s.part.SettingsKept → step s = .next t → t.part.SettingsKept) ∧
  ∀ s t : State, s.part.SettingsKept → s.part.RecordsKept → step s = .next t → t.part.RecordsKept

/-- Every step keeps a pump in the start queue exactly when it is QUEUED, no pump in it twice, the queue in the
order of the class ranks, the entry ranks 1 to the number of requests, each once, and the committed power of each
feeder equal to the sum of R95 (R95, R96, R98). -/
def Obligations.StepKeepsQueueAndPower : Prop :=
  ∀ s t : State, s.part.Agrees → step s = .next t → t.part.Agrees

/-- After any event no grant scan is left over: the bound on the number of scans that follow it is never reached.
The scans follow one after another (R100); that feeder A is taken before feeder B where both are due is the model's
choice: log 12. An event ends with its scans and then the recomputation of the standing conditions and the lines
(R122, R123). Before them, the event of a pump ends with the reconciliation of its stage (R61); a min run of 0 that
the event has started then expires at once: log 40. -/
def Obligations.SettleTakesEveryScan : Prop :=
  (∀ (v : View) (x : Plant), Settled (settle v x) ∧ (Settled x → settle v x = x) ∧
    (x.feedA.scanDue = true → settle v x = settle v (scan v .a x)) ∧
    (x.feedA.scanDue = false → x.feedB.scanDue = true → settle v x = settle v (scan v .b x))) ∧
  (∀ (s : Part) (y : Plant), y = settle s.view s.plant → settlePart s = { s with plant := y } ∧
    finish s = { s with
      plant := y, conditions := conditionSummary { s with plant := y }
      fault := faultLevel { s with plant := y }, alert := alertLevel { s with plant := y } }) ∧
  ∀ (v : View) (p : Fin 32) (x y z : Plant), y = reconcile v (stageOf p) x →
    z = y.setPump p { y.pump p with minRunT := none, minRunMet := true } →
    finishPump v p x =
      if v.tab.t3[p].minRun = 0 ∧ (y.pump p).minRunT = some v.now then
        if (y.pump p).state = .running then reconcile v (stageOf p) z else z
      else y

/-- An expiry or entry command whose timer, entry or ageing is not due changes nothing. That such a command may be
sent, and then has no effect, is the model's choice: log 3. While the part has no power or is held by the RESET
input, no command but those of power and of the RESET input changes anything: R171 says so of requests, and of every
other command it is the model's choice: log 4. -/
def Obligations.CommandsWithoutEffect : Prop :=
  (∀ (c : Instr) (s : State), Steady s.part → dueAt s.part c = some false → exec c s = .next s) ∧
  ∀ (c : Instr) (s : State), s.part.power ≠ .on → ofPower c = false → exec c s = .next s

/-! ### Power, reset and the settings store -/

/-- POWER_ON: the store is tested, the tables are loaded or set to defaults, and every block takes its reset values
(R170, R171); where the RESET input is asserted, FAULT is asserted and ALERT inactive until its release (R123). On a
part that has power already it stands for a loss of power and power-on, so that a save in flight leaves the check
word failing: the model's choice, log 4. RESET_INPUT: asserted on a part with power, FAULT is asserted, ALERT
inactive, transmissions are cut off and a save in flight leaves the check word failing; released, every block takes
its reset values from the store (R123, R136, R170, R171), the line rate by the straps (R127); without power its
level alone is kept, for the next power-on. That the command has two phases, which effect belongs to which, and that
a part held from power-on has its queues empty and its transmitters idle till the release, are the model's choice:
log 33. The uptimes of run start and of stop of a slot that is not assigned after it are read as 0, which R56 does
not list: the model's reading, log 18. -/
def Obligations.PowerOnAndResetLoadStore : Prop :=
  (∀ (straps : Straps) (s : State), ∃ t : State, exec (.powerOn straps) s = .next t ∧ t.pending = s.pending ∧
     (s.part.power = .on ∨ s.part.power = .off false →
       FreshFrom s.part.mgmt.store.breakOff straps t.part ∧ FreshRecords t.part) ∧
     (s.part.power = .held ∨ s.part.power = .off true → ∃ u : Part,
       FreshFrom s.part.mgmt.store.breakOff straps u ∧ FreshRecords u ∧
       t.part = { u with power := .held, line := { rate := rateOf straps }, fault := true, alert := false })) ∧
  (∀ s : State, (s.part.power = .on ∨ s.part.power = .held → ∃ t : State, exec (.resetInput .asserted) s = .next t ∧
    t.pending = s.pending ∧ t.part.power = .held ∧ t.part.fault = true ∧ t.part.alert = false ∧
    t.part.line = { rate := s.part.line.rate } ∧
    t.part.mgmt.store = s.part.mgmt.store.breakOff ∧
    (s.part.mgmt.store.saving ≠ none → t.part.mgmt.store.checkMatches = false)) ∧
    ∀ b : Bool, s.part.power = .off b →
      exec (.resetInput .asserted) s = .next { s with part := { s.part with power := .off true } }) ∧
  (rateOf ⟨false, false⟩ = .b9600 ∧ rateOf ⟨false, true⟩ = .b19200 ∧ rateOf ⟨true, false⟩ = .b38400 ∧
    rateOf ⟨true, true⟩ = .b57600) ∧
  ∀ (straps : Straps) (s : State),
    (s.part.power = .held → ∃ t : State, exec (.resetInput (.released straps)) s = .next t ∧
      t.pending = s.pending ∧ FreshFrom s.part.mgmt.store straps t.part ∧ FreshRecords t.part) ∧
    (s.part.power = .on → exec (.resetInput (.released straps)) s = .next s) ∧
    ∀ b : Bool, s.part.power = .off b →
      exec (.resetInput (.released straps)) s = .next { s with part := { s.part with power := .off false } }

/-- POWER_LOSS: a loss of power during a save leaves the check word failing; the store otherwise keeps what it holds
(R170). Nothing else outlives the loss but the level of the RESET input and the count of free values: the other
fields take the values the model gives a part without power, which POWER_ON does not read, and the pins are free
values (log 4, 31). SETTINGS_SAVE_COMPLETE: DONE makes the store VALID with the captured tables and ends the
store-invalid flag; FAILED makes it INVALID with its check word failing and leaves the flag; either raises SETTINGS
(R170). That the command without a save in flight changes nothing is the model's choice: log 3. -/
def Obligations.SaveOutcomes : Prop :=
  (∀ (s : State) (reset : Bool), (s.part.power = .on ∧ reset = false) ∨ (s.part.power = .held ∧ reset = true) →
     ∃ t : State, exec .powerLoss s = .next t ∧ t.pending = s.pending ∧
     t.part.power = .off reset ∧ t.part.mgmt.store.copy = s.part.mgmt.store.copy ∧
     t.part.mgmt.store.saving = none ∧
     t.part.mgmt.store.checkMatches =
       (s.part.mgmt.store.checkMatches && s.part.mgmt.store.saving.isNone) ∧
     t.part = { power := .off reset, mgmt := { store := t.part.mgmt.store }
                fault := Config.unpoweredFault s.part.free, alert := Config.unpoweredAlert s.part.free
                free := s.part.free + 1 }) ∧
  (∀ (done : Bool) (tab : Settings) (s : State), s.part.power = .on → Settled s.part.plant →
    s.part.mgmt.store.saving = some tab →
    ∃ t : State, exec (.settingsSaveComplete done) s = .next t ∧ t.pending = s.pending ∧
      t.part.mgmt.store.saving = none ∧ t.part.mgmt.store.checkMatches = done ∧
      (done = true → t.part.mgmt.store.copy = tab ∧ t.part.mgmt.storeState = .valid ∧
        t.part.mgmt.outcome = .done ∧ t.part.mgmt.storeInvalid = false) ∧
      (done = false → t.part.mgmt.storeState = .invalid ∧ t.part.mgmt.outcome = .failed ∧
        t.part.mgmt.storeInvalid = s.part.mgmt.storeInvalid) ∧
      t.part.plant.events = s.part.plant.events.raise .settings ∧ SameRecords s.part.plant t.part.plant ∧
      t.part.tab = s.part.tab ∧ t.part.cal = s.part.cal ∧ t.part.levels = s.part.levels ∧
      t.part.line = s.part.line ∧ t.part.mgmt.mode = s.part.mgmt.mode ∧
      t.part.mgmt.addrMode = s.part.mgmt.addrMode) ∧
  ∀ (done : Bool) (s : State), Steady s.part → s.part.mgmt.store.saving = none →
    exec (.settingsSaveComplete done) s = .next s

/-- U_TRANSMIT_COMPLETE at the end of the reply of a RESTART: the tables, the clock and the store are kept, the
class is recomputed from them, the operating mode is PASSIVE, the pending event set is empty, and every other block
takes its reset values (R29, R171). That the straps are sampled then, as an operand of the command, is the model's
choice: log 33. The uptimes of run start and of stop of a slot that is not assigned after it are read as 0, which
R56 does not list: the model's reading, log 18. -/
def Obligations.RestartTakesEffect : Prop :=
  ∀ (straps : Straps) (f : Frame) (s : State), s.part.power = .on → s.part.line.uTx = some (.reply f true) →
    ∃ t : State, exec (.uTransmitComplete straps) s = .next t ∧ t.pending = s.pending ∧ FreshRecords t.part ∧
      t.part.tab = s.part.tab ∧ t.part.mgmt.store = s.part.mgmt.store ∧
      t.part.mgmt.storeState = s.part.mgmt.storeState ∧ t.part.mgmt.outcome = s.part.mgmt.outcome ∧
      t.part.mgmt.storeInvalid = s.part.mgmt.storeInvalid ∧ t.part.mgmt.mode = .passive ∧
      t.part.mgmt.lastCheck = .none ∧ t.part.mgmt.settleT = none ∧ t.part.mgmt.restartPending = false ∧
      t.part.mgmt.addrMode = (if s.part.tab.t9.service = 0 then .commissioning else .service) ∧
      t.part.cal.uptime = 0 ∧ t.part.cal.clockSet = s.part.cal.clockSet ∧ t.part.cal.day = s.part.cal.day ∧
      t.part.cal.minute = s.part.cal.minute ∧ t.part.cal.second = s.part.cal.second ∧
      t.part.cal.cls = classAt s.part.tab s.part.cal ∧ t.part.cal.boundaryDue = false ∧
      t.part.line = { rate := rateOf straps, quietT := if s.part.tab.t9.quietTime = 0 then none
        else startTimer 0 s.part.tab.t9.quietTime } ∧
      t.part.plant.events = {} ∧ t.part.plant.queue = [] ∧ LinesFollow t.part

/-! ### The seconds timebase and the calendar -/

/-- SECONDS_STEP: uptime rises by 1 modulo 2^32; the set clock advances by a second with rollover of second, minute
and day, and the clock that is not set holds (R18, R21). What the step before left due is taken first, as if each
expiry and entry command were sent once, in the order of log 8, and with nothing left over that changes nothing.
Then the run seconds of every assigned pump whose last feedback is RUNNING grow by 1 and stay at their greatest
value, every other count is kept, and no other record changes (R18, R57). What the step makes due is left as a mark
of the model's own, for a reservoir that has reached its stale time (R9) and for a minute boundary (R27); that it is
left so, and that the next step takes first what is left over, are the model's choices: log 8, 9 and 10. An age is
the difference of the uptimes modulo 2^32; a timer started for a time ends at the present uptime plus it, and is due
at that uptime (R19, R20). -/
def Obligations.SecondsStepAdvances : Prop :=
  (∀ (now since : Uptime) (n : Nat) (u : Timer),
    (age now since : Int) = ((now.toNat : Int) - since.toNat) % 4294967296 ∧
    (startTimer now n = u → n < 4294967296 → ∃ e : Uptime, u = some e ∧ age e now = n) ∧
    (due now u = true ↔ u = some now)) ∧
  (∀ s : State, s.part.power = .on → ∃ t : State, exec .secondsStep s = .next t ∧ t.pending = s.pending ∧
     t.part.cal.uptime = s.part.cal.uptime + 1 ∧ t.part.cal.clockSet = s.part.cal.clockSet ∧
     (s.part.cal.clockSet = false → t.part.cal.day = s.part.cal.day ∧
       t.part.cal.minute = s.part.cal.minute ∧ t.part.cal.second = s.part.cal.second) ∧
     (s.part.cal.clockSet = true → s.part.cal.second + 1 < 60 → t.part.cal.day = s.part.cal.day ∧
       t.part.cal.minute = s.part.cal.minute ∧ t.part.cal.second = s.part.cal.second + 1 ∧
       t.part.cal.boundaryDue = false) ∧
     (s.part.cal.clockSet = true → 60 ≤ s.part.cal.second + 1 → t.part.cal.boundaryDue = true ∧
       t.part.cal.second = 0 ∧
       (s.part.cal.minute + 1 < 1440 → t.part.cal.day = s.part.cal.day ∧
         t.part.cal.minute = s.part.cal.minute + 1) ∧
       (1440 ≤ s.part.cal.minute + 1 → t.part.cal.day = s.part.cal.day + 1 ∧ t.part.cal.minute = 0))) ∧
  ∀ s : State, s.part.power = .on → ∃ u t : State, execAll leftovers s = .next u ∧ exec .secondsStep s = .next t ∧
    (Steady s.part → NothingDue s.part → u = s) ∧ t.pending = u.pending ∧ t.part.free = u.part.free ∧
    t.part.cal.cls = u.part.cal.cls ∧ (t.part.cal.clockSet = false → t.part.cal.boundaryDue = false) ∧
    (∀ p : Fin 32, t.part.tab.t14[p] =
      if assigned u.part.tab p = true ∧ (u.part.plant.pump p).feedback = .running ∧
        u.part.tab.t14[p] ≠ 4294967295#32 then u.part.tab.t14[p] + 1 else u.part.tab.t14[p]) ∧
    t.part.tab = { u.part.tab with t14 := t.part.tab.t14 } ∧ t.part.plant = u.part.plant ∧
    t.part.line = u.part.line ∧ t.part.mgmt = u.part.mgmt ∧
    ∀ r : Fin 10, t.part.levels[r] = { u.part.levels[r] with
      staleDue := u.part.tab.t1[r].enabled && u.part.tab.t1[r].kind == .metered &&
        (u.part.levels[r].state != .unknown && u.part.levels[r].state != .stale) &&
        decide (u.part.tab.t1[r].stale ≤ age (u.part.cal.uptime + 1) u.part.levels[r].lastGood) }

/-- MINUTE_BOUNDARY: the held class becomes the class of the tables and the clock; where it changed, every enabled
stage is evaluated with cause CLASS_CHANGE, and where it did not, nothing is handed on (R27). The current class:
NORMAL while the clock is unset; otherwise the class of the used window of the day's type with the greatest start
minute not above the minute, and NORMAL where there is none (R26). -/
def Obligations.ClassFollowsClock : Prop :=
  (∀ s : State, Steady s.part → s.part.cal.boundaryDue = true →
     ∃ t : State, exec .minuteBoundary s = .next t ∧ t.pending = s.pending ∧
       t.part.cal = { s.part.cal with cls := classAt s.part.tab s.part.cal, boundaryDue := false } ∧
       t.part.tab = s.part.tab ∧ t.part.levels = s.part.levels ∧ t.part.line = s.part.line ∧
       t.part.mgmt = s.part.mgmt ∧
       (classAt s.part.tab s.part.cal = s.part.cal.cls → t.part.plant = s.part.plant) ∧
       (classAt s.part.tab s.part.cal ≠ s.part.cal.cls → t.part.plant =
         settle { s.part.view with cls := classAt s.part.tab s.part.cal }
           (evaluateAll { s.part.view with cls := classAt s.part.tab s.part.cal } .classChange s.part.plant))) ∧
  ∀ (tab : Settings) (c : Calendar),
    (c.clockSet = false → classAt tab c = .normal) ∧
    (c.clockSet = true →
      (∀ i : Fin 24, tab.t5[i].used = true → tab.t5[i].dayType = tab.t6[c.day] → tab.t5[i].start ≤ c.minute →
        (∀ j : Fin 24, j ≠ i → tab.t5[j].used = true → tab.t5[j].dayType = tab.t6[c.day] →
          tab.t5[j].start ≤ c.minute → tab.t5[j].start < tab.t5[i].start) →
        classAt tab c = tab.t5[i].cls) ∧
      ((∀ i : Fin 24, tab.t5[i].used = true → tab.t5[i].dayType = tab.t6[c.day] →
        c.minute < tab.t5[i].start) → classAt tab c = .normal))

/-- STALE_ENTRY of a reservoir that the last step found at its stale time: the reservoir becomes STALE with rate 0,
its level, last good uptime and sample kept; LEVEL_STALE is raised, and the stages that use the reservoir are
evaluated with a state change, whatever stale time has been written since the step (R9, R10, R15, R17). The mark
that the step leaves, and that the event is raised before the notification, are the model's own: log 9, 47. -/
def Obligations.StaleEntryStopsRate : Prop :=
  ∀ (r : Fin 10) (s : State), Steady s.part → s.part.levels[r].staleDue = true →
    s.part.tab.t1[r].enabled = true → s.part.tab.t1[r].kind = .metered →
    s.part.levels[r].state ≠ .unknown → s.part.levels[r].state ≠ .stale →
    ∃ t : State, exec (.staleEntry r) s = .next t ∧ t.pending = s.pending ∧
      t.part.levels[r] = { s.part.levels[r] with state := .stale, rate := 0, staleDue := false } ∧
      (∀ r' : Fin 10, r' ≠ r → t.part.levels[r'] = s.part.levels[r']) ∧
      t.part.plant = settle t.part.view (notify t.part.view r true (s.part.plant.raise .levelStale)) ∧
      t.part.tab = s.part.tab ∧ t.part.cal = s.part.cal ∧ t.part.line = s.part.line ∧
      t.part.mgmt = s.part.mgmt

/-- START_HISTORY_AGEING: every start of the stage's pumps that has reached the age of 3600 seconds leaves its
history, and the stage is reconciled once where a pump thereby ceases to be start-limited (R73, R74). -/
def Obligations.AgedStartsLeave : Prop :=
  ∀ (k : Fin 8) (s : State), s.part.power = .on →
    ∃ y : Plant, OnlyPumps s.part.plant y ∧
      (∀ p : Fin 32, y.pump p =
        if stageOf p = k then
          { s.part.plant.pump p with
            history := (s.part.plant.pump p).history.filter fun u => decide (age s.part.cal.uptime u < 3600) }
        else s.part.plant.pump p) ∧
      exec (.startHistoryAgeing k) s = .next (s.ending
        (if (∃ p : Fin 32, stageOf p = k ∧ assigned s.part.tab p = true ∧
            s.part.tab.t3[p].startsPerHour ≤ (s.part.plant.pump p).history.length ∧
            (y.pump p).history.length < s.part.tab.t3[p].startsPerHour)
          then reconcile s.part.view k y else y))

/-- MIN_RUN_EXPIRY sets min run met and reconciles the stage of a RUNNING pump; MIN_REST_EXPIRY takes a RESTING pump
to OFF, its committed change handed on, and reconciles its stage (R60, R65, R68). RETRY_TIMER_EXPIRY: with the trip
indication clear a TRIPPED pump leaves by the rest test, and otherwise it stays with the timer idle. PROVING_EXPIRY
sets the retry count to 0 and changes nothing else (R115, R116). -/
def Obligations.PumpTimersExpire : Prop :=
  (∀ (p : Fin 32) (s : State), s.part.power = .on →
     (due s.part.cal.uptime (s.part.plant.pump p).minRunT = true →
       ∃ y : Plant, y = s.part.plant.setPump p { s.part.plant.pump p with minRunT := none, minRunMet := true } ∧
         exec (.minRunExpiry p) s = .next (s.ending
           (if (s.part.plant.pump p).state = .running then reconcile s.part.view (stageOf p) y else y))) ∧
     (due s.part.cal.uptime (s.part.plant.pump p).minRestT = true → (s.part.plant.pump p).state = .resting →
       ∃ y : Plant, y = s.part.plant.setPump p { s.part.plant.pump p with
           state := .off, minRestT := none, retryT := none, provingT := none } ∧
         exec (.minRestExpiry p) s = .next (s.ending
           (finishPump s.part.view p (handCommitted s.part.tab p y))))) ∧
  ∀ (p : Fin 32) (s : State), s.part.power = .on →
    (due s.part.cal.uptime (s.part.plant.pump p).retryT = true → (s.part.plant.pump p).state = .tripped →
      ∃ y : Plant, y = s.part.plant.setPump p { s.part.plant.pump p with retryT := none } ∧
        exec (.retryTimerExpiry p) s = .next (s.ending
          (if (s.part.plant.pump p).tripInd = false
            then finishPump s.part.view p (restTest s.part.view p y) else y))) ∧
    (due s.part.cal.uptime (s.part.plant.pump p).provingT = true → Steady s.part →
      ∃ t : State, exec (.provingExpiry p) s = .next t ∧ t.pending = s.pending ∧
        t.part.plant = s.part.plant.setPump p { s.part.plant.pump p with provingT := none, retries := 0 } ∧
        OnlyPlant s.part t.part)

/-- START_CONFIRM_EXPIRY clears the RUN and takes a NO_FEEDBACK trip, for which a STOP is first made pending unless
the pump is local-selected or OUT_OF_SERVICE. STOP_CONFIRM_EXPIRY clears the STOP: with running feedback a STOPPING
pump becomes STOP_FAILED, and otherwise goes by the rest test; a TRIPPED or LOCKED_OUT pump keeps its state;
STOP_FAIL is raised where the feedback is RUNNING (R72, R113, R118). -/
def Obligations.ConfirmTimersExpire : Prop :=
  ∀ (p : Fin 32) (s : State), s.part.power = .on →
    (due s.part.cal.uptime (s.part.plant.pump p).startT = true →
      ∃ y : Plant, OnlyPumps s.part.plant y ∧ OnlyPump p s.part.plant y ∧
        y.pump p = { s.part.plant.pump p with
          startT := none, stopT := none
          cmd := if (s.part.plant.pump p).owner ≠ .outOfService ∧ (s.part.plant.pump p).localSel = false
            then some ⟨.stop, .awaiting, s.part.plant.nextId⟩ else none } ∧
        exec (.startConfirmExpiry p) s = .next (s.ending
          (finishPump s.part.view p (takeTrip s.part.view p .noFeedback y)))) ∧
    (due s.part.cal.uptime (s.part.plant.pump p).stopT = true →
      ∃ y : Plant, y = s.part.plant.setPump p
          { s.part.plant.pump p with cmd := none, startT := none, stopT := none } ∧
        exec (.stopConfirmExpiry p) s = .next (s.ending
          (if (s.part.plant.pump p).state = .stopping then
            finishPump s.part.view p
              (if (s.part.plant.pump p).feedback = .running then
                (handCommitted s.part.tab p (y.setPump p ((y.pump p).goto .stopFailed))).raise .stopFail
              else restTest s.part.view p y)
          else if ((s.part.plant.pump p).state = .tripped ∨ (s.part.plant.pump p).state = .lockedOut) ∧
            (s.part.plant.pump p).feedback = .running then y.raise .stopFail
          else y)))

/-- STOP_SPACING_EXPIRY makes the timer idle and reconciles the stage. FEEDER_SPACING_EXPIRY makes the timer idle;
where the holder had left STARTING the slot becomes FREE and a scan of the feeder follows, and otherwise the slot is
kept (R86, R103). A pump that leaves STARTING: where it holds a BUSY slot that it has not left, the slot becomes
FREE with holder 0, and a scan of the feeder follows, if its spacing timer is idle, and otherwise is marked as left
by its holder; the slot of a feeder that the pump does not hold is kept, and nothing else changes (R103). -/
def Obligations.SpacingTimersExpire : Prop :=
  (∀ (k : Fin 8) (s : State), s.part.power = .on →
    due s.part.cal.uptime (s.part.plant.stage k).spacingT = true →
    exec (.stopSpacingExpiry k) s = .next (s.ending (reconcile s.part.view k
      (s.part.plant.setStage k { s.part.plant.stage k with spacingT := none })))) ∧
  (∀ (f : Feeder) (s : State), s.part.power = .on →
    due s.part.cal.uptime (s.part.plant.feeder f).spacingT = true →
    exec (.feederSpacingExpiry f) s = .next (s.ending (s.part.plant.setFeeder f
      (if (s.part.plant.feeder f).busy = true ∧ (s.part.plant.feeder f).released = true then
        { s.part.plant.feeder f with
          spacingT := none, busy := false, holder := 0, released := false, scanDue := true }
      else { s.part.plant.feeder f with spacingT := none })))) ∧
  ∀ (p : Fin 32) (x y : Plant), y = leaveStarting p x → y = { x with feedA := y.feedA, feedB := y.feedB } ∧
    ∀ (f : Feeder) (l : FeederLive), l = x.feeder f → y.feeder f =
      if l.busy = true ∧ l.holder = p ∧ l.released = false then
        if l.spacingT = none then { l with busy := false, holder := 0, released := false, scanDue := true }
        else { l with released := true }
      else l

/-- UPLINE_QUIET_EXPIRY: UPLINE_LOST is raised, the upline lost condition is set, and each assigned MANUAL pump with
its fallback flag set becomes AUTO; no command is cleared, and each stage concerned is reconciled once (R137, R159).
That these reconciliations write the flags and the advice in ADVISORY, as R78 says, is read against R159: log 46. -/
def Obligations.UplineQuietExpires : Prop :=
  ∀ s : State, s.part.power = .on → due s.part.cal.uptime s.part.line.quietT = true →
    ∃ (y : Plant) (falls : Fin 32 → Bool),
      (∀ p : Fin 32, falls p = true ↔ assigned s.part.tab p = true ∧ (s.part.plant.pump p).owner = .manual ∧
        s.part.tab.t3[p].fallback = true) ∧
      (∀ p : Fin 32, y.pump p =
        if falls p = true then { s.part.plant.pump p with owner := .auto } else s.part.plant.pump p) ∧
      OnlyPumps (s.part.plant.raise .uplineLost) y ∧
      exec .uplineQuietExpiry s = .next (s.endingAt { s.part with
        line := { s.part.line with quietT := none, uplineLost := true }
        plant := reconcileAll s.part.view
          (stageList.filter fun k => slots.any fun p => stageOf p == k && falls p) y })

/-- SETTLE_EXPIRY in SETTLING mode: the consistency checks are made and their outcome is kept; where they pass the
mode becomes ACTIVE, with every enabled stage evaluated with cause MODE_ENTRY, and otherwise PASSIVE (R169). That a
part in COMMISSIONING mode fails then as check 5, with index 0, after the checks before it in their order, is the
model's reading: log 37. -/
def Obligations.SettleTimerExpires : Prop :=
  ∀ s : State, Steady s.part → s.part.mgmt.mode = .settling →
    due s.part.cal.uptime s.part.mgmt.settleT = true →
    ∃ (t : State) (c : ModeCheck), exec .settleExpiry s = .next t ∧ t.pending = s.pending ∧
      c = (if modeCheck s.part.tab = .passed ∧ s.part.mgmt.addrMode = .commissioning then .inconsistent 5 0
        else modeCheck s.part.tab) ∧
      t.part.mgmt = { s.part.mgmt with
        settleT := none, lastCheck := c, mode := if c = .passed then .active else .passive } ∧
      t.part.tab = s.part.tab ∧ t.part.cal = s.part.cal ∧ t.part.levels = s.part.levels ∧
      t.part.line = s.part.line ∧
      (c ≠ .passed → t.part.plant = updateStages .passive s.part.plant) ∧
      (c = .passed → t.part.plant = settle { s.part.view with mode := .active }
        (evaluateAll { s.part.view with mode := .active } .modeEntry (updateStages .active s.part.plant)))

/-! ### The Reservoir Monitor -/

/-- The state that a good level gives: by the bare thresholds where the state was UNKNOWN or STALE, and otherwise by
the table with hysteresis (R7, R8). -/
def Obligations.LevelStates : Prop :=
  ∀ (e : ResEntry) (rec : ResLive) (l : Nat), e.la < e.ha →
    (rec.state = .unknown ∨ rec.state = .stale ∨ rec.state = .normal →
      (l ≤ e.la → arrivalState e rec l = .lowAlarm) ∧ (e.ha ≤ l → arrivalState e rec l = .highAlarm) ∧
      (e.la < l ∧ l < e.ha → arrivalState e rec l = .normal)) ∧
    (rec.state = .lowAlarm →
      (e.ha ≤ l → arrivalState e rec l = .highAlarm) ∧
      (e.la + e.ah ≤ l ∧ l < e.ha ∧ e.la < l → arrivalState e rec l = .normal) ∧
      (l < e.la + e.ah ∧ l < e.ha ∨ l ≤ e.la → arrivalState e rec l = .lowAlarm)) ∧
    (rec.state = .highAlarm →
      (l ≤ e.la → arrivalState e rec l = .lowAlarm) ∧
      (e.la < l ∧ l + e.ah ≤ e.ha ∧ l < e.ha → arrivalState e rec l = .normal) ∧
      (e.ha < l + e.ah ∧ e.la < l ∨ e.ha ≤ l → arrivalState e rec l = .highAlarm))

/-- A good level for an enabled METERED reservoir: its record takes the level, the uptime, the state, and the rate
by the three cases of the rate sample (R6, R11); an escalation, an event and the notification are handed on (R15,
R16, R17). The escalation comes before the notification (R16). That the event is raised between the two is the
model's own order: log 47. -/
def Obligations.LevelArrivalTaken : Prop :=
  ∀ (r : Fin 10) (l : Nat) (s : Part) (e : ResEntry) (old rec : ResLive), e = s.tab.t1[r] → old = s.levels[r] →
    e.enabled = true → e.kind = .metered → rec = (levelArrival r l s).levels[r] →
    rec.level = l ∧ rec.lastGood = s.cal.uptime ∧ rec.state = arrivalState e old l ∧
    (old.state = .unknown ∨ old.state = .stale →
      rec.rate = 0 ∧ rec.sampleLevel = l ∧ rec.sampleTime = s.cal.uptime) ∧
    (old.state ≠ .unknown → old.state ≠ .stale → e.rateInterval ≤ age s.cal.uptime old.sampleTime →
      rec.rate = max (-500) (min 500
        ((((old.sampleLevel : Int) - l) * 60).tdiv (age s.cal.uptime old.sampleTime))) ∧
      rec.sampleLevel = l ∧ rec.sampleTime = s.cal.uptime) ∧
    (old.state ≠ .unknown → old.state ≠ .stale → age s.cal.uptime old.sampleTime < e.rateInterval →
      rec.rate = old.rate ∧ rec.sampleLevel = old.sampleLevel ∧ rec.sampleTime = old.sampleTime) ∧
    (∀ r' : Fin 10, r' ≠ r → (levelArrival r l s).levels[r'] = s.levels[r']) ∧
    ∃ y z : Plant,
      y = (if rec.state = .lowAlarm ∧ old.state ≠ .lowAlarm then escalate s.view r s.plant else s.plant) ∧
      z = (if rec.state ≠ old.state ∧ (rec.state = .lowAlarm ∨ rec.state = .highAlarm)
        then y.raise .levelAlarm else y) ∧
      (levelArrival r l s).plant = notify (levelArrival r l s).view r (rec.state != old.state) z ∧
      OnlyPlant { s with levels := s.levels.set r rec } (levelArrival r l s)

/-! ### The Demand Unit -/

/-- The effective band of an entry in the order that R2 asks: base targets in NORMAL, raised by CR in CHEAP and
lowered by PD in PEAK as far as the clamps allow, and always LA < TL < TH < HA (R37). The band demand D0: 1000 at or
below TL, 0 at or above TH, and between them (TH - L) * 1000 / (TH - TL), truncated, which lies within 0..999 (R38).
The trend demand D1: inside the band D0 + Kr * r clamped into 0..1000, and D0 at and outside its edges (R39). The
tariff demand D2: 1000 where the delivery reservoir is in LOW_ALARM, D1 * PF / 1000 truncated in PEAK, and D1
otherwise (R40). -/
def Obligations.DemandSteps : Prop :=
  (∀ e : ResEntry, e.la < e.tlb → e.tlb < e.thb → e.thb < e.ha →
     (∀ c : TariffClass, (e.la : Int) < bandLow e c ∧ bandLow e c < bandHigh e c ∧ bandHigh e c < e.ha) ∧
     bandHigh e .normal = e.thb ∧ bandLow e .normal = e.tlb ∧
     bandHigh e .cheap = min ((e.thb : Int) + e.cr) (e.ha - 1) ∧
     bandLow e .cheap = min ((e.tlb : Int) + e.cr) (bandHigh e .cheap - 1) ∧
     bandHigh e .peak = max ((e.thb : Int) - e.pd) (e.la + 2) ∧
     bandLow e .peak = max ((e.tlb : Int) - e.pd) (e.la + 1)) ∧
  (∀ tl th l : Nat, tl < th →
     (l ≤ tl → bandDemand tl th l = 1000) ∧ (th ≤ l → bandDemand tl th l = 0) ∧
     (tl < l → l < th → bandDemand tl th l = (th - l) * 1000 / (th - tl) ∧ bandDemand tl th l ≤ 999)) ∧
  (∀ (tl th l : Int) (d0 kr : Nat) (r : Int),
     (tl < l → l < th →
       (trendDemand tl th l d0 kr r : Int) = max 0 (min 1000 ((d0 : Int) + (kr : Int) * r))) ∧
     (l ≤ tl ∨ th ≤ l → trendDemand tl th l d0 kr r = d0)) ∧
  ∀ (low : Bool) (c : TariffClass) (d1 pf : Nat),
    (low = true → tariffDemand low c d1 pf = 1000) ∧
    (low = false → c = .peak → tariffDemand low c d1 pf = d1 * pf / 1000) ∧
    (low = false → c ≠ .peak → tariffDemand low c d1 pf = d1)

/-- The suction cap and the dry-run condition, by the first row that applies (R41). -/
def Obligations.SuctionCap : Prop :=
  ∀ (e : ResEntry) (l : ResLive) (sb : Nat),
    (e.enabled = true → e.kind = .unmetered → suctionCap e l sb = 1000 ∧ dryCondition e l = false) ∧
    (¬(e.enabled = true ∧ e.kind = .unmetered) →
      (l.state = .lowAlarm ∨ l.state = .stale ∨ l.state = .unknown →
        suctionCap e l sb = 0 ∧ dryCondition e l = true) ∧
      (l.state = .normal ∨ l.state = .highAlarm → dryCondition e l = false ∧
        (sb = 0 ∨ e.la + sb ≤ l.level → suctionCap e l sb = 1000) ∧
        (sb ≠ 0 → l.level < e.la + sb → suctionCap e l sb = (l.level - e.la) * 1000 / sb ∧
          suctionCap e l sb ≤ 999)))

/-- The demand thresholds, and that T_on exceeds T_off at every k, T_on is at most 1000 and T_off(1) is 0 (R43). W
by the demand thresholds: raised to the greatest count that D3 reaches step by step; where it is not raised, lowered
to the least; then limited to max running. Where D3 lies strictly between T_off(W) and T_on(W + 1), W keeps its
value (R44). -/
def Obligations.WantedCountStepped : Prop :=
  (∀ n hb k : Nat, 1 ≤ n → n ≤ 4 → 1 ≤ hb → hb ≤ 250 → 1 ≤ k → k ≤ n →
     tOn n hb k = (k - 1) * 1000 / n + hb ∧ (tOff n hb k : Int) = max 0 ((((k - 1) * 1000 / n : Nat) : Int) - hb) ∧
     tOff n hb k < tOn n hb k ∧ tOn n hb k ≤ 1000 ∧ tOff n hb 1 = 0) ∧
  ∀ n hb maxRunning d3 w up down : Nat, w ≤ n →
    w ≤ up → up ≤ n → (∀ k, w < k → k ≤ up → tOn n hb k ≤ d3) → (up < n → d3 < tOn n hb (up + 1)) →
    down ≤ w → (∀ k, down < k → k ≤ w → d3 ≤ tOff n hb k) → (0 < down → tOff n hb down < d3) →
    stepW n hb maxRunning d3 w = min (if w < up then up else down) maxRunning ∧
    ((w < n → d3 < tOn n hb (w + 1)) → (0 < w → tOff n hb w < d3) → stepW n hb maxRunning d3 w = min w maxRunning)

/-- The three paths of an evaluation: without a level everything is 0; a stale level keeps the demand fields and can
only lower W; with a level D3 is the lesser of D2 and the cap, and the override is the first that applies, under
which W is 0 (R36, R42, R45, R46). An evaluation keeps D0, D1, D2 and D3 within 0..1000 and W within 0..max running
(R33). A reservoir notification and an event for every stage take the stages one after another in ascending order,
as is read from the spec: log 13. -/
def Obligations.EvaluationPathsInRange : Prop :=
  (∀ (v : View) (k : Fin 8) (l new : StageLive) (e : StageEntry) (d : ResEntry) (dl : ResLive) (dry : Bool),
     e = v.tab.t2[k] → d = v.tab.t1[e.delivery] → dl = v.levels[e.delivery] →
     dry = dryCondition v.tab.t1[e.suction] v.levels[e.suction] → new = evaluated v k l →
     (d.enabled = false ∨ d.kind = .unmetered ∨ dl.state = .unknown →
       new = { l with d0 := 0, d1 := 0, d2 := 0, d3 := 0, w := 0,
                      override := if dry = true then .dryRun else .noLevel }) ∧
     (d.enabled = true → d.kind = .metered → dl.state = .stale →
       new = if dry = true then { l with d3 := 0, w := 0, override := .dryRun }
         else { l with w := min l.w (min e.staleCount e.maxRunning), override := .staleHold }) ∧
     (d.enabled = true → d.kind = .metered → dl.state ≠ .unknown → dl.state ≠ .stale →
       new.d0 = bandDemand (bandLow d v.cls) (bandHigh d v.cls) dl.level ∧
       new.d1 = trendDemand (bandLow d v.cls) (bandHigh d v.cls) dl.level new.d0 e.kr dl.rate ∧
       new.d2 = tariffDemand (dl.state == .lowAlarm) v.cls new.d1 e.pf ∧
       new.d3 = (if dl.state = .highAlarm then 0
         else min new.d2 (suctionCap v.tab.t1[e.suction] v.levels[e.suction] e.sb)) ∧
       (dry = true → new.override = .dryRun ∧ new.w = 0) ∧
       (dry = false → dl.state = .highAlarm → new.override = .overflow ∧ new.w = 0) ∧
       (dry = false → dl.state ≠ .highAlarm →
         new.override = .none ∧ new.w = stepW e.n e.hb e.maxRunning new.d3 l.w) ∧
       new.advice = l.advice ∧ new.adviceSlot = l.adviceSlot ∧ new.shortfall = l.shortfall ∧
       new.spacingT = l.spacingT)) ∧
  (∀ (v : View) (k : Fin 8) (l : StageLive), v.tab.t2[k].ok → l.ok v.tab.t2[k] →
    (evaluated v k l).ok v.tab.t2[k]) ∧
  ∀ (v : View) (r : Fin 10) (changed : Bool) (c : Cause) (x : Plant),
    evaluateAll v c x = stageList.foldl (evaluate v c) x ∧
    notify v r changed x = stageList.foldl (fun y k =>
      if v.tab.t2[k].delivery = r then evaluate v (if changed = true then .deliveryState else .deliveryLevel) y k
      else if v.tab.t2[k].suction = r then evaluate v (if changed = true then .suctionState else .suctionLevel) y k
      else y) x

/-- An evaluation of an enabled stage writes its record with the cause, raises DRY_RUN_STOP or OVERFLOW_STOP where
that override is entered, and hands the stage on exactly where W or the override changed or the cause is MODE_ENTRY;
a stage that is not enabled is not evaluated (R34, R36, R48, R49). A reservoir notification evaluates every enabled
stage with the reservoir as delivery, with cause DELIVERY_LEVEL or, with a state change, DELIVERY_STATE, and every
enabled stage with it as suction, with SUCTION_LEVEL or SUCTION_STATE; an event for every stage evaluates every
enabled stage with its cause; the record of each evaluated stage is the evaluation of the record it had, and no
other stage and none of its pumps changes (R15, R35). The order of the stages is in EvaluationPathsInRange. -/
def Obligations.EvaluationTaken : Prop :=
  (∀ (v : View) (c : Cause) (k : Fin 8) (x : Plant),
    (v.tab.t2[k].enabled = false → evaluate v c x k = x) ∧
    (v.tab.t2[k].enabled = true → ∀ (new : StageLive) (y z : Plant),
      new = { evaluated v k (x.stage k) with cause := c } → y = x.setStage k new →
      z = (if new.override = .dryRun ∧ (x.stage k).override ≠ .dryRun then y.raise .dryRunStop
        else if new.override = .overflow ∧ (x.stage k).override ≠ .overflow then y.raise .overflowStop else y) →
      evaluate v c x k =
        if new.w = (x.stage k).w ∧ new.override = (x.stage k).override ∧ c ≠ .modeEntry then z
        else reconcile v k z)) ∧
  ∀ (v : View) (x y : Plant) (cause : Fin 8 → Option Cause),
    ((∃ (r : Fin 10) (changed : Bool), y = notify v r changed x ∧ ∀ k : Fin 8, cause k =
        if v.tab.t2[k].delivery = r then some (if changed = true then .deliveryState else .deliveryLevel)
        else if v.tab.t2[k].suction = r then some (if changed = true then .suctionState else .suctionLevel)
        else none) ∨
      ∃ c : Cause, y = evaluateAll v c x ∧ ∀ k : Fin 8, cause k = some c) →
    ∀ k : Fin 8,
      (v.tab.t2[k].enabled = false ∨ cause k = none →
        y.stage k = x.stage k ∧ ∀ p : Fin 32, stageOf p = k → y.pump p = x.pump p) ∧
      ∀ c : Cause, v.tab.t2[k].enabled = true → cause k = some c →
        ∃ (a : Advice) (n : Nat) (b : Bool) (u : Timer), y.stage k = { evaluated v k (x.stage k) with
          cause := c, advice := a, adviceSlot := n, shortfall := b, spacingT := u }

/-! ### The Pump Sequencer and the Fault Supervisor -/

/-- The rest test: STOPPING with a STOP held; an uncommanded run with running feedback; RESTING while the age of the
recorded stop is below min rest, until the uptime of stop plus min rest; and OFF otherwise (R65). -/
def Obligations.RestTestOutcome : Prop :=
  ∀ (v : View) (p : Fin 32) (x : Plant), v.tab.t3[p].ok → OnlyPump p x (restTest v p x) ∧
    ((x.pump p).holds .stop = true ∨ (x.pump p).feedback ≠ .running → (restTest v p x).queue = x.queue ∧
      (restTest v p x).events = x.events ∧ SlotsFrom x (restTest v p x)) ∧
    ((x.pump p).holds .stop = true → ((restTest v p x).pump p).state = .stopping ∧
      ((restTest v p x).pump p).cmd = (x.pump p).cmd ∧ ((restTest v p x).pump p).stopT = (x.pump p).stopT) ∧
    ((x.pump p).holds .stop = false → (x.pump p).feedback = .running → restTest v p x = uncommandedRun v p x) ∧
    ((x.pump p).holds .stop = false → (x.pump p).feedback ≠ .running → (x.pump p).stopRecorded = true →
      age v.now (x.pump p).stopAt < v.tab.t3[p].minRest →
      ((restTest v p x).pump p).state = .resting ∧
      ((restTest v p x).pump p).minRestT = some ((x.pump p).stopAt + BitVec.ofNat 32 v.tab.t3[p].minRest)) ∧
    ((x.pump p).holds .stop = false → (x.pump p).feedback ≠ .running →
      ((x.pump p).stopRecorded = false ∨ v.tab.t3[p].minRest ≤ age v.now (x.pump p).stopAt) →
      ((restTest v p x).pump p).state = .off ∧ ((restTest v p x).pump p).minRestT = none)

/-- Running feedback: adoption from UNSEEN, at which a standing trip indication is taken as a STARTER_TRIP, an
uncommanded run from OFF, RESTING and QUEUED, the confirmed start, and no change of state from the others, an
UNCOMMANDED_RUN being raised for a TRIPPED or LOCKED_OUT pump whose last feedback was not RUNNING (R62, R63, R64,
R73, R113). The request of a QUEUED pump leaves the queue, a STARTING pump leaves its start slot, and otherwise
queue and slots are kept (R103, R106). That the uncommanded flag of a TRIPPED or LOCKED_OUT pump is set at every
running report, also where no event is raised, is read from R64: log 16. -/
def Obligations.RunningFeedback : Prop :=
  ∀ (v : View) (p : Fin 32) (x : Plant) (q r : Pump), q = x.pump p → r = (feedbackRunning v p x).pump p →
    OnlyPump p x (feedbackRunning v p x) ∧ r.feedback = .running ∧
    (q.state ≠ .unseen ∨ q.tripInd = false →
      (feedbackRunning v p x).queue = (if q.state = .queued then removeRequest p x.queue else x.queue) ∧
      SlotsFrom (if q.state = .queued then dequeue p x else if q.state = .starting then leaveStarting p x else x)
        (feedbackRunning v p x)) ∧
    (q.state = .unseen → q.tripInd = false → r.state = .running ∧ r.minRunMet = true ∧ r.runStart = v.now ∧
      r.provingT = startTimer v.now v.tab.t3[p].provingTime ∧
      r.history = q.history ∧ (feedbackRunning v p x).events = x.events) ∧
    (q.state = .unseen → q.tripInd = true → ∃ y : Plant, y.pump p = { q with
        state := .running, feedback := .running, minRunMet := true, runStart := v.now, minRestT := none
        retryT := none, provingT := startTimer v.now v.tab.t3[p].provingTime } ∧
      OnlyPump p x y ∧ y.events = x.events ∧ y.queue = x.queue ∧ SlotsFrom x y ∧
      feedbackRunning v p x = takeTrip v p .starterTrip y) ∧
    (q.state = .off ∨ q.state = .resting ∨ q.state = .queued → r.state = .running ∧ r.uncommanded = true ∧
      r.minRestT = none ∧ r.runStart = v.now ∧ r.minRunMet = false ∧
      r.minRunT = startTimer v.now v.tab.t3[p].minRun ∧ r.provingT = startTimer v.now v.tab.t3[p].provingTime ∧
      r.history = q.history.drop (q.history.length - 11) ++ [v.now] ∧
      (feedbackRunning v p x).events = x.events.raise .uncommandedRun) ∧
    (q.state = .starting → r.state = .running ∧ r.cmd = none ∧ r.startT = none ∧ r.runStart = v.now ∧
      r.minRunMet = false ∧ r.minRunT = startTimer v.now v.tab.t3[p].minRun ∧
      r.provingT = startTimer v.now v.tab.t3[p].provingTime ∧
      r.history = q.history.drop (q.history.length - 11) ++ [v.now] ∧ r.uncommanded = q.uncommanded ∧
      (feedbackRunning v p x).events = x.events) ∧
    (q.state = .running ∨ q.state = .stopping ∨ q.state = .stopFailed → r = { q with feedback := .running } ∧
      (feedbackRunning v p x).events = x.events) ∧
    (q.state = .tripped ∨ q.state = .lockedOut → r = { q with feedback := .running, uncommanded := true } ∧
      (feedbackRunning v p x).events =
        if q.feedback = .running then x.events else x.events.raise .uncommandedRun)

/-- Stopped feedback clears the uncommanded flag in every state. It takes an UNSEEN pump to OFF, where a standing
trip indication is then taken as a STARTER_TRIP, trips a running pump that the part or an operator upline runs
(LOST_RUN), and otherwise sends a RUNNING, STOPPING or STOP_FAILED pump by the rest test; other states are kept
(R62, R63, R64, R65, R113). That the stop of a RUNNING, STOPPING or STOP_FAILED pump is recorded whatever the last
feedback was is read from R63 and R64 against R65: log 15. -/
def Obligations.StoppedFeedback : Prop :=
  ∀ (v : View) (p : Fin 32) (x : Plant) (q r : Pump), q = x.pump p → r = (feedbackStopped v p x).pump p →
    OnlyPump p x (feedbackStopped v p x) ∧ r.feedback = .stopped ∧ r.uncommanded = false ∧
    (q.state ≠ .running → q.state ≠ .unseen ∨ q.tripInd = false →
      (feedbackStopped v p x).queue = x.queue ∧ (feedbackStopped v p x).events = x.events ∧
      SlotsFrom x (feedbackStopped v p x)) ∧
    (q.state = .unseen → q.tripInd = false → r.state = .off) ∧
    (q.state = .unseen → q.tripInd = true → ∃ y : Plant, y.pump p = { q with
        state := .off, feedback := .stopped, uncommanded := false, minRestT := none, retryT := none
        provingT := none } ∧ OnlyPump p x y ∧ y.events = x.events ∧ y.queue = x.queue ∧ SlotsFrom x y ∧
      feedbackStopped v p x = takeTrip v p .starterTrip y) ∧
    (q.state = .off ∨ q.state = .resting ∨ q.state = .queued ∨ q.state = .starting →
      r = { q with feedback := .stopped, uncommanded := false }) ∧
    (q.state = .running → r.stopAt = v.now ∧ r.stopRecorded = true ∧
      (q.owner = .outOfService ∨ q.localSel = true → ∃ y : Plant, y.pump p = { q with
          feedback := .stopped, uncommanded := false, stopAt := v.now, stopRecorded := true } ∧ OnlyPump p x y ∧
        y.events = x.events ∧ y.queue = x.queue ∧ SlotsFrom x y ∧ feedbackStopped v p x = restTest v p y) ∧
      (q.owner ≠ .outOfService → q.localSel = false → ∃ y : Plant, y.pump p = { q with
          feedback := .stopped, uncommanded := false, stopAt := v.now, stopRecorded := true } ∧ OnlyPump p x y ∧
        y.events = x.events ∧ y.queue = x.queue ∧ SlotsFrom x y ∧ feedbackStopped v p x = takeTrip v p .lostRun y)) ∧
    (q.state = .stopping → r.stopAt = v.now ∧ r.stopRecorded = true ∧ r.cmd = none ∧ r.stopT = none ∧
      (r.state = .resting ∨ r.state = .off)) ∧
    (q.state = .stopFailed → q.holds .stop = false → r.stopAt = v.now ∧ r.stopRecorded = true ∧
      (r.state = .resting ∨ r.state = .off)) ∧
    (q.state = .stopFailed → q.holds .stop = true → r.stopAt = v.now ∧ r.stopRecorded = true ∧
      r.state = .stopping ∧ r.cmd = q.cmd ∧ r.stopT = q.stopT) ∧
    (q.state = .tripped ∨ q.state = .lockedOut → r.state = q.state ∧
      (q.feedback = .running → r.stopAt = v.now ∧ r.stopRecorded = true) ∧
      (q.feedback ≠ .running → r.stopAt = q.stopAt ∧ r.stopRecorded = q.stopRecorded) ∧
      (q.holds .stop = true → r.cmd = none ∧ r.stopT = none))

/-- A trip: in TRIPPED, LOCKED_OUT and UNSEEN the cause alone is set; in any other state a RUN held is cleared and a
STOP kept, and the pump goes to LOCKED_OUT where its retries are used up, with PUMP_LOCKOUT, and otherwise to
TRIPPED with one retry more and the retry timer started, with PUMP_TRIP; the request of a QUEUED pump leaves the
queue, and a pump that holds a start slot leaves it (R103, R106, R114). -/
def Obligations.TripTaken : Prop :=
  ∀ (v : View) (p : Fin 32) (c : TripCause) (x : Plant) (q r : Pump),
    q = x.pump p → r = (takeTrip v p c x).pump p →
    OnlyPump p x (takeTrip v p c x) ∧ r.cause = c ∧ r.feedback = q.feedback ∧
    (q.state = .tripped ∨ q.state = .lockedOut ∨ q.state = .unseen →
      takeTrip v p c x = x.setPump p { q with cause := c }) ∧
    (q.state ≠ .tripped → q.state ≠ .lockedOut → q.state ≠ .unseen →
      (takeTrip v p c x).queue = (if q.state = .queued then removeRequest p x.queue else x.queue) ∧
      SlotsFrom (leaveStarting p (if q.state = .queued then dequeue p x else x)) (takeTrip v p c x) ∧
      r.minRestT = none ∧ r.provingT = none ∧
      (q.holds .run = true → r.cmd = none ∧ r.startT = none) ∧
      (q.holds .run = false → r.cmd = q.cmd ∧ r.stopT = q.stopT) ∧
      (v.tab.t3[p].retryLimit ≤ q.retries → r.state = .lockedOut ∧ r.retries = q.retries ∧
        (takeTrip v p c x).events = x.events.raise .pumpLockout) ∧
      (q.retries < v.tab.t3[p].retryLimit → r.state = .tripped ∧ r.retries = q.retries + 1 ∧
        r.retryT = startTimer v.now v.tab.t3[p].retryInterval ∧
        (takeTrip v p c x).events = x.events.raise .pumpTrip))

/-- A reconciliation changes nothing where the stage is not enabled, and in PASSIVE and SETTLING; in every mode it
leaves the pumps and the records of other stages, and of its own stage's record all but the advised fields, the
shortfall flag and the stop spacing timer (R76, R78). Its counts (R79, R88). In ACTIVE, without DRY_RUN: where A
exceeds C, the first eligible pumps in the order of R82 are enqueued, until C equals A or none is left, and the
shortfall flag says whether C stays below A (R82, R83); where it does not, the stage's requests are withdrawn, the
latest entered first, until C equals A or none is left, and while C is still above A one stop is decided if the stop
spacing timer is idle and a candidate exists, the timer being started; with a spacing of 0 its expiry reconciles the
stage again (R84, R85, R86, R88). Under DRY_RUN every pump is treated by the table of R89, and a stop decision
leaves the pump STOPPING with a STOP awaiting (R68). In ADVISORY the shortfall flag and the first decision of ACTIVE
are written and nothing else changes (R78, R83, R90). -/
def Obligations.ReconcileChangesItsStage : Prop :=
  (∀ (v : View) (k : Fin 8) (x : Plant),
     (v.tab.t2[k].enabled = false ∨ v.mode = .passive ∨ v.mode = .settling → reconcile v k x = x) ∧
     (v.tab.t2[k].enabled = true → v.mode = .advisory →
       reconcile v k x = x.reported k
         (if (x.stage k).override = .dryRun then
           (((ownPumps v.tab k).find? fun p => (x.pump p).owner != .outOfService && !(x.pump p).localSel &&
             ((x.pump p).state == .running || ((x.pump p).state == .starting && !(x.pump p).awaits .run))).map
               fun p => (Advice.stop, p.val)).getD (.none, 0)
         else if cCount v k x < aCount v k x then
           ((startChoice v k x).map fun p => (Advice.start, p.val)).getD (.none, 0)
         else if aCount v k x < cCount v k x then
           ((stopChoice v k x).map fun p => (Advice.stop, p.val)).getD (.none, 0)
         else (.none, 0)).1
         (if (x.stage k).override = .dryRun then
           (((ownPumps v.tab k).find? fun p => (x.pump p).owner != .outOfService && !(x.pump p).localSel &&
             ((x.pump p).state == .running || ((x.pump p).state == .starting && !(x.pump p).awaits .run))).map
               Fin.val).getD 0
         else if cCount v k x < aCount v k x then ((startChoice v k x).map Fin.val).getD 0
         else if aCount v k x < cCount v k x then ((stopChoice v k x).map Fin.val).getD 0
         else 0)
         (decide ((x.stage k).override ≠ .dryRun ∧
           cCount v k x + ((ownPumps v.tab k).filter (eligible v x)).length < aCount v k x))) ∧
     (∀ p : Fin 32, stageOf p ≠ k → (reconcile v k x).pump p = x.pump p) ∧
     (∀ k' : Fin 8, k' ≠ k → (reconcile v k x).stage k' = x.stage k') ∧
     ∃ (a : Advice) (n : Nat) (b : Bool) (t : Timer),
       (reconcile v k x).stage k = { x.stage k with advice := a, adviceSlot := n, shortfall := b, spacingT := t }) ∧
  (∀ (v : View) (k : Fin 8) (x : Plant),
     cCount v k x = ((ownPumps v.tab k).filter fun p => (x.pump p).owner == .auto && !(x.pump p).localSel &&
       ((x.pump p).state == .queued || (x.pump p).state == .starting || (x.pump p).state == .running ||
         (x.pump p).state == .stopFailed)).length ∧
     rOther v k x = ((ownPumps v.tab k).filter fun p => ((x.pump p).owner != .auto || (x.pump p).localSel) &&
       ((x.pump p).feedback == .running || (x.pump p).state == .starting)).length ∧
     aCount v k x = if (x.stage k).override = .overflow then 0 else (x.stage k).w - rOther v k x) ∧
  (∀ (v : View) (k : Fin 8) (x : Plant), v.tab.t2[k].enabled = true → v.mode = .active →
     (x.stage k).override ≠ .dryRun → cCount v k x < aCount v k x → ∀ able : List (Fin 32),
     able = (ownPumps v.tab k).filter (eligible v x) →
     ∃ chosen : List (Fin 32), chosen.length = min (aCount v k x - cCount v k x) able.length ∧
       (∀ p ∈ chosen, p ∈ able) ∧ chosen.Pairwise (StartsFirst v x) ∧
       (∀ p ∈ chosen, ∀ p' ∈ able, p' ∉ chosen → StartsFirst v x p p') ∧
       reconcile v k x = (chosen.foldl (fun z p => handCommitted v.tab p (enterRequest v p (z.setPump p
         { z.pump p with state := .queued, minRestT := none, retryT := none, provingT := none }))) x).reported
           k .none 0 (decide (cCount v k x + chosen.length < aCount v k x))) ∧
  (∀ (v : View) (k : Fin 8) (x : Plant), v.tab.t2[k].enabled = true → v.mode = .active →
     (x.stage k).override ≠ .dryRun → aCount v k x ≤ cCount v k x → QueueAgrees x → QueueRanked x →
     ∀ own : List Request, own = x.queue.filter (fun e => stageOf e.pump == k) →
     ∃ (gone : List Request) (y : Plant), gone.length = min (cCount v k x - aCount v k x) own.length ∧
       (∀ e ∈ gone, e ∈ own) ∧ gone.Pairwise (fun e e' => e'.rank < e.rank) ∧
       (∀ e ∈ gone, ∀ e' ∈ own, e' ∉ gone → e'.rank < e.rank) ∧
       y = gone.foldl (fun z e => withdraw v e.pump z) x ∧
       (cCount v k y ≤ aCount v k x ∨ stopChoice v k y = none → reconcile v k x = y.reported k .none 0 false) ∧
       ∀ (p : Fin 32) (z : Plant), aCount v k x < cCount v k y → stopChoice v k y = some p →
         z = stopDecision v p y →
         (v.tab.t2[k].spacing ≠ 0 → reconcile v k x = (z.setStage k { z.stage k with
           spacingT := startTimer v.now v.tab.t2[k].spacing }).reported k .none 0 false) ∧
         (v.tab.t2[k].spacing = 0 → reconcile v k x = reconcile v k (z.reported k .none 0 false))) ∧
  (∀ (v : View) (k : Fin 8) (x : Plant), v.tab.t2[k].enabled = true → v.mode = .active →
     (x.stage k).override = .dryRun → QueueAgrees x → ∃ y : Plant, reconcile v k x = y.reported k .none 0 false ∧
       y.stages = x.stages ∧ y.events = x.events ∧
       ∀ (p : Fin 32) (q : Pump), p ∈ ownPumps v.tab k → q = x.pump p →
         (∀ e ∈ y.queue, e.pump ≠ p) ∧
         (q.state = .queued →
           y.pump p = { q with state := .off, minRestT := none, retryT := none, provingT := none }) ∧
         (q.state = .starting → q.awaits .run = true → y.pump p = { q with
           state := .off, cmd := none, startT := none, stopT := none, minRestT := none, retryT := none
           provingT := none }) ∧
         (q.state = .running ∨ (q.state = .starting ∧ q.awaits .run = false) → q.owner ≠ .outOfService →
           q.localSel = false → ∃ id : Nat, y.pump p = { q with
             state := .stopping, cmd := some ⟨.stop, .awaiting, id⟩, startT := none, stopT := none
             minRestT := none, retryT := none, provingT := none }) ∧
         (q.state ≠ .queued → ¬(q.state = .starting ∧ q.awaits .run = true) →
           ¬(q.state = .running ∨ q.state = .starting) ∨ q.owner = .outOfService ∨ q.localSel = true →
           y.pump p = q)) ∧
  ∀ (v : View) (p : Fin 32) (x : Plant), stopDecision v p x = handCommitted v.tab p (leaveStarting p
    { x.setPump p { x.pump p with
        state := .stopping, cmd := some ⟨.stop, .awaiting, x.nextId⟩, startT := none, stopT := none
        minRestT := none, retryT := none, provingT := none } with nextId := x.nextId + 1 })

/-- The pump chosen for a start is an assigned, eligible pump of the stage that no other eligible pump of it comes
before: not warned before warned, then the lower run seconds, then the lower position (R81, R82). A pump is eligible
where it is AUTO, not local-selected, OFF and not start-limited (R73, R81). The request withdrawn first is the
stage's with the greatest entry rank (R84). The pump chosen for a stop, while the stop spacing timer is idle, is an
AUTO pump, not local-selected, RUNNING and with min run met unless the override is OVERFLOW, that no other such pump
of the stage comes before: warned before not warned, then the greater age of the uptime of run start, then the lower
position (R85, R88). -/
def Obligations.StartSelection : Prop :=
  (∀ (v : View) (k : Fin 8) (x : Plant) (p : Fin 32),
    startChoice v k x = some p ↔
      (stageOf p = k ∧ assigned v.tab p = true ∧ eligible v x p = true) ∧
      ∀ p' : Fin 32, stageOf p' = k → assigned v.tab p' = true → eligible v x p' = true → p' ≠ p →
        StartsFirst v x p p') ∧
  (∀ (v : View) (x : Plant) (p : Fin 32), eligible v x p = true ↔
    (x.pump p).owner = .auto ∧ (x.pump p).localSel = false ∧ (x.pump p).state = .off ∧
      (x.pump p).history.length < v.tab.t3[p].startsPerHour) ∧
  (∀ (k : Fin 8) (q : List Request) (e : Request), (q.map Request.rank).Nodup →
    (latestRequest k q = some e ↔ e ∈ q ∧ stageOf e.pump = k ∧
      ∀ e' ∈ q, stageOf e'.pump = k → e' ≠ e → e'.rank < e.rank)) ∧
  ∀ (v : View) (k : Fin 8) (x : Plant) (p : Fin 32) (able : Fin 32 → Prop),
    (∀ p' : Fin 32, able p' ↔ stageOf p' = k ∧ assigned v.tab p' = true ∧ (x.pump p').owner = .auto ∧
      (x.pump p').localSel = false ∧ (x.pump p').state = .running ∧
      ((x.pump p').minRunMet = true ∨ (x.stage k).override = .overflow)) →
    (stopChoice v k x = some p ↔ (x.stage k).spacingT = none ∧ able p ∧
      ∀ p' : Fin 32, able p' → p' ≠ p → StopsFirst v x p p')

/-! ### The Start Arbiter -/

/-- A request that enters the queue, an escalation, a removal and a re-sort each leave the queue in the order of the
class ranks; a re-sort keeps every request, and requests of one class in their order (R97, R98, R99). The class
ranks of the six codes (R98). A request enters with the class of the first row of R97 that applies, no bypass, not
blocking, the pump's feeder and the last entry rank, behind every request whose class ranks equal to or above its
own and before every other (R97). A request that leaves lowers by 1 every entry rank above its own and keeps the
order of the rest (R96, R106). An escalation makes RECOVER the requests, not RECOVER yet, of the enabled stages that
the reservoir is the delivery of, and sets them in their order behind every request whose class ranks equal to or
above RECOVER and before every other (R99). Each asks for a scan of the feeder of every request it enters, removes
or reclasses (R100). -/
def Obligations.QueueStaysSorted : Prop :=
  (∀ (v : View) (p : Fin 32) (x : Plant), QueueSorted v.tab x →
    QueueSorted v.tab (enterRequest v p x) ∧ QueueSorted v.tab (dequeue p x)) ∧
  (∀ (v : View) (r : Fin 10) (x : Plant), QueueSorted v.tab x → QueueSorted v.tab (escalate v r x)) ∧
  (∀ (code : Nat) (q : List Request),
    ((resort code q).Pairwise fun a b => classRank code a.cls ≤ classRank code b.cls) ∧
    ∀ c : ReqClass, ((resort code q).filter fun e => e.cls == c) = q.filter fun e => e.cls == c) ∧
  (∀ row ∈ [(1, ReqClass.recover, ReqClass.normal, ReqClass.precharge), (2, .recover, .precharge, .normal),
      (3, .normal, .recover, .precharge), (4, .normal, .precharge, .recover), (5, .precharge, .recover, .normal),
      (6, .precharge, .normal, .recover)],
    classRank row.1 row.2.1 = 0 ∧ classRank row.1 row.2.2.1 = 1 ∧ classRank row.1 row.2.2.2 = 2) ∧
  (∀ (v : View) (p : Fin 32) (x : Plant) (d : Fin 10) (new : Request), QueueSorted v.tab x →
    d = v.tab.t2[stageOf p].delivery →
    new = { pump := p, feeder := v.tab.t3[p].feeder, bypass := 0, blocking := false, rank := x.queue.length + 1
            cls := if v.levels[d].state = .lowAlarm then .recover
              else if v.cls = .cheap ∧ (v.levels[d].state = .normal ∨ v.levels[d].state = .highAlarm) ∧
                v.tab.t1[d].thb ≤ v.levels[d].level then .precharge
              else .normal } →
    ∃ before after : List Request, x.queue = before ++ after ∧
      (∀ e ∈ before, classRank v.tab.t9.classOrder e.cls ≤ classRank v.tab.t9.classOrder new.cls) ∧
      (∀ e ∈ after, classRank v.tab.t9.classOrder new.cls < classRank v.tab.t9.classOrder e.cls) ∧
      enterRequest v p x = { x with queue := before ++ new :: after }.markScan new.feeder) ∧
  (∀ (p : Fin 32) (x : Plant), ((∀ e ∈ x.queue, e.pump ≠ p) → dequeue p x = x) ∧
    ∀ r ∈ x.queue, r.pump = p → (x.queue.map Request.pump).Nodup →
      dequeue p x = { x with queue := (x.queue.filter fun e : Request => e.pump != p).map fun e : Request =>
        { e with rank := if r.rank < e.rank then e.rank - 1 else e.rank } }.markScan r.feeder) ∧
  ∀ (v : View) (r : Fin 10) (x y : Plant) (moves : Request → Bool), QueueSorted v.tab x →
    (∀ e : Request, moves e = true ↔ v.tab.t2[stageOf e.pump].enabled = true ∧
      v.tab.t2[stageOf e.pump].delivery = r ∧ e.cls ≠ .recover) → y = escalate v r x →
    y.pumps = x.pumps ∧ y.stages = x.stages ∧ y.events = x.events ∧ y.nextId = x.nextId ∧
    (∀ f : Feeder, y.feeder f = { x.feeder f with
      scanDue := (x.feeder f).scanDue || x.queue.any fun e => moves e && e.feeder == f }) ∧
    ∃ before after : List Request, (x.queue.filter fun e => !moves e) = before ++ after ∧
      (∀ e ∈ before, classRank v.tab.t9.classOrder e.cls ≤ classRank v.tab.t9.classOrder .recover) ∧
      (∀ e ∈ after, classRank v.tab.t9.classOrder .recover < classRank v.tab.t9.classOrder e.cls) ∧
      y.queue = before ++ (x.queue.filter moves).map (fun e => { e with cls := .recover }) ++ after

/-- A pump that a grant scan makes STARTING had a request of that feeder in the queue, and the scan found the slot
FREE and the committed power plus the pump's rating within the budget (R100, R101, R102). A grant: the request
leaves the queue, the pump is STARTING with a RUN awaiting transmission and its uncommanded flag clear, and the slot
of the feeder is BUSY with that holder and its spacing timer started (R67, R102). The walk of a scan, over the
requests of its feeder in queue order: it ends at once where the slot is BUSY; the first request that fits is
granted, every request passed over gaining 1 on its bypass count and blocking at the bypass limit; a request that is
blocking and does not fit ends the walk; a walk that ends without a grant changes no count; the stage of the granted
pump is reconciled (R61, R101, R102). The committed power of a feeder, whose fall asks for a scan, is the sum of the
ratings of its assigned pumps that are UNSEEN, STARTING or STOPPING or last reported RUNNING (R60, R95, R100). -/
def Obligations.GrantTakesSlot : Prop :=
  (∀ (v : View) (f : Feeder) (x : Plant) (p : Fin 32), (x.pump p).state ≠ .starting →
     ((scan v f x).pump p).state = .starting →
     (x.feeder f).busy = false ∧
     (x.feeder f).committed + v.tab.t3[p].rating ≤ (v.tab.feeder f).budget ∧
     ∃ e ∈ x.queue, e.pump = p ∧ e.feeder = f) ∧
  (∀ (v : View) (f : Feeder) (p : Fin 32) (x : Plant),
    OnlyPump p x (grant v f p x) ∧ (grant v f p x).queue = removeRequest p x.queue ∧
    (∀ g : Feeder, g ≠ f → g ≠ v.tab.t3[p].feeder → (grant v f p x).feeder g = x.feeder g) ∧
    (grant v f p x).events = x.events ∧
    ((grant v f p x).pump p).state = .starting ∧ ((grant v f p x).pump p).uncommanded = false ∧
    ((grant v f p x).pump p).cmd = some ⟨.run, .awaiting, x.nextId⟩ ∧
    ((grant v f p x).feeder f).busy = true ∧ ((grant v f p x).feeder f).holder = p ∧
    ((grant v f p x).feeder f).released = false ∧
    ((grant v f p x).feeder f).spacingT = startTimer v.now (v.tab.feeder f).spacing) ∧
  (∀ (v : View) (f : Feeder) (x y : Plant) (fits : Request → Prop),
    y = x.setFeeder f { x.feeder f with scanDue := false } →
    (∀ e : Request, fits e ↔ (x.feeder f).committed + v.tab.t3[e.pump].rating ≤ (v.tab.feeder f).budget) →
    ((x.feeder f).busy = true → scan v f x = y) ∧
    ((x.feeder f).busy = false → ∀ passed rest : List Request,
      (x.queue.filter fun e => e.feeder == f) = passed ++ rest → (∀ e ∈ passed, ¬fits e ∧ e.blocking = false) →
      (rest = [] → scan v f x = y) ∧
      ∀ (e : Request) (behind : List Request), rest = e :: behind →
        (¬fits e → e.blocking = true → scan v f x = y) ∧
        (fits e → scan v f x = finishPump v e.pump (grant v f e.pump { y with
          queue := x.queue.map fun r =>
            if ∃ r' ∈ passed, r'.pump = r.pump then { r with
              bypass := r.bypass + 1
              blocking := r.blocking || decide (v.tab.t9.bypassLimit ≤ r.bypass + 1) }
            else r })))) ∧
  ∀ (tab : Settings) (f : Feeder) (x : Plant) (power : Nat),
    power = ((slots.filter fun p => assigned tab p && tab.t3[p].feeder == f && ((x.pump p).state == .unseen ||
      (x.pump p).state == .starting || (x.pump p).state == .stopping || (x.pump p).feedback == .running)).map
        fun p => tab.t3[p].rating).sum →
    recommit tab f x = x.setFeeder f { x.feeder f with
      committed := power, scanDue := (x.feeder f).scanDue || decide (power < (x.feeder f).committed) } ∧
    ∀ p : Fin 32, tab.t3[p].feeder = f → handCommitted tab p x = recommit tab f x

/-- Every step keeps each STARTING pump the holder of a BUSY start slot that it has not left (R103). -/
def Obligations.StepKeepsSlots : Prop :=
  ∀ s t : State, SlotsHeld s.part.plant → step s = .next t → SlotsHeld t.part.plant

/-! ### The Line Interface -/

/-- CHECK_ERROR on U and D, and CHARACTER_GAP_TIMEOUT: the receiver is in HUNT, LINE_CHECK is raised, and on U the
check hold is set where the destination byte was received and is the part's current address; a gap at a receiver in
HUNT changes nothing (R128, R129, R130; that the gap command may come to a receiver in HUNT is the model's choice:
log 3). CHECK_HOLD_QUIET clears the check hold and nothing else (R130). That it first abandons a frame under
assembly on U, whose gap must have passed too, is read from R128 and R130 together: log 38. -/
def Obligations.CheckErrorsAndHold : Prop :=
  (∀ s : State, Steady s.part →
     (∀ dest : Option Byte, exec (.checkError .u dest) s = .next { s with part := { s.part with
       line := { s.part.line with
         rxU := .hunt, checkHold := s.part.line.checkHold || decide (dest = some s.part.address) }
       plant := s.part.plant.raise .lineCheck } }) ∧
     (∀ dest : Option Byte, exec (.checkError .d dest) s = .next { s with part := { s.part with
       line := { s.part.line with rxD := .hunt }
       plant := s.part.plant.raise .lineCheck } }) ∧
     ∀ port : Port, exec (.characterGapTimeout port) s =
       if s.part.rx port = .hunt then .next s else exec (.checkError port (s.part.rx port).dest?) s) ∧
  ∀ s : State, Steady s.part → exec .checkHoldQuiet s = .next { s with part := { s.part with
    line := { s.part.line with checkHold := false, rxU := .hunt }
    plant := if s.part.line.rxU = .hunt then s.part.plant else s.part.plant.raise .lineCheck } }

/-- CHARACTER_RECEIVED by the state of the receiver: an opener begins a frame in HUNT and is data elsewhere; header
and payload bytes are held; a length above 60 and a missing stop bit abandon the frame; the check byte completes it,
as a good frame where it is the frame's check and as a check error where not; characters on M are discarded (R127,
R128, R129). -/
def Obligations.CharacterTaken : Prop :=
  ∀ (port : Port) (ch : Byte) (s : State), Steady s.part → port ≠ .m →
    exec (.characterReceived .m ch true) s = .next s ∧
    exec (.characterReceived port ch false) s = exec (.characterGapTimeout port) s ∧
    (s.part.rx port = .hunt → exec (.characterReceived port ch true) s =
      .next (if ch = 0xA5 then { s with part := s.part.setRx port (.header []) } else s)) ∧
    (∀ held : List Byte, held.length < 3 → s.part.rx port = .header held →
      exec (.characterReceived port ch true) s =
        .next { s with part := s.part.setRx port (.header (held ++ [ch])) }) ∧
    (∀ dest source kind : Byte, s.part.rx port = .header [dest, source, kind] →
      exec (.characterReceived port ch true) s =
        if 60 < ch.toNat then exec (.checkError port (some dest)) s
        else .next { s with part := (s.part.setRx port
          (if ch = 0 then .check dest source kind [] else .payload dest source kind ch.toNat [])) }) ∧
    (∀ (dest source kind : Byte) (len : Nat) (held : List Byte), held.length < len →
      s.part.rx port = .payload dest source kind len held →
      exec (.characterReceived port ch true) s = .next { s with part := (s.part.setRx port
        (if held.length + 1 = len then .check dest source kind (held ++ [ch])
        else .payload dest source kind len (held ++ [ch]))) }) ∧
    ∀ f : Frame, f.wf = true → s.part.rx port = .check f.dest f.source f.kind f.payload →
      exec (.characterReceived port ch true) s =
        if ch = frameCheck f then exec (if port = .u then .goodFrameOnU f else .goodFrameOnD f) s
        else exec (.checkError port (some f.dest)) s

/-- A frame of at most 60 payload bytes whose characters arrive one after another at a receiver in HUNT has the
effect of that good frame, and with any other check byte that of a check error at its port (R128, R129, R138). The
bytes of a frame are the opener, destination, source, kind, length, payload and check; the check is the remainder,
by x^8 + x^2 + x + 1, of the bytes from the destination on, most significant bit first from 0: a bit equal to its
top bit shifts it, and any other adds the generator to the shifted value (R129, R138). -/
def Obligations.FrameAssembled : Prop :=
  (∀ (f : Frame) (bits : List Bool), frameBytes f =
      [0xA5, f.dest, f.source, f.kind, BitVec.ofNat 8 f.payload.length] ++ f.payload ++ [frameCheck f] ∧
    (bits = ([f.dest, f.source, f.kind, BitVec.ofNat 8 f.payload.length] ++ f.payload).flatMap
        (fun b => (List.range 8).map fun i => b.getMsbD i) →
      frameCheck f = bits.foldl (fun (c : Byte) bit => if bit = c.msb then c <<< 1 else (c <<< 1) ^^^ 0x07#8) 0#8)) ∧
  ∀ (f : Frame) (s : State), Steady s.part → f.wf = true →
    (s.part.line.rxU = .hunt →
      receive .u (frameBytes f) s = exec (.goodFrameOnU f) s ∧
      ∀ c : Byte, c ≠ frameCheck f →
        receive .u (0xA5 :: (frameCovered f ++ [c])) s = exec (.checkError .u (some f.dest)) s) ∧
    (s.part.line.rxD = .hunt →
      receive .d (frameBytes f) s = exec (.goodFrameOnD f) s ∧
      ∀ c : Byte, c ≠ frameCheck f →
        receive .d (0xA5 :: (frameCovered f ++ [c])) s = exec (.checkError .d (some f.dest)) s)

/-- A window holds a source where it is used, its direction is that of the frame (0 up, 1 down) or both (2), and the
source is within its addresses (R149, R150). A frame offered for mirroring: no window that holds the source makes no
copy; one such window gives a copy with the translated source, or MIRROR_DROP where that exceeds 62 or the queue is
full (R133, R150). M_TRANSMIT_START takes the head of the mirror queue where the transmitter is idle;
M_TRANSMIT_COMPLETE makes it idle and hands nothing on (R136). That a start with the transmitter sending or the
queue empty, and a completion of nothing sent, changes nothing is the model's choice: log 3. -/
def Obligations.MirroredOnM : Prop :=
  (∀ (e : MirrorEntry) (d : Direction) (source : Byte), e.holdsSource d source = true ↔ e.used = true ∧
    (e.direction = 2 ∨ (d = .up ∧ e.direction = 0) ∨ (d = .down ∧ e.direction = 1)) ∧
    e.low ≤ source.toNat ∧ source.toNat ≤ e.high) ∧
  (∀ (d : Direction) (f : Frame) (s : Part),
     ((∀ i : Fin 8, s.tab.t7[i].holdsSource d f.source = false) → mirror d f s = s) ∧
     ∀ i : Fin 8, s.tab.t7[i].holdsSource d f.source = true →
       (∀ j : Fin 8, j ≠ i → s.tab.t7[j].holdsSource d f.source = false) →
       mirror d f s =
         if 62 < s.tab.t7[i].base + f.source.toNat - s.tab.t7[i].low ∨ frameCapacity ≤ s.line.mirrorQueue.length
         then { s with plant := s.plant.raise .mirrorDrop }
         else { s with line := { s.line with mirrorQueue := s.line.mirrorQueue ++ [{ f with
           source := BitVec.ofNat 8 (s.tab.t7[i].base + f.source.toNat - s.tab.t7[i].low) }] } }) ∧
  ∀ s : State, Steady s.part →
    (∀ (f : Frame) (rest : List Frame), s.part.line.mTx = none → s.part.line.mirrorQueue = f :: rest →
      exec .mTransmitStart s = .next { s with part := { s.part with line := { s.part.line with
        mTx := some f, mirrorQueue := rest } } }) ∧
    (s.part.line.mTx ≠ none ∨ s.part.line.mirrorQueue = [] → exec .mTransmitStart s = .next s) ∧
    exec .mTransmitComplete s =
      .next { s with part := { s.part with line := { s.part.line with mTx := none } } }

/-- GOOD_FRAME_ON_U of a kind that is forwarded: it is entered in the D forward queue, or dropped with FORWARD_DROP
where that is full; a MANAGE frame to another address is discarded; each restarts the upline quiet timer and is
offered for mirroring (R131, R133, R137). -/
def Obligations.GoodFrameForwarded : Prop :=
  ∀ (f : Frame) (s : State), s.part.power = .on → Settled s.part.plant → f.wf = true →
    (f.kind ≠ kindManage → (f.kind = kindCommand → s.part.mgmt.mode ≠ .active) →
      exec (.goodFrameOnU f) s = .next (s.endingAt (mirror .down f
        (if s.part.line.dQueue.length < frameCapacity
        then { s.part.heard with line := { s.part.heard.line with
          dQueue := s.part.line.dQueue ++ [{ frame := f, carried := [] }] } }
        else { s.part.heard with plant := s.part.plant.raise .forwardDrop })))) ∧
    (f.kind = kindManage → f.dest ≠ s.part.address → f.dest ≠ 0 →
      exec (.goodFrameOnU f) s = .next (s.endingAt (mirror .down f s.part.heard)))

/-- A COMMAND frame on U in ACTIVE mode: with the D forward queue full it is dropped before judgement; refused, it
has no effect but its reply, where the reply queue has room, and COMMAND_REFUSED; passed, its items have taken
effect, it is in the D forward queue, and the stages of the pumps whose commands it carries are reconciled (R131,
R155, R156, R157; that the stages of those pumps are the ones whose pumps changed is read from R157: log 36). Where
the upline quiet timer is due as a passed frame comes, the fallback follows for the pumps that the frame stops: each
assigned MANUAL pump with its fallback flag that holds the frame's STOP in transit becomes AUTO, with its stage
reconciled (R160), while the timer restarts and no loss is taken (R137): read together so by log 45. The judgement,
item by item: the items are the whole two-byte items of the payload; a frame without one passes; a broadcast with
one is refused at item 0 with NOT_PERMITTED; otherwise an item whose point is that of an assigned pump at the
destination is tested against the records as the items before it leave them, the first refused item refuses the
frame, and a frame without a refused item passes with every item's effect (R155, R157). An item carries a command
unless it is a STOP without effect. -/
def Obligations.CommandFrameJudged : Prop :=
  (∀ (f : Frame) (s : State), s.part.power = .on → Settled s.part.plant → f.wf = true → f.kind = kindCommand →
    s.part.mgmt.mode = .active →
    (frameCapacity ≤ s.part.line.dQueue.length → exec (.goodFrameOnU f) s = .next (s.endingAt (mirror .down f
      { s.part.heard with plant := s.part.plant.raise .forwardDrop }))) ∧
    (s.part.line.dQueue.length < frameCapacity →
      (∀ (r : Reason) (i : Nat) (point : Byte), judgeFrame s.part.view f s.part.plant = .refused r i point →
        exec (.goodFrameOnU f) s = .next (s.endingAt (mirror .down f { s.part.heard with
          plant := s.part.plant.raise .commandRefused
          line := { s.part.heard.line with
            replyQueue := if replyCapacity ≤ s.part.line.replyQueue.length then s.part.line.replyQueue
              else s.part.line.replyQueue ++ [{
                dest := f.source, status := 2, reason := r.code, tag := 0,
                data := [BitVec.ofNat 8 i, point], restart := false }] } }))) ∧
      ∀ (y : Plant) (carried : List (Fin 32 × Nat)), judgeFrame s.part.view f s.part.plant = .passed y carried →
        ∀ z : Plant, z = settle s.part.view (reconcileAll s.part.view (stagesOf (carried.map Prod.fst)) y) →
        ∃ w : Plant, exec (.goodFrameOnU f) s = .next (s.endingAt (mirror .down f { s.part.heard with
          plant := w
          line := { s.part.heard.line with
            dQueue := s.part.line.dQueue ++ [{ frame := f, carried := carried }] } })) ∧
          (due s.part.cal.uptime s.part.line.quietT = false → w = z) ∧
          (due s.part.cal.uptime s.part.line.quietT = true → ∃ (x : Plant) (falls : Fin 32 → Bool),
            (∀ p : Fin 32, falls p = true ↔ assigned s.part.tab p = true ∧ (z.pump p).owner = .manual ∧
              s.part.tab.t3[p].fallback = true ∧
              ∃ n : Nat, (p, n) ∈ carried ∧ (z.pump p).cmd = some ⟨.stop, .inTransit, n⟩) ∧
            (∀ p : Fin 32, x.pump p = if falls p = true then { z.pump p with owner := .auto } else z.pump p) ∧
            OnlyPumps z x ∧ w = settle s.part.view (reconcileAll s.part.view
              (stageList.filter fun k => slots.any fun p => stageOf p == k && falls p) x)))) ∧
  (pairsOf [] = [] ∧ (∀ a : Byte, pairsOf [a] = []) ∧
    ∀ (a b : Byte) (rest : List Byte), pairsOf (a :: b :: rest) = (a, b) :: pairsOf rest) ∧
  (∀ (v : View) (f : Frame) (x : Plant) (items : List (Byte × Byte)), items = pairsOf f.payload →
    (items = [] → judgeFrame v f x = .passed x []) ∧
    (f.dest = 0 → ∀ (point action : Byte) (rest : List (Byte × Byte)), items = (point, action) :: rest →
      judgeFrame v f x = .refused .notPermitted 0 point) ∧
    (f.dest ≠ 0 → ∀ refusal : Nat → Option Reason,
      (∀ (i : Nat) (point action : Byte), items[i]? = some (point, action) →
        refusal i = (itemPump v.tab f.dest.toNat point.toNat).bind fun p =>
          itemRefusal v f.source (itemsEffect v f (items.take i) x).1 p action) →
      (∀ (i : Nat) (point action : Byte) (r : Reason), items[i]? = some (point, action) → refusal i = some r →
        (∀ j : Nat, j < i → refusal j = none) → judgeFrame v f x = .refused r i point) ∧
      ((∀ i : Nat, i < items.length → refusal i = none) → judgeFrame v f x =
        .passed (itemsEffect v f items x).1 (itemsEffect v f items x).2))) ∧
  ∀ (v : View) (p : Fin 32) (x : Plant) (station point : Nat),
    (itemPump v.tab station point = none ↔ ∀ p' : Fin 32, assigned v.tab p' = true →
      ¬(v.tab.t3[p'].station = station ∧ v.tab.t3[p'].point = point)) ∧
    (itemPump v.tab station point = some p → assigned v.tab p = true ∧ v.tab.t3[p].station = station ∧
      v.tab.t3[p].point = point) ∧
    itemEffect v p 0x01 x = (manualRun v p x, [(p, x.nextId)]) ∧
    itemEffect v p 0x02 x = (manualStop v p x,
      if (x.pump p).state = .unseen ∨ (x.pump p).state = .off ∨ (x.pump p).state = .resting ∨
        (x.pump p).state = .queued then [] else [(p, x.nextId)])

/-- The tests of an item that addresses a pump: the first that fails refuses it with its reason, and an item that
passes them all is not refused (R155). The effect of a passed item: a RUN makes the pump STARTING with the RUN in
transit and takes the slot; a STOP, by the pump's state, makes it STOPPING with the STOP in transit, a STARTING pump
leaving its start slot, or is held by a TRIPPED or LOCKED_OUT pump, or has no effect (R103, R105, R157). -/
def Obligations.CommandItemsJudged : Prop :=
  (∀ (v : View) (source : Byte) (x : Plant) (p : Fin 32) (action : Byte) (q : Pump) (f : Feeder),
     q = x.pump p → f = v.tab.t3[p].feeder →
     itemRefusal v source x p action =
       if ¬(∃ i : Fin 4, v.tab.t8[i].used = true ∧ v.tab.t8[i].address = source.toNat ∧
         v.tab.t8[i].mask.getLsbD (stageOf p).val = true) then some .notPermitted
       else if q.localSel = true then some .localControl
       else if q.owner = .outOfService then some .outOfService
       else if q.owner = .auto then some .owned
       else if action ≠ 1 ∧ action ≠ 2 then some .badAction
       else if action = 2 then none
       else if q.state = .resting then some .rest
       else if q.state ≠ .off then some .state
       else if v.tab.t3[p].startsPerHour ≤ q.history.length then some .limit
       else if (x.stage (stageOf p)).override = .dryRun then some .dry
       else if (x.feeder f).busy = true then some .slotBusy
       else if (v.tab.feeder f).budget < (x.feeder f).committed + v.tab.t3[p].rating then some .budget
       else none) ∧
  ∀ (v : View) (p : Fin 32) (x : Plant) (q : Pump), q = x.pump p →
    (∀ f : Feeder, f = v.tab.t3[p].feeder → OnlyPump p x (manualRun v p x) ∧
      (manualRun v p x).queue = x.queue ∧ (∀ g : Feeder, g ≠ f → (manualRun v p x).feeder g = x.feeder g) ∧
      ((manualRun v p x).pump p).state = .starting ∧ ((manualRun v p x).pump p).uncommanded = false ∧
      ((manualRun v p x).pump p).cmd = some ⟨.run, .inTransit, x.nextId⟩ ∧
      ((manualRun v p x).feeder f).busy = true ∧ ((manualRun v p x).feeder f).holder = p ∧
      ((manualRun v p x).feeder f).released = false ∧
      ((manualRun v p x).feeder f).spacingT = startTimer v.now (v.tab.feeder f).spacing) ∧
    (q.state = .running ∨ q.state = .stopping ∨ q.state = .stopFailed ∨ q.state = .starting →
      OnlyPump p x (manualStop v p x) ∧ (manualStop v p x).queue = x.queue ∧
      SlotsFrom (if q.state = .starting then leaveStarting p x else x) (manualStop v p x) ∧
      ((manualStop v p x).pump p).state = .stopping ∧
      ((manualStop v p x).pump p).cmd = some ⟨.stop, .inTransit, x.nextId⟩ ∧
      ((manualStop v p x).pump p).startT = none ∧ ((manualStop v p x).pump p).stopT = none ∧
      ((manualStop v p x).pump p).runStart = q.runStart ∧ ((manualStop v p x).pump p).minRunT = q.minRunT ∧
      ((manualStop v p x).pump p).minRunMet = q.minRunMet) ∧
    (q.state = .tripped ∨ q.state = .lockedOut → manualStop v p x =
      { x.setPump p { q with cmd := some ⟨.stop, .inTransit, x.nextId⟩, startT := none, stopT := none } with
        nextId := x.nextId + 1 }) ∧
    (q.state = .unseen ∨ q.state = .off ∨ q.state = .resting ∨ q.state = .queued → manualStop v p x = x)

/-- GOOD_FRAME_ON_D: a REPLY to the part is inspected and not forwarded; a MANAGE frame is discarded; any other
frame of a known source has its reports read and is forwarded; one of a foreign source raises FOREIGN_SOURCE and is
forwarded only where source validation is clear; a forwarded frame is dropped with FORWARD_DROP where sixteen wait
already (R133); these are offered for mirroring (R132, R143, R144, R148). That a MANAGE frame on D is not offered is
read from R132 against R150: log 27. The pairs of a reply to the part are read in list order, a trailing odd byte
ignored; one whose result is 1, refused, for the point of an assigned pump at the frame's station that is STARTING
with its RUN in transit or sent clears the RUN and takes a REFUSED trip, and the stage is reconciled; any other pair
changes nothing (R113, R148). Scans follow each pair: log 13. -/
def Obligations.GoodFrameOnDDisposed : Prop :=
  (∀ (f : Frame) (s : Part), enterU f s =
    if 16 ≤ s.line.uQueue.length then s.raise .forwardDrop
    else { s with line := { s.line with uQueue := s.line.uQueue ++ [f] } }) ∧
  (∀ (f : Frame) (s : State) (h : Part), s.part.power = .on → f.wf = true →
    h = { s.part with line := { s.part.line with rxD := .hunt } } →
    (f.kind = kindReply → f.dest = s.part.address → exec (.goodFrameOnD f) s =
      .next (s.endingAt (mirror .up f ((replyPairs f.payload).foldl (inspectPair f.source) h)))) ∧
    (f.kind = kindManage → exec (.goodFrameOnD f) s = .next (s.endingAt h)) ∧
    (f.kind ≠ kindManage → ¬(f.kind = kindReply ∧ f.dest = s.part.address) →
      ∀ known : Bool, (known = true ↔
        (∃ i : Fin 128, s.part.tab.t0[i].used = true ∧ s.part.tab.t0[i].station = f.source.toNat) ∨
        ∃ p : Fin 32, assigned s.part.tab p = true ∧ s.part.tab.t3[p].station = f.source.toNat) →
      (known = true → exec (.goodFrameOnD f) s = .next (s.endingAt (mirror .up f (enterU f
        (if f.kind = kindTelemetry then (reportsOf f.payload).foldl (takeReport f.source) h else h))))) ∧
      (known = false → exec (.goodFrameOnD f) s = .next (s.endingAt (mirror .up f
        (if s.part.tab.t9.sourceValidation = true then h.raise .foreignSource
        else enterU f (h.raise .foreignSource))))))) ∧
  (∀ (status : Byte) (rest : List Byte), replyPairs [] = [] ∧ replyPairs [status] = [] ∧
    (∀ b : Byte, replyPairs [status, b] = []) ∧
    ∀ a b : Byte, replyPairs (status :: a :: b :: rest) = (a, b) :: replyPairs (status :: rest)) ∧
  (∀ (source point result : Byte) (s : Part),
    (result ≠ 1 → inspectPair source s (point, result) = s) ∧
    ((∀ p : Fin 32, ¬(assigned s.tab p = true ∧ s.tab.t3[p].station = source.toNat ∧
      s.tab.t3[p].point = point.toNat)) → inspectPair source s (point, result) = s) ∧
    ∀ p : Fin 32, assigned s.tab p = true → s.tab.t3[p].station = source.toNat → s.tab.t3[p].point = point.toNat →
      (∀ p' : Fin 32, p' ≠ p → ¬(s.tab.t3[p'].station = source.toNat ∧ s.tab.t3[p'].point = point.toNat)) →
      inspectPair source s (point, 1) =
        { s with plant := settle s.view (refusedReport s.view p s.plant) }) ∧
  ∀ (v : View) (p : Fin 32) (x y : Plant),
    y = x.setPump p { x.pump p with cmd := none, startT := none, stopT := none } →
    refusedReport v p x =
      if (x.pump p).state = .starting ∧ (x.pump p).holds .run = true ∧ (x.pump p).awaits .run = false
      then finishPump v p (takeTrip v p .refused y) else x

/-- The reports of a frame are its whole groups of point, quality and raw value, the more significant byte first
(R138). A raw value at or below the zero offset gives level 0, and above it the scaled level, which FS limits; the
report of a LEVEL entry hands that level to its reservoir, which discards it where it is not enabled or is an
unmetered source (R146). A report that matches a used T0 entry is handed on where its quality is GOOD, or SUSPECT
and the entry is not a LEVEL entry; any other report changes nothing. A status report goes to the pump it names as
zero or non-zero (R145, R147). What the pump's block does with it, nothing for an unassigned slot (R56, R111): run
feedback reconciles the stage where the state changed (R61); a non-zero TRIP report counts up to the trip confirm
count, sets the indication there and takes a STARTER_TRIP unless it already stood, and a zero one clears both and
sends a TRIPPED pump with its retry timer idle by the rest test (R112); a WARN report writes the flag; a
LOCAL_SELECT report that sets the flag withdraws a QUEUED pump and clears an awaiting command, one that clears it
changes nothing else, the stage being reconciled after both, and one that repeats it has no effect (R119). The scans
follow each report (log 13); the count against a setting lowered meanwhile is log 17. -/
def Obligations.ReportsTaken : Prop :=
  (∀ (a b c d : Byte) (rest bytes : List Byte), (bytes.length < 4 → reportsOf bytes = []) ∧
    reportsOf (a :: b :: c :: d :: rest) = ⟨a, b, c ++ d⟩ :: reportsOf rest) ∧
  ((∀ (e : PointEntry) (fs raw : Nat), (raw ≤ e.zero → scaleLevel e fs raw = 0) ∧
     (e.zero < raw → scaleLevel e fs raw =
       if fs < (raw - e.zero) * fs / e.span then fs else (raw - e.zero) * fs / e.span) ∧
     scaleLevel e fs raw ≤ fs) ∧
   ∀ (e : PointEntry) (r : Fin 10) (raw : Nat) (s : Part), e.kind = 0 → e.target = r.val →
     handReport e raw s = levelArrival r (scaleLevel e s.tab.t1[r].fs raw) s ∧
     (s.tab.t1[r].enabled = false ∨ s.tab.t1[r].kind = .unmetered → handReport e raw s = s)) ∧
  (∀ (source : Byte) (r : Report) (s : Part),
    ((∀ i : Fin 128, ¬(s.tab.t0[i].used = true ∧ s.tab.t0[i].station = source.toNat ∧
      s.tab.t0[i].point = r.point.toNat)) → takeReport source s r = s) ∧
    ∀ i : Fin 128, s.tab.t0[i].used = true → s.tab.t0[i].station = source.toNat →
      s.tab.t0[i].point = r.point.toNat →
      (∀ j : Fin 128, j ≠ i → ¬(s.tab.t0[j].used = true ∧ s.tab.t0[j].station = source.toNat ∧
        s.tab.t0[j].point = r.point.toNat)) →
      (takeReport source s r =
        if r.quality = 0 ∨ (r.quality = 1 ∧ s.tab.t0[i].kind ≠ 0)
        then settlePart (handReport s.tab.t0[i] r.raw.toNat s) else s) ∧
      ∀ (p : Fin 32) (raw : Nat), s.tab.t0[i].target = p.val →
        (s.tab.t0[i].kind = 1 → handReport s.tab.t0[i] raw s =
          { s with plant := runFeedback s.view p (raw != 0) s.plant }) ∧
        (s.tab.t0[i].kind = 2 → handReport s.tab.t0[i] raw s =
          { s with plant := tripReport s.view p (raw != 0) s.plant }) ∧
        (s.tab.t0[i].kind = 3 → handReport s.tab.t0[i] raw s =
          { s with plant := warnReport s.view p (raw != 0) s.plant }) ∧
        (s.tab.t0[i].kind = 4 → handReport s.tab.t0[i] raw s =
          { s with plant := localReport s.view p (raw != 0) s.plant })) ∧
  ∀ (v : View) (p : Fin 32) (x : Plant) (q : Pump) (limit : Nat), q = x.pump p → limit = v.tab.t3[p].tripConfirm →
    (assigned v.tab p = false → ∀ b : Bool, runFeedback v p b x = x ∧ tripReport v p b x = x ∧
      warnReport v p b x = x ∧ localReport v p b x = x) ∧
    (assigned v.tab p = true →
      (∀ (b : Bool) (y : Plant), y = (if b = true then feedbackRunning v p x else feedbackStopped v p x) →
        runFeedback v p b x = if (y.pump p).state = q.state then y else finishPump v p y) ∧
      (q.tripCount = limit → tripReport v p true x = x) ∧
      (q.tripCount + 1 < limit → tripReport v p true x = x.setPump p { q with tripCount := q.tripCount + 1 }) ∧
      (q.tripCount + 1 = limit ∨ limit < q.tripCount →
        ∀ y : Plant, y = x.setPump p { q with tripCount := limit, tripInd := true } →
          (q.tripInd = true → tripReport v p true x = y) ∧
          (q.tripInd = false → tripReport v p true x =
            if q.state = .tripped ∨ q.state = .lockedOut ∨ q.state = .unseen then takeTrip v p .starterTrip y
            else finishPump v p (takeTrip v p .starterTrip y))) ∧
      (∀ y : Plant, y = x.setPump p { q with tripCount := 0, tripInd := false } →
        tripReport v p false x =
          if q.state = .tripped ∧ q.retryT = none then finishPump v p (restTest v p y) else y) ∧
      (∀ b : Bool, warnReport v p b x = x.setPump p { q with warn := b }) ∧
      (∀ b : Bool, q.localSel = b → localReport v p b x = x) ∧
      (q.localSel = false → localReport v p true x =
        finishPump v p (clearAwaiting v p (withdraw v p (x.setPump p { q with localSel := true })))) ∧
      (q.localSel = true → localReport v p false x = finishPump v p (x.setPump p { q with localSel := false })))

/-- U_TRANSMIT_START: the idle transmitter takes the forward head or own traffic by its turn; own traffic is the
head of the reply queue, sent with the part's current address, or else the notice, formed from the state as it
stands, at which the slot becomes EMPTY and the notified set the pending set. U_TRANSMIT_COMPLETE makes it idle
(R125, R134). That a start with the transmitter sending or nothing to send, and a completion of nothing sent,
changes nothing is the model's choice: log 3. -/
def Obligations.UTransmitterTakesByTurn : Prop :=
  (∀ s : State, Steady s.part → s.part.line.uTx ≠ none → exec .uTransmitStart s = .next s) ∧
  ∀ s : State, Steady s.part → s.part.line.uTx = none → ∀ own : Bool,
    (own = true ↔ s.part.line.replyQueue ≠ [] ∨ s.part.plant.events.waiting = true) →
    (∀ (f : Frame) (rest : List Frame), s.part.line.uQueue = f :: rest →
      own = false ∨ s.part.line.uTurn = .forward →
      exec .uTransmitStart s = .next { s with part := { s.part with line := { s.part.line with
        uTx := some (.forward f), uQueue := rest, uTurn := .own } } }) ∧
    (own = true → s.part.line.uQueue = [] ∨ s.part.line.uTurn = .own →
      (∀ (r : Reply) (rest : List Reply), s.part.line.replyQueue = r :: rest →
        exec .uTransmitStart s = .next { s with part := { s.part with line := { s.part.line with
          uTx := some (.reply { dest := r.dest, source := s.part.address, kind := kindReply,
                                payload := [r.status, r.reason, r.tag] ++ r.data } r.restart),
          replyQueue := rest, uTurn := .forward } } }) ∧
      (s.part.line.replyQueue = [] →
        exec .uTransmitStart s = .next { s with part := { s.part with
          line := { s.part.line with
            uTx := some (.notice { dest := BitVec.ofNat 8 s.part.tab.t9.notice, source := s.part.address,
                                   kind := kindNotice,
                                   payload := wordBytes s.part.plant.events.pending ++
                                     wordBytes s.part.conditions ++ [BitVec.ofNat 8 s.part.mgmt.mode.code] }),
            uTurn := .forward }
          plant := { s.part.plant with events := { s.part.plant.events with
            waiting := false, notified := s.part.plant.events.pending } } } })) ∧
    (own = false → s.part.line.uQueue = [] → exec .uTransmitStart s = .next s) ∧
    ∀ (straps : Straps) (u : Option USending), (∀ f : Frame, u ≠ some (.reply f true)) →
      exec (.uTransmitComplete straps) { s with part := { s.part with line := { s.part.line with uTx := u } } } =
        .next s

/-- D_TRANSMIT_START: the idle transmitter takes the forward head or a command frame by its turn; the command frame
serves the station of the first pump after the pointer whose command can be included, holds an item for each such
command of that station in slot order, at most 30, makes them in transit, and moves the pointer to the highest slot
included (R70, R135). The frame goes to that station from the part's current address, with kind COMMAND, 02h, and
its payload is two bytes for each item, the command point and 01h for a RUN or 02h for a STOP (R135, R138). That a
start with the transmitter sending or nothing to send changes nothing is the model's choice: log 3. Where more than
30 commands of a station await, the steps of R135 are followed, which can serve that station again before another:
log 48. -/
def Obligations.DTransmitterTakesByTurn : Prop :=
  (∀ s : State, Steady s.part → s.part.line.dTx ≠ none → exec .dTransmitStart s = .next s) ∧
  ∀ s : State, Steady s.part → s.part.line.dTx = none → ∀ can : Fin 32 → Bool,
    (∀ p : Fin 32, can p = true ↔ assigned s.part.tab p = true ∧ (s.part.plant.pump p).owner ≠ .outOfService ∧
      (s.part.plant.pump p).localSel = false ∧
      ((s.part.plant.pump p).awaits .stop = true ∨ ((s.part.plant.pump p).awaits .run = true ∧
        (s.part.plant.stage (stageOf p)).override ≠ .dryRun))) →
    (∀ (f : DFrame) (rest : List DFrame), s.part.line.dQueue = f :: rest →
      (∀ p, can p = false) ∨ s.part.line.dTurn = .forward →
      exec .dTransmitStart s = .next { s with part := { s.part with line := { s.part.line with
        dTx := some f, dQueue := rest, dTurn := .own } } }) ∧
    ((∀ p, can p = false) → s.part.line.dQueue = [] → exec .dTransmitStart s = .next s) ∧
    ∀ p : Fin 32, can p = true →
      (∀ p' : Fin 32, can p' = true →
        (p - s.part.line.pointer - 1).val ≤ (p' - s.part.line.pointer - 1).val) →
      s.part.line.dQueue = [] ∨ s.part.line.dTurn = .own →
      ∃ (t : State) (ps : List (Fin 32)), exec .dTransmitStart s = .next t ∧ t.pending = s.pending ∧
        ps = (slots.filter fun i => can i &&
          s.part.tab.t3[i].station == s.part.tab.t3[p].station).take 30 ∧
        t.part.line = { s.part.line with
          dTx := some {
            frame := { dest := BitVec.ofNat 8 s.part.tab.t3[p].station, source := s.part.address, kind := 0x02
                       payload := ps.flatMap fun i => [BitVec.ofNat 8 s.part.tab.t3[i].point,
                         if (s.part.plant.pump i).holds .run = true then 0x01 else 0x02] }
            carried := ps.filterMap fun i => (s.part.plant.pump i).cmd.map fun c => (i, c.id) }
          dTurn := .forward, pointer := ps.getLastD s.part.line.pointer } ∧
        (∀ i : Fin 32, t.part.plant.pump i =
          if i ∈ ps then { s.part.plant.pump i with
            cmd := (s.part.plant.pump i).cmd.map fun c => { c with progress := .inTransit } }
          else s.part.plant.pump i) ∧
        OnlyPumps s.part.plant t.part.plant ∧
        t.part.tab = s.part.tab ∧ t.part.cal = s.part.cal ∧ t.part.levels = s.part.levels ∧
        t.part.mgmt = s.part.mgmt

/-- D_TRANSMIT_COMPLETE: each carried command that is still its pump's command and in transit becomes sent, and its
confirm timer starts with the length of T3; nothing else changes (R70, R135). That a completion of nothing sent
changes nothing is the model's choice: log 3. -/
def Obligations.DTransmitCompletes : Prop :=
  (∀ s : State, Steady s.part → s.part.line.dTx = none → exec .dTransmitComplete s = .next s) ∧
  ∀ (f : DFrame) (s : State), Steady s.part → s.part.line.dTx = some f →
    ∃ t : State, exec .dTransmitComplete s = .next t ∧ t.pending = s.pending ∧
      t.part.line = { s.part.line with dTx := none } ∧ OnlyPumps s.part.plant t.part.plant ∧
      t.part.tab = s.part.tab ∧ t.part.cal = s.part.cal ∧ t.part.levels = s.part.levels ∧
      t.part.mgmt = s.part.mgmt ∧
      ∀ (p : Fin 32) (q : Pump), q = s.part.plant.pump p →
        (∀ (a : Action) (n : Nat), q.cmd = some ⟨a, .inTransit, n⟩ → (p, n) ∈ f.carried →
          t.part.plant.pump p = { q with
            cmd := some ⟨a, .sent, n⟩
            startT := if a = .run then startTimer s.part.cal.uptime s.part.tab.t3[p].startConfirm else q.startT
            stopT := if a = .stop then startTimer s.part.cal.uptime s.part.tab.t3[p].stopConfirm
              else q.stopT }) ∧
        ((∀ (a : Action) (n : Nat), q.cmd = some ⟨a, .inTransit, n⟩ → (p, n) ∉ f.carried) →
          t.part.plant.pump p = q)

/-! ### Management requests -/

/-- Each management request, in any state, has the effect of the good frame on U that carries it: the MANAGE frame
with its request code, its tag and its arguments, 16-bit fields most significant byte first (R138, R162, R163). That
a request command stands for the whole good frame on U, one above 60 payload bytes being a check error, is the
model's choice: log 28. -/
def Obligations.RequestsAreFrames : Prop :=
  ∀ (h : ReqHead) (s : State),
    exec (.statusRead h) s = exec (.goodFrameOnU (manageFrame h 0x01 [])) s ∧
    (∀ (t i n : Byte) (o : Word), exec (.tableRead h t i n o) s =
      exec (.goodFrameOnU (manageFrame h 0x02 ([t, i, n] ++ wordBytes o))) s) ∧
    (∀ segs : List Segment, exec (.tableWrite h segs) s =
      exec (.goodFrameOnU (manageFrame h 0x03 (segmentsBytes segs))) s) ∧
    (∀ m : Byte, exec (.modeSet h m) s = exec (.goodFrameOnU (manageFrame h 0x04 [m])) s) ∧
    (∀ p o : Byte, exec (.ownerSet h p o) s = exec (.goodFrameOnU (manageFrame h 0x05 [p, o])) s) ∧
    (∀ (d : Byte) (m : Word) (sec : Byte), exec (.clockSet h d m sec) s =
      exec (.goodFrameOnU (manageFrame h 0x06 ([d] ++ wordBytes m ++ [sec]))) s) ∧
    (∀ c : Byte, exec (.noticeOn h c) s = exec (.goodFrameOnU (manageFrame h 0x07 [c])) s) ∧
    (∀ c : Byte, exec (.noticeOff h c) s = exec (.goodFrameOnU (manageFrame h 0x08 [c])) s) ∧
    (∀ k : Word, exec (.eventClear h k) s = exec (.goodFrameOnU (manageFrame h 0x09 (wordBytes k))) s) ∧
    (∀ p : Byte, exec (.tripReset h p) s = exec (.goodFrameOnU (manageFrame h 0x0A [p])) s) ∧
    exec (.addressTake h) s = exec (.goodFrameOnU (manageFrame h 0x0B [])) s ∧
    exec (.addressRelease h) s = exec (.goodFrameOnU (manageFrame h 0x0C [])) s ∧
    exec (.settingsSave h) s = exec (.goodFrameOnU (manageFrame h 0x0D [])) s ∧
    exec (.restart h) s = exec (.goodFrameOnU (manageFrame h 0x0E [])) s ∧
    ∀ (code : Byte) (args : List Byte), exec (.unknownRequest h code args) s =
      exec (.goodFrameOnU (manageFrame h code args)) s

/-- The segments of a TABLE_WRITE are read back from their bytes where each has the form that R165 asks; after such
segments, 1 or 2 bytes left over give ILLEGAL, and a segment of a wrong form its reason, the first test of it that
fails: a table id above 14 BAD_TABLE, T10 to T13 ILLEGAL, a first index or count outside the table BAD_INDEX, words
that do not match the count, or are cut short, ILLEGAL (R163, R165; segment by segment: log 23). The sizes of tables
and entries. The rows of the segments, their flags taken as R165 states; of two rows for one entry the later counts
(log 23). The words that a table read gives for an entry are the words that, written, give that entry: T0 to T9 and
T14 (R164, R165). The entries that words give, each ranged field clamped: T0 (R140), T1 (R2), T2 (R31), T3 (R54), T4
(R93), T5 (R24), T7 (R149), T8 (R154) and T9 (R161). The judgement of each table as it would stand after the write,
its tests in order, each naming the first entry that fails it, the reason of the refusal, the table that passes and
whether a value was clamped: T0 (R141), T1 (R2), T2 (R31), T3 (R54, R108), T4 (R93), T5 and T6 (R23, R24, R25), T7
(R149), T8 (R154), T9 (R161) and T14 (R57). Read from the rules: a T1 kind outside 0..1 is refused (log 20), a
duplicate is named at the smallest index that repeats an earlier one (log 21), T5 comes before T6 (log 23), bits 8
to 15 of a stage mask are cleared in unused entries too (log 26), and the BUSY test of T3 stands last and names the
lowest index (log 43). -/
def Obligations.TableWordsReadBack : Prop :=
  (((List.range 16).map tableSize = [128, 10, 8, 32, 2, 24, 7, 8, 4, 1, 32, 8, 32, 10, 32, 0] ∧
      (List.range 16).map entryWords = [7, 12, 11, 15, 2, 4, 1, 5, 3, 7, 36, 11, 6, 8, 2, 0]) ∧
    (∀ (table first count : Byte) (words : Nat), segmentForm table first count words =
      if 14 < table.toNat then some .badTable
      else if 10 ≤ table.toNat ∧ table.toNat ≤ 13 then some .illegal
      else if tableSize table.toNat ≤ first.toNat ∨ count = 0 ∨ tableSize table.toNat < first.toNat + count.toNat
      then some .badIndex
      else if words ≠ count.toNat * entryWords table.toNat then some .illegal else none) ∧
    (∀ (tag : Byte) (segs : List Segment) (tail : List Byte),
      (∀ g ∈ segs, segmentForm g.table g.first g.count g.words.length = none) →
      3 ≤ (segmentsBytes segs ++ tail).length → ∀ form : WriteForm,
      parseArguments 0x03 tag (segmentsBytes segs ++ tail) = .request tag (.tableWrite form) →
      (tail = [] → form = .segments segs) ∧ (tail.length = 1 ∨ tail.length = 2 → form = .refused .illegal) ∧
      ∀ (table first count : Byte) (rest : List Byte) (r : Reason), tail = table :: first :: count :: rest →
        segmentForm table first count (min (count.toNat * entryWords table.toNat) (rest.length / 2)) = some r →
        form = .refused r) ∧
    (∀ (tag : Byte) (bytes : List Byte), 3 ≤ bytes.length →
      ∃ form : WriteForm, parseArguments 0x03 tag bytes = .request tag (.tableWrite form)) ∧
    (∀ (segs : List Segment) (row : Row), row ∈ rowsOf segs ↔ ∃ g ∈ segs, ∃ i : Nat, i < g.count.toNat ∧
      row = { table := g.table.toNat, index := g.first.toNat + i
              words := takeFlags g.table.toNat
                ((g.words.drop (i * entryWords g.table.toNat)).take (entryWords g.table.toNat)) }) ∧
    (∀ a b : List Segment, rowsOf (a ++ b) = rowsOf a ++ rowsOf b) ∧
    (∀ (table j : Nat) (ws : List Word), (takeFlags table ws).length = ws.length ∧ field (takeFlags table ws) j =
      if (table ∈ [0, 1, 2, 5, 7, 8] ∧ j = 0) ∨ (table = 3 ∧ j = 14) then if field ws j = 0 then 0 else 1
      else if table = 8 ∧ j = 2 then field ws j % 256
      else if table = 9 ∧ j = 6 then field ws j % 8 else field ws j) ∧
    ∀ (rows : List Row) (table index : Nat) (ws : List Word), rowFor rows table index = some ws ↔
      ∃ before after : List Row, rows = before ++ { table := table, index := index, words := ws } :: after ∧
        ∀ r ∈ after, ¬(r.table = table ∧ r.index = index)) ∧
  ((∀ segs : List Segment,
     (∀ g ∈ segs, segmentForm g.table g.first g.count g.words.length = none) →
     ∀ n : Nat, segs.length ≤ n → readSegments n (segmentsBytes segs) = .segments segs) ∧
   (∀ e : PointEntry, e.station < 65536 → e.point < 65536 → e.kind < 65536 → e.target < 65536 → e.zero < 65536 →
     e.span < 65536 → pointOf e.words = e) ∧
   (∀ e : ResEntry, e.ok → e.la < 65536 → e.tlb < 65536 → e.thb < 65536 → e.ha < 65536 → resOf e.words = e) ∧
   (∀ e : StageEntry, e.ok → stageEntryOf e.words = e) ∧
   (∀ e : PumpEntry, e.ok → pumpEntryOf e.words = e) ∧
   (∀ e : FeederEntry, e.ok → feederEntryOf e.words = e) ∧
   (∀ e : WindowEntry, e.start ≤ 1439 → windowOf e.words = e) ∧
   (∀ (tab : Settings) (i : Fin 7), Fin.ofNat 2 (field (tab.entry 6 i.val) 0) = tab.t6[i]) ∧
   (∀ e : MirrorEntry, e.direction < 65536 → e.low < 65536 → e.high < 65536 → e.base < 65536 →
     mirrorOf e.words = e) ∧
   (∀ e : SourceEntry, e.address < 65536 → sourceOf e.words = e) ∧
   (∀ e : General, e.ok → generalOf e.words = e) ∧
   ∀ (tab : Settings) (i : Fin 32), (tab.entry 14 i.val).getD 0 0 ++ (tab.entry 14 i.val).getD 1 0 = tab.t14[i]) ∧
  (∀ ws : List Word,
     pointOf ws = { used := field ws 0 != 0, station := field ws 1, point := field ws 2, kind := field ws 3
                    target := field ws 4, zero := field ws 5, span := field ws 6 } ∧
     mirrorOf ws = { used := field ws 0 != 0, direction := field ws 1, low := field ws 2, high := field ws 3
                     base := field ws 4 } ∧
     resOf ws = { enabled := field ws 0 != 0, kind := if field ws 1 = 1 then .unmetered else .metered
                  fs := max 1000 (min 20000 (field ws 2)), la := field ws 3, tlb := field ws 4, thb := field ws 5
                  ha := field ws 6, ah := min 500 (field ws 7), stale := max 10 (min 3600 (field ws 8))
                  rateInterval := max 30 (min 600 (field ws 9)), cr := min 2000 (field ws 10)
                  pd := min 2000 (field ws 11) } ∧
     (field ws 1 ≤ 9 → field ws 2 ≤ 9 → 1 ≤ field ws 3 → ∃ d u : Fin 10, d.val = field ws 1 ∧ u.val = field ws 2 ∧
       stageEntryOf ws = { enabled := field ws 0 != 0, delivery := d, suction := u, n := field ws 3
                           maxRunning := max 1 (min (field ws 3) (field ws 4)), hb := max 1 (min 250 (field ws 5))
                           kr := min 20 (field ws 6), pf := min 1000 (field ws 7), sb := min 5000 (field ws 8)
                           staleCount := min (field ws 3) (field ws 9), spacing := min 600 (field ws 10) }) ∧
     pumpEntryOf ws = { station := field ws 0, point := field ws 1, feeder := if field ws 2 = 1 then .b else .a
                        rating := max 1 (min 500 (field ws 3))
                        defaultOwner := if field ws 4 = 0 then .auto else if field ws 4 = 1 then .manual
                          else .outOfService
                        minRun := min 3600 (field ws 5), minRest := min 3600 (field ws 6)
                        startConfirm := max 5 (min 120 (field ws 7)), stopConfirm := max 5 (min 120 (field ws 8))
                        startsPerHour := max 1 (min 12 (field ws 9)), retryLimit := min 5 (field ws 10)
                        retryInterval := max 60 (min 3600 (field ws 11))
                        provingTime := max 60 (min 3600 (field ws 12)), tripConfirm := max 1 (min 4 (field ws 13))
                        fallback := field ws 14 != 0 } ∧
     feederEntryOf ws = { budget := min 2000 (field ws 0), spacing := max 5 (min 600 (field ws 1)) } ∧
     (field ws 1 ≤ 1 → ∃ d : Fin 2, d.val = field ws 1 ∧
       windowOf ws = { used := field ws 0 != 0, dayType := d, start := min 1439 (field ws 2)
                       cls := if field ws 3 = 0 then .cheap else if field ws 3 = 1 then .normal else .peak }) ∧
     sourceOf ws = { used := field ws 0 != 0, address := field ws 1, mask := BitVec.ofNat 8 (field ws 2 % 256) } ∧
     generalOf ws = { service := field ws 0, notice := field ws 1, classOrder := field ws 2
                      bypassLimit := max 1 (min 7 (field ws 3))
                      quietTime := if field ws 4 = 0 then 0 else max 10 (min 3600 (field ws 4))
                      settleTime := max 30 (min 600 (field ws 5)), autoResume := field ws 6 % 2 == 1
                      alertEnabled := field ws 6 / 2 % 2 == 1, sourceValidation := field ws 6 / 4 % 2 == 1 }) ∧
  (∀ (tab : Settings) (rows : List Row) (new : Fin 128 → PointEntry),
     (∀ i : Fin 128, new i = asWritten rows 0 i.val pointOf tab.t0[i]) →
     JudgedBy (judgeT0 tab rows) 0
       (fun t clamped =>
         (∀ i : Fin 128, t[i] = if (new i).used = true ∧ (new i).span = 0 then { new i with span := 1 } else new i) ∧
         (clamped = true ↔ ∃ i : Fin 128, (new i).used = true ∧ (new i).span = 0))
       [(.badValue, fun i => (new i).used = true ∧ (outside 1 62 (new i).station ∨ 255 < (new i).point ∨
           4 < (new i).kind ∨ (if (new i).kind = 0 then 9 else 31) < (new i).target)),
        (.duplicateKey, fun i => ∃ j : Fin 128, j < i ∧ (new j).used = true ∧ (new i).used = true ∧
           (new j).station = (new i).station ∧ (new j).point = (new i).point),
        (.duplicateKey, fun i => ∃ j : Fin 128, j < i ∧ (new j).used = true ∧ (new i).used = true ∧
           (new j).kind = (new i).kind ∧ (new j).target = (new i).target)]) ∧
  (∀ (tab : Settings) (rows : List Row) (new : Fin 10 → ResEntry), RowsFit rows →
     (∀ i : Fin 10, new i = asWritten rows 1 i.val resOf tab.t1[i]) →
     JudgedBy (judgeT1 tab rows) 1
       (fun t clamped => (∀ i : Fin 10, t[i] = new i) ∧
         (clamped = true ↔ ClampedIn rows 1 fun ws => outside 1000 20000 (field ws 2) ∨ 500 < field ws 7 ∨
           outside 10 3600 (field ws 8) ∨ outside 30 600 (field ws 9) ∨ 2000 < field ws 10 ∨ 2000 < field ws 11))
       [(.badValue, fun i => ∃ ws, rowFor rows 1 i.val = some ws ∧ 1 < field ws 1),
        (.badValue, fun i => (new i).enabled = true ∧ (new i).kind = .metered ∧
           ¬(0 < (new i).la ∧ (new i).la < (new i).tlb ∧ (new i).tlb < (new i).thb ∧ (new i).thb < (new i).ha ∧
             (new i).ha ≤ (new i).fs ∧ 2 * (new i).ah + (new i).la < (new i).ha))]) ∧
  (∀ (tab : Settings) (rows : List Row), RowsFit rows →
     JudgedBy (n := 8) (judgeT2 tab rows) 2
       (fun t clamped => (∀ i : Fin 8, t[i] = asWritten rows 2 i.val stageEntryOf tab.t2[i]) ∧
         (clamped = true ↔ ClampedIn rows 2 fun ws => outside 1 (field ws 3) (field ws 4) ∨
           outside 1 250 (field ws 5) ∨ 20 < field ws 6 ∨ 1000 < field ws 7 ∨ 5000 < field ws 8 ∨
           field ws 3 < field ws 9 ∨ 600 < field ws 10))
       [(.badValue, fun i => ∃ ws, rowFor rows 2 i.val = some ws ∧ (outside 1 9 (field ws 1) ∨ 9 < field ws 2 ∨
           field ws 2 = field ws 1 ∨ outside 1 4 (field ws 3)))]) ∧
  (∀ (s : Part) (rows : List Row) (new : Fin 32 → PumpEntry), RowsFit rows →
     (∀ i : Fin 32, new i = asWritten rows 3 i.val pumpEntryOf s.tab.t3[i]) →
     JudgedBy (judgeT3 s rows) 3
       (fun t clamped => (∀ i : Fin 32, t[i] = new i) ∧
         (clamped = true ↔ ClampedIn rows 3 fun ws => outside 1 500 (field ws 3) ∨ 3600 < field ws 5 ∨
           3600 < field ws 6 ∨ outside 5 120 (field ws 7) ∨ outside 5 120 (field ws 8) ∨ outside 1 12 (field ws 9) ∨
           5 < field ws 10 ∨ outside 60 3600 (field ws 11) ∨ outside 60 3600 (field ws 12) ∨
           outside 1 4 (field ws 13)))
       [(.badValue, fun i => ∃ ws, rowFor rows 3 i.val = some ws ∧ (outside 1 62 (field ws 0) ∨ 255 < field ws 1 ∨
           1 < field ws 2 ∨ 2 < field ws 4)),
        (.duplicateKey, fun i => ∃ j : Fin 32, j < i ∧ (new j).station = (new i).station ∧
           (new j).point = (new i).point),
        (.busy, fun i => assigned s.tab i = true ∧ (s.plant.pump i).state = .starting ∧
           (new i).feeder ≠ s.tab.t3[i].feeder)]) ∧
  (∀ (tab : Settings) (rows : List Row), RowsFit rows →
     JudgedBy (n := 2) (judgeT4 tab rows) 4
       (fun t clamped => t = (asWritten rows 4 0 feederEntryOf tab.t4a, asWritten rows 4 1 feederEntryOf tab.t4b) ∧
         (clamped = true ↔ ClampedIn rows 4 fun ws => 2000 < field ws 0 ∨ outside 5 600 (field ws 1))) []) ∧
  (∀ (tab : Settings) (rows : List Row) (new : Fin 24 → WindowEntry), RowsFit rows →
     (∀ i : Fin 24, new i = asWritten rows 5 i.val windowOf tab.t5[i]) →
     JudgedBy (judgeT5 tab rows) 5
       (fun t clamped => (∀ i : Fin 24, t[i] = new i) ∧
         (clamped = true ↔ ClampedIn rows 5 fun ws => 1439 < field ws 2))
       [(.badValue, fun i => ∃ ws, rowFor rows 5 i.val = some ws ∧ (1 < field ws 1 ∨ 2 < field ws 3)),
        (.badValue, fun i => ∃ j : Fin 24, j < i ∧ (new j).used = true ∧ (new i).used = true ∧
           (new j).dayType = (new i).dayType ∧ (new j).start = (new i).start)]) ∧
  (∀ (tab : Settings) (t5 : Vector WindowEntry 24) (rows : List Row) (new : Fin 7 → Fin 2),
     (∀ i : Fin 7, new i = asWritten rows 6 i.val (fun ws => Fin.ofNat 2 (field ws 0)) tab.t6[i]) →
     JudgedBy (judgeT6 tab t5 rows) 6 (fun t clamped => (∀ i : Fin 7, t[i] = new i) ∧ clamped = false)
       [(.badValue, fun i => ∃ ws, rowFor rows 6 i.val = some ws ∧ 1 < field ws 0),
        (.badValue, fun i => ∀ j : Fin 24, ¬(t5[j].used = true ∧ t5[j].dayType = new i ∧ t5[j].start = 0))]) ∧
  (∀ (tab : Settings) (rows : List Row) (new : Fin 8 → MirrorEntry),
     (∀ i : Fin 8, new i = asWritten rows 7 i.val mirrorOf tab.t7[i]) →
     JudgedBy (judgeT7 tab rows) 7 (fun t clamped => (∀ i : Fin 8, t[i] = new i) ∧ clamped = false)
       [(.badValue, fun i => (new i).used = true ∧ (2 < (new i).direction ∨ outside 1 62 (new i).low ∨
           outside (new i).low 62 (new i).high ∨ outside 1 62 (new i).base)),
        (.badValue, fun i => ∃ j : Fin 8, j < i ∧ (new j).used = true ∧ (new i).used = true ∧
           ((new j).direction = (new i).direction ∨ (new j).direction = 2 ∨ (new i).direction = 2) ∧
           (new j).low ≤ (new i).high ∧ (new i).low ≤ (new j).high)]) ∧
  (∀ (tab : Settings) (rows : List Row) (new : Fin 4 → SourceEntry),
     (∀ i : Fin 4, new i = asWritten rows 8 i.val sourceOf tab.t8[i]) →
     JudgedBy (judgeT8 tab rows) 8 (fun t clamped => (∀ i : Fin 4, t[i] = new i) ∧ clamped = false)
       [(.badValue, fun i => (new i).used = true ∧ outside 1 62 (new i).address),
        (.duplicateKey, fun i => ∃ j : Fin 4, j < i ∧ (new j).used = true ∧ (new i).used = true ∧
           (new j).address = (new i).address)]) ∧
  (∀ (s : Part) (rows : List Row), RowsFit rows →
     JudgedBy (n := 1) (judgeT9 s rows) 9
       (fun t clamped => t = asWritten rows 9 0 generalOf s.tab.t9 ∧
         (clamped = true ↔ ClampedIn rows 9 fun ws => outside 1 7 (field ws 3) ∨
           (field ws 4 ≠ 0 ∧ outside 10 3600 (field ws 4)) ∨ outside 30 600 (field ws 5)))
       [(.badValue, fun _ => ∃ ws, rowFor rows 9 0 = some ws ∧ (62 < field ws 0 ∨ 62 < field ws 1 ∨
           outside 1 6 (field ws 2) ∨ (field ws 0 = 0 ∧ s.mgmt.addrMode = .service) ∨
           (field ws 1 = 0 ∧ s.plant.events.on = true)))]) ∧
  ∀ (tab : Settings) (rows : List Row) (i : Fin 32),
    (newT14 tab rows)[i] = asWritten rows 14 i.val (fun ws => ws.getD 0 0 ++ ws.getD 1 0) tab.t14[i]

/-- The tests of a directed request, in their order: the check hold refuses every request but ADDRESS_RELEASE; a
full reply queue, and then a payload shorter than 2 bytes, leave it unanswered; then a code outside 01h..0Eh and
arguments of a wrong length are refused (R162). Every answer goes to the reply queue and none of these changes
anything else but what the frame's arrival does. UNKNOWN_REQUEST: a request code outside 01h..0Eh is refused with
UNKNOWN_REQUEST and changes nothing else (R162). A broadcast request is never answered. Under a check hold every
broadcast but ADDRESS_RELEASE is ignored; so is one that is none of ADDRESS_TAKE, ADDRESS_RELEASE, CLOCK_SET and
NOTICE_OFF, and one of these with arguments of a wrong length (R130, R162). Carried out: ADDRESS_TAKE makes the
address mode SERVICE, ignored without a service address (R166); CLOCK_SET sets the clock as the directed request
does, ignored with an argument outside its range (R22), and takes a minute boundary that is due first, which is the
model's choice: log 10; NOTICE_OFF disables notices and empties the slot, ignored with a confirm flag of 0 (R124,
R172); ADDRESS_RELEASE makes the operating mode PASSIVE and the address mode COMMISSIONING, clears the check hold
and disables notices, under a check hold too (R166). The codes of the statuses and of the reasons (R139). -/
def Obligations.RequestTestsInOrder : Prop :=
  (∀ (f : Frame) (s : State), s.part.power = .on → Settled s.part.plant → f.wf = true → f.kind = kindManage →
     f.dest = s.part.address → ∃ (t : State) (answer : List Reply), exec (.goodFrameOnU f) s = .next t ∧
       t.pending = s.pending ∧
       (answer = t.part.line.replyQueue.drop s.part.line.replyQueue.length) ∧
       (s.part.line.checkHold = true → f.payload.head? ≠ some 0x0C → Mirrored f { s.part.heard with
           line := { s.part.heard.line with replyQueue := t.part.line.replyQueue }, free := t.part.free } t.part ∧
         (replyCapacity ≤ s.part.line.replyQueue.length → t.part.line.replyQueue = s.part.line.replyQueue) ∧
         (s.part.line.replyQueue.length < replyCapacity → ∃ r : Reply,
           t.part.line.replyQueue = s.part.line.replyQueue ++ [r] ∧ r.dest = f.source ∧ r.status = 2 ∧
           r.reason = Reason.checkHold.code ∧ r.data = [] ∧ r.restart = false ∧
           ∀ tag : Byte, f.payload[1]? = some tag → r.tag = tag)) ∧
       ((s.part.line.checkHold = true → f.payload.head? = some 0x0C) →
         (replyCapacity ≤ s.part.line.replyQueue.length ∨ f.payload.length < 2 → Mirrored f s.part.heard t.part) ∧
         (s.part.line.replyQueue.length < replyCapacity → ∀ (code tag : Byte) (args : List Byte),
           f.payload = code :: tag :: args →
           (code.toNat < 1 ∨ 14 < code.toNat → Mirrored f { s.part.heard with
               line := { s.part.heard.line with replyQueue := t.part.line.replyQueue } } t.part ∧
             answer = [{ dest := f.source, status := 2, reason := Reason.unknownRequest.code, tag := tag,
                         data := [], restart := false }]) ∧
           (1 ≤ code.toNat → code.toNat ≤ 14 →
             (code = 0x03 → args.length < 3) →
             (code ≠ 0x03 → ∀ n ∈ [(0x01, 0), (0x02, 5), (0x04, 1), (0x05, 2), (0x06, 4), (0x07, 1), (0x08, 1),
               (0x09, 2), (0x0A, 1), (0x0B, 0), (0x0C, 0), (0x0D, 0), (0x0E, 0)],
               code.toNat = n.1 → args.length ≠ n.2) →
             Mirrored f { s.part.heard with
               line := { s.part.heard.line with replyQueue := t.part.line.replyQueue } } t.part ∧
             answer = [{ dest := f.source, status := 2, reason := Reason.illegal.code, tag := tag,
                         data := [], restart := false }])))) ∧
  (∀ (h : ReqHead) (code : Byte) (args : List Byte) (s : State), Asked h s.part →
     (Instr.unknownRequest h code args).wf = true →
     ∃ t : State, exec (.unknownRequest h code args) s = .next t ∧ t.pending = s.pending ∧
       OnlyReply (manageFrame h code args) s.part t.part (replyTo h .refused Reason.unknownRequest.code [])) ∧
  (∀ (f : Frame) (s : State), s.part.power = .on → Settled s.part.plant → f.wf = true → f.kind = kindManage →
    f.dest = 0 → s.part.address ≠ 0 →
    ∃ t : State, exec (.goodFrameOnU f) s = .next t ∧ t.pending = s.pending ∧
      t.part.line.replyQueue = s.part.line.replyQueue ∧
      ((∀ code ∈ f.payload.head?, code ∉ [0x06#8, 0x08#8, 0x0B#8, 0x0C#8]) → Mirrored f s.part.heard t.part) ∧
      (s.part.line.checkHold = true → f.payload.head? ≠ some 0x0C → Mirrored f s.part.heard t.part) ∧
      (∀ row ∈ [(0x06#8, 6), (0x08#8, 3), (0x0B#8, 2), (0x0C#8, 2)], f.payload.head? = some row.1 →
        f.payload.length ≠ row.2 → Mirrored f s.part.heard t.part) ∧
      (s.part.line.checkHold = false →
        (∀ tag : Byte, f.payload = [0x0B, tag] → Mirrored f { s.part.heard with mgmt := { s.part.mgmt with
          addrMode := if s.part.tab.t9.service = 0 then s.part.mgmt.addrMode else .service } } t.part) ∧
        (∀ (tag day second : Byte) (minute : Word), f.payload = [0x06, tag, day] ++ wordBytes minute ++ [second] →
          (6 < day.toNat ∨ 1439 < minute.toNat ∨ 59 < second.toNat → Mirrored f s.part.heard t.part) ∧
          ∀ (d : Fin 7) (c : Calendar) (y : Plant), d.val = day.toNat → minute.toNat ≤ 1439 → second.toNat ≤ 59 →
            c = { s.part.cal with
              clockSet := true, day := d, minute := minute.toNat, second := second.toNat, boundaryDue := false
              cls := c.cls } →
            c.cls = classAt s.part.tab c → BoundaryTaken s.part y → Mirrored f { s.part.heard with
              cal := c, plant := settle { s.part.view with cls := c.cls }
                (evaluateAll { s.part.view with cls := c.cls } .clockSet y) } t.part) ∧
        (∀ tag : Byte, f.payload = [0x08, tag, 0] → Mirrored f s.part.heard t.part) ∧
        (∀ tag confirm : Byte, confirm ≠ 0 → f.payload = [0x08, tag, confirm] → t.part.plant.events.waiting = false ∧
          Mirrored f { s.part.heard with plant := { s.part.plant with events := { s.part.plant.events with
            on := false, waiting := false } } } t.part)) ∧
      ∀ (tag : Byte) (u : Part), f.payload = [0x0C, tag] →
        u = (if s.part.mgmt.mode = .passive then s.part.heard
          else settlePart (changeMode .passive s.part.heard)) →
        t.part.plant.events.waiting = false ∧ Mirrored f { u with
          mgmt := { s.part.mgmt with
            addrMode := .commissioning, mode := .passive
            settleT := if s.part.mgmt.mode = .passive then s.part.mgmt.settleT else none }
          line := { s.part.heard.line with checkHold := false }
          plant := { u.plant with events := { u.plant.events with on := false, waiting := false } } } t.part) ∧
  [Status.accepted, .acceptedClamped, .refused].map Status.code = [0x00, 0x01, 0x02] ∧
  [Reason.checkHold, .unknownRequest, .badTable, .badIndex, .badValue, .duplicateKey, .wrongMode, .busy, .illegal,
    .inconsistent, .notPermitted, .owned, .outOfService, .localControl, .badAction, .state, .rest, .limit, .dry,
    .slotBusy, .budget].map Reason.code =
    [0x01, 0x02, 0x03, 0x04, 0x05, 0x06, 0x07, 0x08, 0x09, 0x0A, 0x10, 0x11, 0x12, 0x13, 0x14, 0x15, 0x16, 0x17, 0x18,
      0x19, 0x1A]

/-- STATUS_READ answers the 25 words of R172 as they stand once its own frame has been heard, so with the upline
lost condition already clear (R137, read as log 24 says), and TABLE_READ the total number of words of the entries
and at most 27 of them from the word offset, the entries wrapping from the last to entry 0; a table id above 14, and
an index, count or offset outside the table, are refused; nothing else changes (R164, R172). The words of the live
tables: T10, the seven fields with their codes, the flags word, the two uptimes, and the count and the twelve
uptimes of the start history, oldest first, unused ones 0 (R58); T11, with the stop spacing remaining at the reading
(R33, R51); T12, six words a request, and six zeros beyond the last (R96); T13, the rate in two's complement (R4); a
feeder record, with the spacing remaining (R94); the last mode check (R172). An entry of a settings table is read by
its index (R164), and every enumeration by the number that its rule gives it. Every answer is that of the frame
heard: the receiver of U in HUNT, the upline quiet timer restarted, the upline lost condition clear, and the frame
offered for mirroring (R128, R131, R137, R150). -/
def Obligations.ReadsAnswered : Prop :=
  (∀ (h : ReqHead) (s : State), Asked h s.part →
    (∃ t : State, exec (.statusRead h) s = .next t ∧ t.pending = s.pending ∧
      OnlyReply (manageFrame h 0x01 []) s.part t.part (replyTo h .accepted 0 (wordsBytes
        ([natWord s.part.mgmt.mode.code, natWord s.part.mgmt.addrMode.code, s.part.plant.events.pending,
          conditionSummary s.part.heard, flagWord s.part.cal.clockSet, natWord s.part.cal.day.val,
          natWord s.part.cal.minute, natWord s.part.cal.second, natWord s.part.cal.cls.code,
          s.part.cal.uptime.extractLsb' 16 16, s.part.cal.uptime.extractLsb' 0 16,
          natWord s.part.mgmt.storeState.code, natWord s.part.mgmt.outcome.code] ++
          s.part.mgmt.lastCheck.words ++ s.part.plant.feedA.words s.part.cal.uptime ++
          s.part.plant.feedB.words s.part.cal.uptime)))) ∧
    ∀ (table first count : Byte) (offset : Word) (f : Frame),
      f = manageFrame h 0x02 ([table, first, count] ++ wordBytes offset) →
        ∃ t : State, exec (.tableRead h table first count offset) s = .next t ∧ t.pending = s.pending ∧
        (14 < table.toNat → OnlyReply f s.part t.part (replyTo h .refused Reason.badTable.code [])) ∧
        (table.toNat ≤ 14 →
          (tableSize table.toNat ≤ first.toNat ∨ count = 0 ∨ tableSize table.toNat < count.toNat ∨
            count.toNat * entryWords table.toNat ≤ offset.toNat →
            OnlyReply f s.part t.part (replyTo h .refused Reason.badIndex.code [])) ∧
          (first.toNat < tableSize table.toNat → count ≠ 0 → count.toNat ≤ tableSize table.toNat →
            offset.toNat < count.toNat * entryWords table.toNat → ∀ run : List Word,
            run = ((List.range count.toNat).flatMap fun i =>
              tableEntry s.part table.toNat ((first.toNat + i) % tableSize table.toNat)) →
            run.length = count.toNat * entryWords table.toNat ∧
            OnlyReply f s.part t.part (replyTo h .accepted 0
              (wordsBytes (natWord run.length :: (run.drop offset.toNat).take 27)))))) ∧
  (∀ (s : Part) (long : Uptime → List Word) (left : Timer → Word),
    (∀ u : Uptime, long u = [u.extractLsb' 16 16, u.extractLsb' 0 16]) →
    (left none = 0 ∧ ∀ e : Uptime, left (some e) = (e - s.cal.uptime).extractLsb' 0 16) →
    (∀ (i : Fin 32) (q : Pump), q = s.plant.pump i → q.history.length ≤ 12 → tableEntry s 10 i.val =
      [natWord q.state.code, natWord q.owner.code, natWord q.feedback.code, natWord q.cause.code, natWord q.retries,
        if q.holds .run = true then 1 else if q.holds .stop = true then 2 else 0,
        flagBit (assigned s.tab i) 0 ||| flagBit q.localSel 1 ||| flagBit q.warn 2 |||
          flagBit (q.cmd.map Command.progress == some .inTransit) 3 |||
          flagBit (q.cmd.map Command.progress == some .sent) 4 ||| flagBit q.uncommanded 5 |||
          flagBit q.stopRecorded 6 ||| flagBit q.minRunMet 7] ++
        long q.runStart ++ long q.stopAt ++ [natWord q.history.length] ++
        (q.history ++ List.replicate (12 - q.history.length) 0).flatMap long) ∧
    (∀ (k : Fin 8) (l : StageLive), l = s.plant.stage k → tableEntry s 11 k.val =
      [natWord l.d0, natWord l.d1, natWord l.d2, natWord l.d3, natWord l.w, natWord l.override.code,
        natWord l.advice.code, natWord l.adviceSlot, flagWord l.shortfall, left l.spacingT, natWord l.cause.code]) ∧
    (∀ i : Nat, (s.plant.queue.length ≤ i → tableEntry s 12 i = [0, 0, 0, 0, 0, 0]) ∧
      ∀ e : Request, s.plant.queue[i]? = some e → tableEntry s 12 i =
        [flagBit true 0 ||| flagBit e.blocking 1, natWord e.pump.val, if e.feeder = .b then 1 else 0,
          natWord e.cls.code, natWord e.bypass, natWord e.rank]) ∧
    (∀ (r : Fin 10) (l : ResLive), l = s.levels[r] → tableEntry s 13 r.val =
      [natWord l.level, natWord l.state.code, BitVec.ofInt 16 l.rate] ++ long l.lastGood ++
        [natWord l.sampleLevel] ++ long l.sampleTime) ∧
    (∀ l : FeederLive, l.words s.cal.uptime =
      [natWord l.committed, flagWord l.busy, natWord l.holder.val, flagWord l.released, left l.spacingT]) ∧
    (∀ i : Fin 128, tableEntry s 0 i.val = s.tab.t0[i].words) ∧
    (∀ i : Fin 10, tableEntry s 1 i.val = s.tab.t1[i].words) ∧
    (∀ i : Fin 8, tableEntry s 2 i.val = s.tab.t2[i].words) ∧
    (∀ i : Fin 32, tableEntry s 3 i.val = s.tab.t3[i].words) ∧
    tableEntry s 4 0 = s.tab.t4a.words ∧ tableEntry s 4 1 = s.tab.t4b.words ∧
    (∀ i : Fin 24, tableEntry s 5 i.val = s.tab.t5[i].words) ∧
    (∀ i : Fin 7, tableEntry s 6 i.val = [natWord s.tab.t6[i].val]) ∧
    (∀ i : Fin 8, tableEntry s 7 i.val = s.tab.t7[i].words) ∧
    (∀ i : Fin 4, tableEntry s 8 i.val = s.tab.t8[i].words) ∧
    tableEntry s 9 0 = s.tab.t9.words ∧ ∀ i : Fin 32, tableEntry s 14 i.val = long s.tab.t14[i]) ∧
  (ModeCheck.none.words = [0, 0] ∧ ModeCheck.passed.words = [0, 1] ∧
    ∀ n i : Nat, (ModeCheck.inconsistent n i).words = [natWord n, natWord i]) ∧
  ([PumpState.unseen, .off, .resting, .queued, .starting, .running, .stopping, .stopFailed, .tripped, .lockedOut].map
      PumpState.code = List.range 10 ∧
    [Ownership.auto, .manual, .outOfService].map Ownership.code = List.range 3 ∧
    [Feedback.none, .stopped, .running].map Feedback.code = List.range 3 ∧
    [TripCause.none, .starterTrip, .noFeedback, .lostRun, .refused].map TripCause.code = List.range 5 ∧
    [Override.none, .overflow, .dryRun, .staleHold, .noLevel].map Override.code = List.range 5 ∧
    [Advice.none, .start, .stop].map Advice.code = List.range 3 ∧
    [Cause.none, .deliveryLevel, .deliveryState, .suctionLevel, .suctionState, .classChange, .tableWrite, .clockSet,
      .modeEntry].map Cause.code = List.range 9 ∧
    [ReqClass.recover, .normal, .precharge].map ReqClass.code = List.range 3 ∧
    [ResState.unknown, .lowAlarm, .normal, .highAlarm, .stale].map ResState.code = List.range 5 ∧
    [TariffClass.cheap, .normal, .peak].map TariffClass.code = List.range 3 ∧
    [Mode.passive, .advisory, .settling, .active].map Mode.code = List.range 4 ∧
    [AddrMode.commissioning, .service].map AddrMode.code = List.range 2 ∧
    [StoreState.valid, .invalid, .saving].map StoreState.code = List.range 3 ∧
    [StoreOutcome.none, .done, .failed, .loadFailed].map StoreOutcome.code = List.range 4)

/-- TABLE_WRITE: refused for its form, while a save is in flight, where it changes a structural field outside
PASSIVE (every field of T0, enabled and kind of T1, enabled, reservoirs and pump count of T2, station, point and
feeder of T3, service address of T9; naming the first such entry in request order: log 22), and for its content
(naming the entry); otherwise every table is written as judged, each block has completed the write, and the reply
says whether a value was clamped (R165); the class, its boundary mark, the upline quiet timer, the upline lost
condition, the records and the events are those that the completions leave, but for a MIRROR_DROP that the mirroring
of the request itself can raise by the windows as written (R150; log 25). The form is tested segment by segment (log
23). The tables are judged in order of table id, T5 and T6 together, and the first refusal decides (R165 step 4).
The completions: reservoir records (R12, R13, R14), pump slots, retry counts, ratings and start limits (R55, R56,
R108), lost status points (R142), the upline quiet timer (R137), the queue, its blocking flags and the scans (R98,
R107), and the stage records and evaluations (R34, R35). The uptimes of run start and of stop of a slot that becomes
unassigned are read as 0: log 18. Their order is read from R165 step 5 (log 14); the queue is re-sorted with the
tables, so that a request entered or reclassed by the same write joins its rank behind those of its class; a minute
boundary that is due is taken before a write of T5 or T6 (log 10); one scan of each feeder follows a write of both
the class order code and the bypass limit (log 44). -/
def Obligations.TableWriteJudged : Prop :=
  (∀ (h : ReqHead) (segs : List Segment) (s : State), Asked h s.part → (Instr.tableWrite h segs).wf = true →
    segs ≠ [] → ∀ f : Frame, f = manageFrame h 0x03 (segmentsBytes segs) →
      ∃ t : State, exec (.tableWrite h segs) s = .next t ∧ t.pending = s.pending ∧
      ∀ form : WriteForm, parseArguments 0x03 h.tag (segmentsBytes segs) = .request h.tag (.tableWrite form) →
      (∀ r : Reason, form = .refused r → OnlyReply f s.part t.part (replyTo h .refused r.code [])) ∧
      ∀ (gs : List Segment) (rows : List Row), form = .segments gs → rows = rowsOf gs →
        (s.part.mgmt.store.saving ≠ none →
          OnlyReply f s.part t.part (replyTo h .refused Reason.busy.code [])) ∧
        (s.part.mgmt.store.saving = none →
          (∀ r : Row, s.part.mgmt.mode ≠ .passive → rows.find? (changesStructure s.part.tab) = some r →
            OnlyReply f s.part t.part (replyTo h .refused Reason.wrongMode.code
              [BitVec.ofNat 8 r.table, BitVec.ofNat 8 r.index])) ∧
          (s.part.mgmt.mode = .passive ∨ (∀ r ∈ rows, changesStructure s.part.tab r = false) →
            (∀ (r : Reason) (table index : Nat), judge s.part rows = .refused r table index →
              OnlyReply f s.part t.part (replyTo h .refused r.code
                [BitVec.ofNat 8 table, BitVec.ofNat 8 index])) ∧
            ∀ (new : Settings) (clamped : Bool), judge s.part rows = .passed new clamped →
              t.part.tab = new ∧ t.part.mgmt = s.part.mgmt ∧ t.part.power = s.part.power ∧
              t.part.free = s.part.free ∧ t.part.cal.uptime = s.part.cal.uptime ∧
              t.part.cal.clockSet = s.part.cal.clockSet ∧ t.part.cal.day = s.part.cal.day ∧
              t.part.cal.minute = s.part.cal.minute ∧ t.part.cal.second = s.part.cal.second ∧
              t.part.cal = (applyWrite rows new s.part.heard).cal ∧
              t.part.line.quietT = (applyWrite rows new s.part.heard).line.quietT ∧
              t.part.line.uplineLost = (applyWrite rows new s.part.heard).line.uplineLost ∧
              EventsAfter h t.part (settlePart (applyWrite rows new s.part.heard)).plant.events
                t.part.plant.events ∧
              Answered f (settlePart (applyWrite rows new s.part.heard)) t.part
                (replyTo h (if clamped = true then .acceptedClamped else .accepted) 0 []) ∧
              SameLine s.part.line t.part.line ∧
              Replied s.part t.part
                (replyTo h (if clamped = true then .acceptedClamped else .accepted) 0 []) ∧
              t.part.levels = (applyWrite rows new s.part.heard).levels ∧
              SameRecords (settlePart (applyWrite rows new s.part.heard)).plant t.part.plant))) ∧
  (∀ (tab : Settings) (r : Row), changesStructure tab r = true ↔ ∃ j : Nat,
     ((r.table = 0 ∧ j ≤ 6) ∨ (r.table = 1 ∧ j ≤ 1) ∨ (r.table = 2 ∧ j ≤ 3) ∨ (r.table = 3 ∧ j ≤ 2) ∨
       (r.table = 9 ∧ j = 0)) ∧ field r.words j ≠ field (tab.entry r.table r.index) j) ∧
  (∀ (s : Part) (rows : List Row) (t5 : Vector WindowEntry 24),
     t5 = (if touches rows 5 || touches rows 6 then ((judgeT5 s.tab rows).table?.map Prod.fst).getD s.tab.t5
       else s.tab.t5) →
     (judge s rows).refusal = List.findSome? id
       [if touches rows 0 then (judgeT0 s.tab rows).refusal else none,
        if touches rows 1 then (judgeT1 s.tab rows).refusal else none,
        if touches rows 2 then (judgeT2 s.tab rows).refusal else none,
        if touches rows 3 then (judgeT3 s rows).refusal else none,
        if touches rows 4 then (judgeT4 s.tab rows).refusal else none,
        if touches rows 5 || touches rows 6 then (judgeT5 s.tab rows).refusal else none,
        if touches rows 5 || touches rows 6 then (judgeT6 s.tab t5 rows).refusal else none,
        if touches rows 7 then (judgeT7 s.tab rows).refusal else none,
        if touches rows 8 then (judgeT8 s.tab rows).refusal else none,
        if touches rows 9 then (judgeT9 s rows).refusal else none] ∧
     ∀ (new : Settings) (clamped : Bool), judge s rows = .passed new clamped →
       ∃ c0 c1 c2 c3 c4 c5 c6 c7 c8 c9 : Bool,
         clamped = (c0 || c1 || c2 || c3 || c4 || c5 || c6 || c7 || c8 || c9) ∧
         (if touches rows 0 then judgeT0 s.tab rows = .passed new.t0 c0 else new.t0 = s.tab.t0 ∧ c0 = false) ∧
         (if touches rows 1 then judgeT1 s.tab rows = .passed new.t1 c1 else new.t1 = s.tab.t1 ∧ c1 = false) ∧
         (if touches rows 2 then judgeT2 s.tab rows = .passed new.t2 c2 else new.t2 = s.tab.t2 ∧ c2 = false) ∧
         (if touches rows 3 then judgeT3 s rows = .passed new.t3 c3 else new.t3 = s.tab.t3 ∧ c3 = false) ∧
         (if touches rows 4 then judgeT4 s.tab rows = .passed (new.t4a, new.t4b) c4
           else new.t4a = s.tab.t4a ∧ new.t4b = s.tab.t4b ∧ c4 = false) ∧
         (if touches rows 5 || touches rows 6 then judgeT5 s.tab rows = .passed new.t5 c5 ∧
             judgeT6 s.tab new.t5 rows = .passed new.t6 c6
           else new.t5 = s.tab.t5 ∧ c5 = false ∧ new.t6 = s.tab.t6 ∧ c6 = false) ∧
         (if touches rows 7 then judgeT7 s.tab rows = .passed new.t7 c7 else new.t7 = s.tab.t7 ∧ c7 = false) ∧
         (if touches rows 8 then judgeT8 s.tab rows = .passed new.t8 c8 else new.t8 = s.tab.t8 ∧ c8 = false) ∧
         (if touches rows 9 then judgeT9 s rows = .passed new.t9 c9 else new.t9 = s.tab.t9 ∧ c9 = false) ∧
         new.t14 = newT14 s.tab rows) ∧
  (∀ (old : Settings) (s : Part) (r : Fin 10) (a b : ResEntry) (l new : ResLive) (y z : Plant),
     a = old.t1[r] → b = s.tab.t1[r] → l = s.levels[r] →
     new = (if a.enabled ≠ b.enabled ∨ a.kind ≠ b.kind then
         if b.enabled = true ∧ b.kind = .unmetered then { level := b.fs, state := .normal } else {}
       else if b.enabled = false then l
       else if b.kind = .unmetered then { l with level := b.fs }
       else if a.fs = b.fs ∧ a.la = b.la ∧ a.ha = b.ha ∧ a.ah = b.ah then l
       else { l with
         level := min l.level b.fs, sampleLevel := min l.sampleLevel b.fs
         state := if l.state = .unknown ∨ l.state = .stale then l.state else arrivalState b l (min l.level b.fs) }) →
     y = (if new.state = .lowAlarm ∧ l.state ≠ .lowAlarm then escalate s.view r s.plant else s.plant) →
     z = (if new.state ≠ l.state ∧ (new.state = .lowAlarm ∨ new.state = .highAlarm) then y.raise .levelAlarm
       else y) →
     reservoirWrite old s r = { s with levels := s.levels.set r new, plant := z }) ∧
  (∀ (old : Settings) (rows : List Row) (v : View) (x : Plant), ∃ y : Plant,
     pumpWrite old rows v x = reconcileAll v (stageList.filter fun k => slots.any fun p => stageOf p == k &&
       touchesEntry rows 3 p.val && assigned v.tab p &&
       decide (old.t3[p].startsPerHour ≤ (y.pump p).history.length) &&
       decide ((y.pump p).history.length < v.tab.t3[p].startsPerHour)) y ∧
     y.stages = x.stages ∧ y.events = x.events ∧
     (∀ (p : Fin 32) (q : Pump),
       q = (if assigned old p = assigned v.tab p then x.pump p
         else { state := if assigned v.tab p = true then .unseen else .off, owner := v.tab.t3[p].defaultOwner }) →
       y.pump p = { q with
         retries := if touchesEntry rows 3 p.val = true then min q.retries v.tab.t3[p].retryLimit
           else q.retries }) ∧
     (touches rows 2 = true ∨ touches rows 3 = true →
       ∀ f : Feeder, (y.feeder f).committed = committedPower v.tab y f) ∧
     (∀ (f : Feeder) (p : Fin 32), (x.feeder f).busy = true → (x.feeder f).holder = p →
       (x.feeder f).released = false → assigned old p = true → assigned v.tab p = false →
       if (x.feeder f).spacingT = none then (y.feeder f).busy = false else (y.feeder f).released = true) ∧
     ((∀ p : Fin 32, assigned old p = assigned v.tab p) → y.queue = x.queue ∧
       ((x.queue.map Request.pump).Nodup → ∀ e ∈ x.queue, touchesEntry rows 3 e.pump.val = true →
         old.t3[e.pump].rating ≠ v.tab.t3[e.pump].rating → (y.feeder e.feeder).scanDue = true))) ∧
  (∀ (old : Settings) (v : View) (x : Plant) (p : Fin 32) (lost : Nat → Bool),
     (∀ kind : Nat, lost kind = true ↔
       (∃ i : Fin 128, old.t0[i].used = true ∧ old.t0[i].kind = kind ∧ old.t0[i].target = p.val) ∧
       ∀ i : Fin 128, ¬(v.tab.t0[i].used = true ∧ v.tab.t0[i].kind = kind ∧ v.tab.t0[i].target = p.val)) →
     ∀ y z : Plant, y = (if lost 3 = true then warnReport v p false x else x) →
       z = (if lost 4 = true then localReport v p false y else y) →
       lostPoints old v x p = if lost 2 = true then tripReport v p false z else z) ∧
  (∀ (rows : List Row) (v : View) (x : Plant), arbiterWrite rows v x = { x with
     queue := if touches rows 9 then x.queue.map fun e =>
         { e with blocking := decide (v.tab.t9.bypassLimit ≤ e.bypass) }
       else x.queue
     feedA := { x.feedA with scanDue := x.feedA.scanDue || touchesEntry rows 4 0 || touches rows 9 }
     feedB := { x.feedB with scanDue := x.feedB.scanDue || touchesEntry rows 4 1 || touches rows 9 } }) ∧
  (∀ (old new : Nat) (s : Part), quietWrite old new s =
     if new = 0 then { s with line := { s.line with quietT := none, uplineLost := false } }
     else if old = 0 then { s with line := { s.line with quietT := startTimer s.cal.uptime new } }
     else s) ∧
  (∀ (old : Settings) (rows : List Row) (v : View) (x y : Plant),
     y = { x with stages := Vector.ofFn fun k => if old.t2[k].enabled = v.tab.t2[k].enabled then x.stages[k]
       else { cause := .tableWrite } } →
     demandWrite old rows v x = (stageList.filter fun k => touchesEntry rows 2 k.val ||
       touchesEntry rows 1 v.tab.t2[k].delivery.val || touchesEntry rows 1 v.tab.t2[k].suction.val ||
       touches rows 5 || touches rows 6).foldl (evaluate v .tableWrite) y) ∧
  ∀ (rows : List Row) (new : Settings) (s s0 s1 s2 s3 s4 s5 s6 : Part) (calendar : Bool),
    calendar = (touches rows 5 || touches rows 6) →
    s0 = (if calendar = true then settlePart (boundaryEvent s) else s) →
    s1 = (reservoirList.filter fun r => touchesEntry rows 1 r.val).foldl (reservoirWrite s.tab)
      { s0 with tab := new, plant := { s0.plant with
        queue := if new.t9.classOrder = s.tab.t9.classOrder then s0.plant.queue
          else resort new.t9.classOrder s0.plant.queue } } →
    s2 = { s1 with plant := pumpWrite s.tab rows s1.view s1.plant } →
    s3 = (if touches rows 0 = true then { s2 with plant := slots.foldl (lostPoints s.tab s2.view) s2.plant }
      else s2) →
    s4 = (if touches rows 9 = true then quietWrite s.tab.t9.quietTime new.t9.quietTime s3 else s3) →
    s5 = settlePart { s4 with plant := arbiterWrite rows s4.view s4.plant } →
    s6 = (if calendar = true then { s5 with cal := { s5.cal with
      cls := classAt new s5.cal, boundaryDue := false } } else s5) →
    applyWrite rows new s = { s6 with plant := demandWrite s.tab rows s6.view s6.plant }

/-- MODE_SET: a value above 3 and SETTLING are refused; the present mode is accepted without a change; PASSIVE and
ADVISORY are entered; ACTIVE is refused in COMMISSIONING, entered where the consistency checks pass, and refused
with the number and index of the first failure where they do not, the outcome of the checks being kept (R167, R168).
The checks, in their order and by ascending index (R167): 1 an enabled stage without an enabled delivery and an
enabled suction reservoir; 2 an enabled METERED reservoir that an enabled stage uses, without a used LEVEL entry in
T0; 3 an assigned pump without a used RUN_FEEDBACK entry; 4 an assigned pump whose rating is above its feeder's
budget; 5 a T9 without a service or a notice address, with index 0 (R161). A slot is assigned where its stage is
enabled and its position below the stage's pump count (R30, R56). Every answer is that of the frame heard: the
receiver of U in HUNT, the upline quiet timer restarted, the upline lost condition clear, and the frame offered for
mirroring (R128, R131, R137, R150). -/
def Obligations.ModeSetTaken : Prop :=
  (∀ (tab : Settings) (bad : Nat → Nat → Prop),
    (∀ n i : Nat, bad n i ↔
      (n = 1 ∧ ∃ k : Fin 8, k.val = i ∧ tab.t2[k].enabled = true ∧
        ¬(tab.t1[tab.t2[k].delivery].enabled = true ∧ tab.t1[tab.t2[k].suction].enabled = true)) ∨
      (n = 2 ∧ ∃ r : Fin 10, r.val = i ∧ tab.t1[r].enabled = true ∧ tab.t1[r].kind = .metered ∧
        (∃ k : Fin 8, tab.t2[k].enabled = true ∧ (tab.t2[k].delivery = r ∨ tab.t2[k].suction = r)) ∧
        ∀ j : Fin 128, ¬(tab.t0[j].used = true ∧ tab.t0[j].kind = 0 ∧ tab.t0[j].target = r.val)) ∨
      (n = 3 ∧ ∃ p : Fin 32, p.val = i ∧ assigned tab p = true ∧
        ∀ j : Fin 128, ¬(tab.t0[j].used = true ∧ tab.t0[j].kind = 1 ∧ tab.t0[j].target = p.val)) ∨
      (n = 4 ∧ ∃ p : Fin 32, p.val = i ∧ assigned tab p = true ∧
        (tab.feeder tab.t3[p].feeder).budget < tab.t3[p].rating) ∨
      (n = 5 ∧ i = 0 ∧ (tab.t9.service = 0 ∨ tab.t9.notice = 0))) →
    ((∀ n i : Nat, ¬bad n i) → modeCheck tab = .passed) ∧
    ∀ n i : Nat, bad n i → (∀ m j : Nat, bad m j → n < m ∨ (n = m ∧ i ≤ j)) → modeCheck tab = .inconsistent n i) ∧
  (∀ (tab : Settings) (p : Fin 32) (k : Fin 8), k.val = p.val / 4 → stageOf p = k ∧
    (assigned tab p = true ↔ tab.t2[k].enabled = true ∧ p.val % 4 < tab.t2[k].n)) ∧
  ∀ (h : ReqHead) (b : Byte) (s : State) (f : Frame), Asked h s.part → f = manageFrame h 0x04 [b] →
    ∃ t : State, exec (.modeSet h b) s = .next t ∧ t.pending = s.pending ∧
      (3 < b.toNat → OnlyReply f s.part t.part (replyTo h .refused Reason.badValue.code [])) ∧
      (b = 2 → OnlyReply f s.part t.part (replyTo h .refused Reason.illegal.code [])) ∧
      ∀ m : Mode, m ≠ .settling → b.toNat = m.code →
        (s.part.mgmt.mode = m → OnlyReply f s.part t.part (replyTo h .accepted 0 [])) ∧
        (s.part.mgmt.mode ≠ m →
          (m = .active → s.part.mgmt.addrMode = .commissioning →
            OnlyReply f s.part t.part (replyTo h .refused Reason.wrongMode.code [])) ∧
          (m = .active → s.part.mgmt.addrMode = .service → ∀ check index : Nat,
            modeCheck s.part.tab = .inconsistent check index →
            Replied s.part t.part (replyTo h .refused Reason.inconsistent.code
              [BitVec.ofNat 8 check, BitVec.ofNat 8 index]) ∧
            t.part.mgmt = { s.part.mgmt with lastCheck := .inconsistent check index } ∧
            Answered f { s.part.heard with mgmt := t.part.mgmt } t.part (replyTo h .refused Reason.inconsistent.code
              [BitVec.ofNat 8 check, BitVec.ofNat 8 index]) ∧
            SameRecords s.part.plant t.part.plant ∧ SameLine s.part.line t.part.line ∧
            t.part.tab = s.part.tab ∧ t.part.cal = s.part.cal ∧ t.part.levels = s.part.levels) ∧
          (m = .active → s.part.mgmt.addrMode = .service → modeCheck s.part.tab = .passed →
            t.part.mgmt = { s.part.mgmt with mode := .active, settleT := none, lastCheck := .passed }) ∧
          (m ≠ .active → t.part.mgmt = { s.part.mgmt with mode := m, settleT := none }) ∧
          (m ≠ .active ∨ (s.part.mgmt.addrMode = .service ∧ modeCheck s.part.tab = .passed) →
            Replied s.part t.part (replyTo h .accepted 0 []) ∧
            Answered f { settlePart (changeMode m s.part.heard) with mgmt := t.part.mgmt } t.part
              (replyTo h .accepted 0 []) ∧
            SameRecords (settlePart (changeMode m s.part.heard)).plant t.part.plant ∧
            SameLine s.part.line t.part.line ∧ t.part.tab = s.part.tab ∧ t.part.cal = s.part.cal ∧
            t.part.levels = s.part.levels))

/-- Leaving ACTIVE empties the start queue, leaves no pump QUEUED, and clears the awaiting RUN of every STARTING
pump and every awaiting STOP (R168). Every change of mode, to each mode from each other: from ACTIVE every pump's
request is withdrawn, a scan of each feeder asked for, and every awaiting command cleared (R71, R106, R168); the
advised fields of every stage become NONE and 0, and its shortfall flag is kept at a change to ADVISORY or ACTIVE
and cleared at one to PASSIVE or SETTLING (R91); the new mode stands, the settle timer idle; the stages of the pumps
that leaving ACTIVE changed are reconciled in the new mode; and a change to ADVISORY or ACTIVE then evaluates every
enabled stage with cause MODE_ENTRY (R35, R167). That those reconciliations come before these evaluations is read
from R91 and R168: log 35; that several stages are reconciled in ascending order, log 13. -/
def Obligations.ModeChangeEffects : Prop :=
  (∀ (m : Mode) (s : Part), QueueAgrees s.plant → s.mgmt.mode = .active → m = .passive ∨ m = .advisory →
     (changeMode m s).plant.queue = [] ∧ (changeMode m s).mgmt.mode = m ∧
     ∀ p : Fin 32, ((changeMode m s).plant.pump p).state ≠ .queued ∧
       (((changeMode m s).plant.pump p).state = .starting → ((changeMode m s).plant.pump p).awaits .run = false) ∧
       ((changeMode m s).plant.pump p).awaits .stop = false) ∧
  (∀ (m : Mode) (s : Part) (v : View) (x y z told : Plant),
    v = { s.view with mode := m } →
    x = slots.foldl (fun w p => withdraw s.view p w) s.plant →
    y = (if s.mgmt.mode = .active then slots.foldl (fun w p => clearAwaiting s.view p w) { x with
        feedA := { x.feedA with scanDue := true }, feedB := { x.feedB with scanDue := true } }
      else s.plant) →
    (∀ k : Fin 8, z.stage k = { y.stage k with
      advice := .none, adviceSlot := 0
      shortfall := if m = .advisory ∨ m = .active then (y.stage k).shortfall else false }) →
    z = { y with stages := z.stages } →
    told = (if s.mgmt.mode = .active then reconcileAll v (stageList.filter fun k => slots.any fun p =>
        stageOf p == k && ((s.plant.pump p).state == .queued || (s.plant.pump p).awaits .run ||
          (s.plant.pump p).awaits .stop)) z
      else z) →
    changeMode m s = { s with
      mgmt := { s.mgmt with mode := m, settleT := none }
      plant := if m = .advisory ∨ m = .active then evaluateAll v .modeEntry told else told }) ∧
  ∀ (v : View) (ks : List (Fin 8)) (x : Plant),
    reconcileAll v ks x = ks.foldl (fun y k => reconcile v k y) x

/-- OWNER_SET and TRIP_RESET: a slot outside 0..31 or unassigned is refused with BAD_INDEX; then an ownership above
2 with BAD_VALUE, and a pump in neither TRIPPED nor LOCKED_OUT with ILLEGAL. Accepted, OWNER_SET changes the
ownership with its effects on the record, nothing where it is the present one, and TRIP_RESET clears the retry and
trip counts and sends the pump by the rest test (R117, R153). Every answer is that of the frame heard: the receiver
of U in HUNT, the upline quiet timer restarted, the upline lost condition clear, and the frame offered for mirroring
(R128, R131, R137, R150). -/
def Obligations.PumpRequestsTaken : Prop :=
  ∀ (h : ReqHead) (slot : Byte) (s : State), Asked h s.part →
    (∀ (owner : Byte) (f : Frame), f = manageFrame h 0x05 [slot, owner] →
      ∃ t : State, exec (.ownerSet h slot owner) s = .next t ∧ t.pending = s.pending ∧
      ((∀ p : Fin 32, p.val = slot.toNat → assigned s.part.tab p = false) →
        OnlyReply f s.part t.part (replyTo h .refused Reason.badIndex.code [])) ∧
      ∀ p : Fin 32, p.val = slot.toNat → assigned s.part.tab p = true →
        (2 < owner.toNat → OnlyReply f s.part t.part (replyTo h .refused Reason.badValue.code [])) ∧
        ∀ o : Ownership, owner.toNat = o.code →
          ((s.part.plant.pump p).owner = o → OnlyReply f s.part t.part (replyTo h .accepted 0 [])) ∧
          ((s.part.plant.pump p).owner ≠ o → Replied s.part t.part (replyTo h .accepted 0 []) ∧
            Answered f { s.part.heard with plant := settle s.part.view (finishPump s.part.view p
              (changeOwner s.part.view p o s.part.plant)) } t.part (replyTo h .accepted 0 []) ∧
            SameRecords (settle s.part.view (finishPump s.part.view p
              (changeOwner s.part.view p o s.part.plant))) t.part.plant ∧
            SameLine s.part.line t.part.line ∧ t.part.tab = s.part.tab ∧ t.part.cal = s.part.cal ∧
            t.part.levels = s.part.levels ∧ t.part.mgmt = s.part.mgmt)) ∧
    ∀ f : Frame, f = manageFrame h 0x0A [slot] →
      ∃ t : State, exec (.tripReset h slot) s = .next t ∧ t.pending = s.pending ∧
      ((∀ p : Fin 32, p.val = slot.toNat → assigned s.part.tab p = false) →
        OnlyReply f s.part t.part (replyTo h .refused Reason.badIndex.code [])) ∧
      ∀ p : Fin 32, p.val = slot.toNat → assigned s.part.tab p = true →
        ((s.part.plant.pump p).state ≠ .tripped → (s.part.plant.pump p).state ≠ .lockedOut →
          OnlyReply f s.part t.part (replyTo h .refused Reason.illegal.code [])) ∧
        ((s.part.plant.pump p).state = .tripped ∨ (s.part.plant.pump p).state = .lockedOut →
          ∃ y : Plant, y = s.part.plant.setPump p { s.part.plant.pump p with
              retries := 0, retryT := none, tripCount := 0, tripInd := false } ∧
            Replied s.part t.part (replyTo h .accepted 0 []) ∧
            Answered f { s.part.heard with plant := settle s.part.view (finishPump s.part.view p
              (restTest s.part.view p y)) } t.part (replyTo h .accepted 0 []) ∧
            SameRecords (settle s.part.view (finishPump s.part.view p (restTest s.part.view p y))) t.part.plant ∧
            SameLine s.part.line t.part.line ∧ t.part.tab = s.part.tab ∧ t.part.cal = s.part.cal ∧
            t.part.levels = s.part.levels ∧ t.part.mgmt = s.part.mgmt)

/-- A change of ownership: leaving AUTO takes a QUEUED pump out of the queue to OFF and clears an awaiting command;
leaving MANUAL for OUT_OF_SERVICE clears an awaiting command; a command in transit or sent is kept, and no other
change clears one (R71, R153). The withdrawal of a QUEUED pump (R66, R106), and the clearing of an awaiting command
by the pump's state: a RUN in STARTING gives OFF, the start slot handed back; a STOP in STOPPING gives RUNNING with
proving restarted where the last feedback is RUNNING and the rest test otherwise; a STOP in TRIPPED or LOCKED_OUT
leaves the state (R71, R116). -/
def Obligations.OwnerChangeEffects : Prop :=
  (∀ (v : View) (p : Fin 32) (o : Ownership) (x : Plant) (q r : Pump),
    q = x.pump p → r = (changeOwner v p o x).pump p → o ≠ q.owner →
    OnlyPump p x (changeOwner v p o x) ∧ r.owner = o ∧ r.retries = q.retries ∧ r.cause = q.cause ∧
    (q.owner = .auto → q.state = .queued → q.cmd = none → r.state = .off ∧
      (changeOwner v p o x).queue = removeRequest p x.queue) ∧
    (q.owner = .auto ∨ (q.owner = .manual ∧ o = .outOfService) →
      q.state = .starting → q.awaits .run = true → r.state = .off ∧ r.cmd = none) ∧
    (q.owner = .auto ∨ (q.owner = .manual ∧ o = .outOfService) →
      q.state = .stopping → q.awaits .stop = true → q.feedback = .running → r.state = .running ∧ r.cmd = none ∧
      r.runStart = q.runStart ∧ r.minRunMet = q.minRunMet) ∧
    (q.state ≠ .queued → q.awaits .run = false → q.awaits .stop = false → r = { q with owner := o }) ∧
    (q.owner ≠ .auto → o ≠ .outOfService → r = { q with owner := o })) ∧
  ∀ (v : View) (p : Fin 32) (x y : Plant) (q : Pump), q = x.pump p →
    y = x.setPump p { q with cmd := none, startT := none, stopT := none } →
    (q.state ≠ .queued → withdraw v p x = x) ∧
    (q.state = .queued → withdraw v p x = handCommitted v.tab p ((dequeue p x).setPump p
      { q with state := .off, minRestT := none, retryT := none, provingT := none })) ∧
    (q.awaits .run = false → q.awaits .stop = false → clearAwaiting v p x = x) ∧
    (q.awaits .run = true → q.state = .starting → clearAwaiting v p x = handCommitted v.tab p (leaveStarting p
      (x.setPump p { q with cmd := none, startT := none, stopT := none, state := .off, minRestT := none
                            retryT := none, provingT := none }))) ∧
    (q.awaits .stop = true → q.state = .stopping → q.feedback = .running → clearAwaiting v p x =
      handCommitted v.tab p (x.setPump p { q with cmd := none, startT := none, stopT := none, state := .running
                                                  minRestT := none, retryT := none
                                                  provingT := startTimer v.now v.tab.t3[p].provingTime })) ∧
    (q.awaits .stop = true → q.state = .stopping → q.feedback ≠ .running → clearAwaiting v p x = restTest v p y) ∧
    (q.awaits .stop = true → q.state = .tripped ∨ q.state = .lockedOut → clearAwaiting v p x = y)

/-- CLOCK_SET: refused with BAD_VALUE where an argument is outside its range; otherwise the clock is set to the
arguments, uptime is kept, the class is recomputed, and every enabled stage is evaluated with cause CLOCK_SET (R22).
A minute boundary that is due is taken first: where the class of the old clock is not the class held, every enabled
stage is evaluated with CLASS_CHANGE and the scans follow, before the clock is set; a refused request leaves it due
(R27, R28). Of the two orders of R28 it is that in which the step is taken first; that the mark waits for a command
is the model's choice: log 10. Every answer is that of the frame heard: the receiver of U in HUNT, the upline quiet
timer restarted, the upline lost condition clear, and the frame offered for mirroring (R128, R131, R137, R150). -/
def Obligations.ClockSetTaken : Prop :=
  ∀ (h : ReqHead) (day : Byte) (minute : Word) (second : Byte) (s : State) (f : Frame), Asked h s.part →
    f = manageFrame h 0x06 ([day] ++ wordBytes minute ++ [second]) →
      ∃ t : State, exec (.clockSet h day minute second) s = .next t ∧ t.pending = s.pending ∧
      (6 < day.toNat ∨ 1439 < minute.toNat ∨ 59 < second.toNat →
        OnlyReply f s.part t.part (replyTo h .refused Reason.badValue.code [])) ∧
      (day.toNat ≤ 6 → minute.toNat ≤ 1439 → second.toNat ≤ 59 → ∀ y : Plant, BoundaryTaken s.part y →
        Replied s.part t.part (replyTo h .accepted 0 []) ∧
        t.part.cal.uptime = s.part.cal.uptime ∧ t.part.cal.clockSet = true ∧
        t.part.cal.day.val = day.toNat ∧ t.part.cal.minute = minute.toNat ∧
        t.part.cal.second = second.toNat ∧ t.part.cal.boundaryDue = false ∧
        t.part.cal.cls = classAt s.part.tab t.part.cal ∧
        Answered f { s.part.heard with
          cal := t.part.cal
          plant := settle { s.part.view with cls := t.part.cal.cls }
            (evaluateAll { s.part.view with cls := t.part.cal.cls } .clockSet y) } t.part (replyTo h .accepted 0 []) ∧
        SameRecords (settle { s.part.view with cls := t.part.cal.cls }
          (evaluateAll { s.part.view with cls := t.part.cal.cls } .clockSet y)) t.part.plant ∧
        SameLine s.part.line t.part.line ∧ t.part.tab = s.part.tab ∧ t.part.levels = s.part.levels ∧
        t.part.mgmt = s.part.mgmt)

/-- NOTICE_ON, NOTICE_OFF and EVENT_CLEAR: a confirm flag of 0, and NOTICE_ON without a notice address, are refused
with ILLEGAL; NOTICE_ON enables notices with the notified set empty, and places a notice where a flag is pending,
and changes nothing while notices are enabled, which is the model's reading: log 19; NOTICE_OFF disables them and
empties the slot; EVENT_CLEAR takes the flags whose keep-mask bit is 0 out of the pending and the notified set
(R121, R124, R172). The mirroring of the request itself can raise MIRROR_DROP after it, where a window holds its
source (R150). Raising an event sets the flag of its number, and places a notice where notices are enabled, the flag
was not pending and it is not in the notified set (R120, R124). Every answer is that of the frame heard: the
receiver of U in HUNT, the upline quiet timer restarted, the upline lost condition clear, and the frame offered for
mirroring (R128, R131, R137, R150). -/
def Obligations.NoticeRequestsTaken : Prop :=
  (∀ (h : ReqHead) (s : State), Asked h s.part →
    (∀ (confirm : Byte) (f : Frame), f = manageFrame h 0x07 [confirm] →
      ∃ t : State, exec (.noticeOn h confirm) s = .next t ∧ t.pending = s.pending ∧
      (confirm = 0 ∨ s.part.tab.t9.notice = 0 →
        OnlyReply f s.part t.part (replyTo h .refused Reason.illegal.code []) ∧
        EventsAfter h s.part s.part.plant.events t.part.plant.events) ∧
      (confirm ≠ 0 → s.part.tab.t9.notice ≠ 0 → ∀ v : Events,
        v = (if s.part.plant.events.on = true then s.part.plant.events
          else { s.part.plant.events with
            on := true, notified := 0
            waiting := s.part.plant.events.waiting || s.part.plant.events.pending != 0 }) →
        Answered f { s.part.heard with plant := { s.part.plant with events := v } } t.part
          (replyTo h .accepted 0 []) ∧ EventsAfter h s.part v t.part.plant.events)) ∧
    (∀ (confirm : Byte) (f : Frame), f = manageFrame h 0x08 [confirm] →
      ∃ t : State, exec (.noticeOff h confirm) s = .next t ∧ t.pending = s.pending ∧
      (confirm = 0 → OnlyReply f s.part t.part (replyTo h .refused Reason.illegal.code []) ∧
        EventsAfter h s.part s.part.plant.events t.part.plant.events) ∧
      (confirm ≠ 0 → ∀ v : Events,
        v = { s.part.plant.events with on := false, waiting := false } →
        Answered f { s.part.heard with plant := { s.part.plant with events := v } } t.part
          (replyTo h .accepted 0 []) ∧ EventsAfter h s.part v t.part.plant.events)) ∧
    ∀ (keep : Word) (f : Frame), f = manageFrame h 0x09 (wordBytes keep) →
      ∃ t : State, exec (.eventClear h keep) s = .next t ∧ t.pending = s.pending ∧
      Replied s.part t.part (replyTo h .accepted 0 []) ∧ SameLine s.part.line t.part.line ∧
      SameRecords s.part.plant t.part.plant ∧
      (∀ v : Events, v = { s.part.plant.events with
          pending := s.part.plant.events.pending &&& keep
          notified := s.part.plant.events.notified &&& keep } →
        Answered f { s.part.heard with plant := { s.part.plant with events := v } } t.part
          (replyTo h .accepted 0 []) ∧ EventsAfter h s.part v t.part.plant.events) ∧
      t.part.tab = s.part.tab ∧ t.part.cal = s.part.cal ∧ t.part.levels = s.part.levels ∧
      t.part.mgmt = s.part.mgmt) ∧
  ([Event.lineCheck, .forwardDrop, .mirrorDrop, .foreignSource, .commandRefused, .levelAlarm, .levelStale,
    .dryRunStop, .overflowStop, .pumpTrip, .pumpLockout, .stopFail, .uncommandedRun, .shortfall, .uplineLost,
    .settings].map Event.number = List.range 16) ∧
  ∀ (v w : Events) (e : Event), w = v.raise e → w.on = v.on ∧ w.notified = v.notified ∧
    (∀ n : Nat, w.pending.getLsbD n = true ↔ v.pending.getLsbD n = true ∨ n = e.number) ∧
    (w.waiting = true ↔ v.waiting = true ∨ (v.on = true ∧ v.pending.getLsbD e.number = false ∧
      v.notified.getLsbD e.number = false))

/-- ADDRESS_TAKE is refused with WRONG_MODE without a service address, and otherwise makes the address mode SERVICE.
ADDRESS_RELEASE, in either mode and under a check hold, makes the operating mode PASSIVE and the address mode
COMMISSIONING, clears the hold, is answered, and disables notices (R124, R166). Every answer is that of the frame
heard: the receiver of U in HUNT, the upline quiet timer restarted, the upline lost condition clear, and the frame
offered for mirroring (R128, R131, R137, R150). -/
def Obligations.AddressRequestsTaken : Prop :=
  ∀ (h : ReqHead) (s : State),
    (Asked h s.part → ∃ t : State, exec (.addressTake h) s = .next t ∧ t.pending = s.pending ∧
      (s.part.tab.t9.service = 0 → OnlyReply (manageFrame h 0x0B []) s.part t.part
        (replyTo h .refused Reason.wrongMode.code [])) ∧
      (s.part.tab.t9.service ≠ 0 → Replied s.part t.part (replyTo h .accepted 0 []) ∧
        t.part.mgmt = { s.part.mgmt with addrMode := .service } ∧
        Answered (manageFrame h 0x0B []) { s.part.heard with mgmt := t.part.mgmt } t.part (replyTo h .accepted 0 []) ∧
        SameLine s.part.line t.part.line ∧ SameRecords s.part.plant t.part.plant ∧
        t.part.tab = s.part.tab ∧ t.part.cal = s.part.cal ∧ t.part.levels = s.part.levels)) ∧
    (s.part.power = .on → Settled s.part.plant → h.dest = s.part.address →
      s.part.line.replyQueue.length < replyCapacity →
      ∃ t : State, exec (.addressRelease h) s = .next t ∧ t.pending = s.pending ∧
        Replied s.part t.part (replyTo h .accepted 0 []) ∧ t.part.mgmt.addrMode = .commissioning ∧
        t.part.mgmt.mode = .passive ∧ t.part.line.checkHold = false ∧ t.part.plant.events.on = false ∧
        t.part.plant.events.waiting = false ∧
        SameLine s.part.line { t.part.line with checkHold := s.part.line.checkHold } ∧
        (∀ u : Part, u = (if s.part.mgmt.mode = .passive then s.part.heard
            else settlePart (changeMode .passive s.part.heard)) →
          Answered (manageFrame h 0x0C []) { u with
            mgmt := t.part.mgmt
            line := { s.part.heard.line with checkHold := false }
            plant := { u.plant with events := { u.plant.events with on := false, waiting := false } } } t.part
            (replyTo h .accepted 0 [])) ∧
        (s.part.mgmt.mode = .passive → t.part.mgmt = { s.part.mgmt with addrMode := .commissioning } ∧
          SameRecords s.part.plant t.part.plant) ∧
        (s.part.mgmt.mode ≠ .passive →
          t.part.mgmt = { s.part.mgmt with addrMode := .commissioning, mode := .passive, settleT := none } ∧
          SameRecords (settlePart (changeMode .passive s.part.heard)).plant t.part.plant) ∧
        t.part.tab = s.part.tab ∧ t.part.cal = s.part.cal ∧ t.part.levels = s.part.levels)

/-- SETTINGS_SAVE and RESTART are refused with BUSY while a save is in flight or a restart is pending. SETTINGS_SAVE
captures the tables and makes the store SAVING; RESTART sets the restart-pending flag, and its reply is the one at
whose completion the restart takes effect (R162, R170, R171). Every answer is that of the frame heard: the receiver
of U in HUNT, the upline quiet timer restarted, the upline lost condition clear, and the frame offered for mirroring
(R128, R131, R137, R150). -/
def Obligations.SaveAndRestartTaken : Prop :=
  ∀ (h : ReqHead) (s : State), Asked h s.part →
    (s.part.mgmt.store.saving ≠ none ∨ s.part.mgmt.restartPending = true →
      (∃ t : State, exec (.settingsSave h) s = .next t ∧ t.pending = s.pending ∧
        OnlyReply (manageFrame h 0x0D []) s.part t.part (replyTo h .refused Reason.busy.code [])) ∧
      ∃ t : State, exec (.restart h) s = .next t ∧ t.pending = s.pending ∧
        OnlyReply (manageFrame h 0x0E []) s.part t.part (replyTo h .refused Reason.busy.code [])) ∧
    (s.part.mgmt.store.saving = none → s.part.mgmt.restartPending = false →
      (∃ t : State, exec (.settingsSave h) s = .next t ∧ t.pending = s.pending ∧
        Replied s.part t.part (replyTo h .accepted 0 []) ∧
        t.part.mgmt = { s.part.mgmt with
          store := { s.part.mgmt.store with saving := some s.part.tab }, storeState := .saving } ∧
        Answered (manageFrame h 0x0D []) { s.part.heard with mgmt := t.part.mgmt } t.part (replyTo h .accepted 0 []) ∧
        SameLine s.part.line t.part.line ∧ SameRecords s.part.plant t.part.plant ∧
        t.part.tab = s.part.tab ∧ t.part.cal = s.part.cal ∧ t.part.levels = s.part.levels) ∧
      ∃ t : State, exec (.restart h) s = .next t ∧ t.pending = s.pending ∧
        Replied s.part t.part { replyTo h .accepted 0 [] with restart := true } ∧
        t.part.mgmt = { s.part.mgmt with restartPending := true } ∧
        Answered (manageFrame h 0x0E []) { s.part.heard with mgmt := t.part.mgmt } t.part
          { replyTo h .accepted 0 [] with restart := true } ∧
        SameLine s.part.line t.part.line ∧ SameRecords s.part.plant t.part.plant ∧
        t.part.tab = s.part.tab ∧ t.part.cal = s.part.cal ∧ t.part.levels = s.part.levels)
end

