-- ==== Sys2Proof/Laws/State.lean ====
section
/-!
SUPPORT. What each update of a record leaves in each field, true by definition, for `simp`.
-/

namespace Sys2Proof.Machine

/-! ### Power -/

@[simp] theorem Power.resetAsserted_off (b : Bool) : (Power.off b).resetAsserted = b := rfl
@[simp] theorem Power.resetAsserted_held : Power.held.resetAsserted = true := rfl
@[simp] theorem Power.resetAsserted_on : Power.on.resetAsserted = false := rfl
@[simp] theorem Power.applied_off (b : Bool) : (Power.off b).applied = false := rfl
@[simp] theorem Power.applied_held : Power.held.applied = true := rfl
@[simp] theorem Power.applied_on : Power.on.applied = true := rfl

/-! ### Pump records -/

@[simp] theorem Pump.goto_state (q : Pump) (st : PumpState) : (q.goto st).state = st := rfl
@[simp] theorem Pump.goto_owner (q : Pump) (st : PumpState) : (q.goto st).owner = q.owner := rfl
@[simp] theorem Pump.goto_feedback (q : Pump) (st : PumpState) : (q.goto st).feedback = q.feedback := rfl
@[simp] theorem Pump.goto_cause (q : Pump) (st : PumpState) : (q.goto st).cause = q.cause := rfl
@[simp] theorem Pump.goto_retries (q : Pump) (st : PumpState) : (q.goto st).retries = q.retries := rfl
@[simp] theorem Pump.goto_cmd (q : Pump) (st : PumpState) : (q.goto st).cmd = q.cmd := rfl
@[simp] theorem Pump.goto_localSel (q : Pump) (st : PumpState) : (q.goto st).localSel = q.localSel := rfl
@[simp] theorem Pump.goto_warn (q : Pump) (st : PumpState) : (q.goto st).warn = q.warn := rfl
@[simp] theorem Pump.goto_uncommanded (q : Pump) (st : PumpState) : (q.goto st).uncommanded = q.uncommanded := rfl
@[simp] theorem Pump.goto_stopRecorded (q : Pump) (st : PumpState) : (q.goto st).stopRecorded = q.stopRecorded := rfl
@[simp] theorem Pump.goto_minRunMet (q : Pump) (st : PumpState) : (q.goto st).minRunMet = q.minRunMet := rfl
@[simp] theorem Pump.goto_runStart (q : Pump) (st : PumpState) : (q.goto st).runStart = q.runStart := rfl
@[simp] theorem Pump.goto_stopAt (q : Pump) (st : PumpState) : (q.goto st).stopAt = q.stopAt := rfl
@[simp] theorem Pump.goto_history (q : Pump) (st : PumpState) : (q.goto st).history = q.history := rfl
@[simp] theorem Pump.goto_minRunT (q : Pump) (st : PumpState) : (q.goto st).minRunT = q.minRunT := rfl
@[simp] theorem Pump.goto_minRestT (q : Pump) (st : PumpState) : (q.goto st).minRestT = (if st = .resting then q.minRestT else none) := rfl
@[simp] theorem Pump.goto_startT (q : Pump) (st : PumpState) : (q.goto st).startT = q.startT := rfl
@[simp] theorem Pump.goto_stopT (q : Pump) (st : PumpState) : (q.goto st).stopT = q.stopT := rfl
@[simp] theorem Pump.goto_retryT (q : Pump) (st : PumpState) : (q.goto st).retryT = (if st = .tripped then q.retryT else none) := rfl
@[simp] theorem Pump.goto_provingT (q : Pump) (st : PumpState) : (q.goto st).provingT = (if st = .running then q.provingT else none) := rfl
@[simp] theorem Pump.goto_tripCount (q : Pump) (st : PumpState) : (q.goto st).tripCount = q.tripCount := rfl
@[simp] theorem Pump.goto_tripInd (q : Pump) (st : PumpState) : (q.goto st).tripInd = q.tripInd := rfl

@[simp] theorem Pump.dropCmd_state (q : Pump) : q.dropCmd.state = q.state := rfl
@[simp] theorem Pump.dropCmd_owner (q : Pump) : q.dropCmd.owner = q.owner := rfl
@[simp] theorem Pump.dropCmd_feedback (q : Pump) : q.dropCmd.feedback = q.feedback := rfl
@[simp] theorem Pump.dropCmd_cause (q : Pump) : q.dropCmd.cause = q.cause := rfl
@[simp] theorem Pump.dropCmd_retries (q : Pump) : q.dropCmd.retries = q.retries := rfl
@[simp] theorem Pump.dropCmd_cmd (q : Pump) : q.dropCmd.cmd = none := rfl
@[simp] theorem Pump.dropCmd_localSel (q : Pump) : q.dropCmd.localSel = q.localSel := rfl
@[simp] theorem Pump.dropCmd_warn (q : Pump) : q.dropCmd.warn = q.warn := rfl
@[simp] theorem Pump.dropCmd_uncommanded (q : Pump) : q.dropCmd.uncommanded = q.uncommanded := rfl
@[simp] theorem Pump.dropCmd_stopRecorded (q : Pump) : q.dropCmd.stopRecorded = q.stopRecorded := rfl
@[simp] theorem Pump.dropCmd_minRunMet (q : Pump) : q.dropCmd.minRunMet = q.minRunMet := rfl
@[simp] theorem Pump.dropCmd_runStart (q : Pump) : q.dropCmd.runStart = q.runStart := rfl
@[simp] theorem Pump.dropCmd_stopAt (q : Pump) : q.dropCmd.stopAt = q.stopAt := rfl
@[simp] theorem Pump.dropCmd_history (q : Pump) : q.dropCmd.history = q.history := rfl
@[simp] theorem Pump.dropCmd_minRunT (q : Pump) : q.dropCmd.minRunT = q.minRunT := rfl
@[simp] theorem Pump.dropCmd_minRestT (q : Pump) : q.dropCmd.minRestT = q.minRestT := rfl
@[simp] theorem Pump.dropCmd_startT (q : Pump) : q.dropCmd.startT = none := rfl
@[simp] theorem Pump.dropCmd_stopT (q : Pump) : q.dropCmd.stopT = none := rfl
@[simp] theorem Pump.dropCmd_retryT (q : Pump) : q.dropCmd.retryT = q.retryT := rfl
@[simp] theorem Pump.dropCmd_provingT (q : Pump) : q.dropCmd.provingT = q.provingT := rfl
@[simp] theorem Pump.dropCmd_tripCount (q : Pump) : q.dropCmd.tripCount = q.tripCount := rfl
@[simp] theorem Pump.dropCmd_tripInd (q : Pump) : q.dropCmd.tripInd = q.tripInd := rfl

@[simp] theorem Pump.recordStop_state (q : Pump) (now : Uptime) : (q.recordStop now).state = q.state := rfl
@[simp] theorem Pump.recordStop_owner (q : Pump) (now : Uptime) : (q.recordStop now).owner = q.owner := rfl
@[simp] theorem Pump.recordStop_feedback (q : Pump) (now : Uptime) : (q.recordStop now).feedback = q.feedback := rfl
@[simp] theorem Pump.recordStop_cause (q : Pump) (now : Uptime) : (q.recordStop now).cause = q.cause := rfl
@[simp] theorem Pump.recordStop_retries (q : Pump) (now : Uptime) : (q.recordStop now).retries = q.retries := rfl
@[simp] theorem Pump.recordStop_cmd (q : Pump) (now : Uptime) : (q.recordStop now).cmd = q.cmd := rfl
@[simp] theorem Pump.recordStop_localSel (q : Pump) (now : Uptime) : (q.recordStop now).localSel = q.localSel := rfl
@[simp] theorem Pump.recordStop_warn (q : Pump) (now : Uptime) : (q.recordStop now).warn = q.warn := rfl
@[simp] theorem Pump.recordStop_uncommanded (q : Pump) (now : Uptime) : (q.recordStop now).uncommanded = q.uncommanded := rfl
@[simp] theorem Pump.recordStop_stopRecorded (q : Pump) (now : Uptime) : (q.recordStop now).stopRecorded = true := rfl
@[simp] theorem Pump.recordStop_minRunMet (q : Pump) (now : Uptime) : (q.recordStop now).minRunMet = q.minRunMet := rfl
@[simp] theorem Pump.recordStop_runStart (q : Pump) (now : Uptime) : (q.recordStop now).runStart = q.runStart := rfl
@[simp] theorem Pump.recordStop_stopAt (q : Pump) (now : Uptime) : (q.recordStop now).stopAt = now := rfl
@[simp] theorem Pump.recordStop_history (q : Pump) (now : Uptime) : (q.recordStop now).history = q.history := rfl
@[simp] theorem Pump.recordStop_minRunT (q : Pump) (now : Uptime) : (q.recordStop now).minRunT = q.minRunT := rfl
@[simp] theorem Pump.recordStop_minRestT (q : Pump) (now : Uptime) : (q.recordStop now).minRestT = q.minRestT := rfl
@[simp] theorem Pump.recordStop_startT (q : Pump) (now : Uptime) : (q.recordStop now).startT = q.startT := rfl
@[simp] theorem Pump.recordStop_stopT (q : Pump) (now : Uptime) : (q.recordStop now).stopT = q.stopT := rfl
@[simp] theorem Pump.recordStop_retryT (q : Pump) (now : Uptime) : (q.recordStop now).retryT = q.retryT := rfl
@[simp] theorem Pump.recordStop_provingT (q : Pump) (now : Uptime) : (q.recordStop now).provingT = q.provingT := rfl
@[simp] theorem Pump.recordStop_tripCount (q : Pump) (now : Uptime) : (q.recordStop now).tripCount = q.tripCount := rfl
@[simp] theorem Pump.recordStop_tripInd (q : Pump) (now : Uptime) : (q.recordStop now).tripInd = q.tripInd := rfl

@[simp] theorem Pump.recordStart_state (q : Pump) (now : Uptime) : (q.recordStart now).state = q.state := rfl
@[simp] theorem Pump.recordStart_owner (q : Pump) (now : Uptime) : (q.recordStart now).owner = q.owner := rfl
@[simp] theorem Pump.recordStart_feedback (q : Pump) (now : Uptime) : (q.recordStart now).feedback = q.feedback := rfl
@[simp] theorem Pump.recordStart_cause (q : Pump) (now : Uptime) : (q.recordStart now).cause = q.cause := rfl
@[simp] theorem Pump.recordStart_retries (q : Pump) (now : Uptime) : (q.recordStart now).retries = q.retries := rfl
@[simp] theorem Pump.recordStart_cmd (q : Pump) (now : Uptime) : (q.recordStart now).cmd = q.cmd := rfl
@[simp] theorem Pump.recordStart_localSel (q : Pump) (now : Uptime) : (q.recordStart now).localSel = q.localSel := rfl
@[simp] theorem Pump.recordStart_warn (q : Pump) (now : Uptime) : (q.recordStart now).warn = q.warn := rfl
@[simp] theorem Pump.recordStart_uncommanded (q : Pump) (now : Uptime) : (q.recordStart now).uncommanded = q.uncommanded := rfl
@[simp] theorem Pump.recordStart_stopRecorded (q : Pump) (now : Uptime) : (q.recordStart now).stopRecorded = q.stopRecorded := rfl
@[simp] theorem Pump.recordStart_minRunMet (q : Pump) (now : Uptime) : (q.recordStart now).minRunMet = q.minRunMet := rfl
@[simp] theorem Pump.recordStart_runStart (q : Pump) (now : Uptime) : (q.recordStart now).runStart = now := rfl
@[simp] theorem Pump.recordStart_stopAt (q : Pump) (now : Uptime) : (q.recordStart now).stopAt = q.stopAt := rfl
@[simp] theorem Pump.recordStart_history (q : Pump) (now : Uptime) : (q.recordStart now).history = q.history.drop (q.history.length - 11) ++ [now] := rfl
@[simp] theorem Pump.recordStart_minRunT (q : Pump) (now : Uptime) : (q.recordStart now).minRunT = q.minRunT := rfl
@[simp] theorem Pump.recordStart_minRestT (q : Pump) (now : Uptime) : (q.recordStart now).minRestT = q.minRestT := rfl
@[simp] theorem Pump.recordStart_startT (q : Pump) (now : Uptime) : (q.recordStart now).startT = q.startT := rfl
@[simp] theorem Pump.recordStart_stopT (q : Pump) (now : Uptime) : (q.recordStart now).stopT = q.stopT := rfl
@[simp] theorem Pump.recordStart_retryT (q : Pump) (now : Uptime) : (q.recordStart now).retryT = q.retryT := rfl
@[simp] theorem Pump.recordStart_provingT (q : Pump) (now : Uptime) : (q.recordStart now).provingT = q.provingT := rfl
@[simp] theorem Pump.recordStart_tripCount (q : Pump) (now : Uptime) : (q.recordStart now).tripCount = q.tripCount := rfl
@[simp] theorem Pump.recordStart_tripInd (q : Pump) (now : Uptime) : (q.recordStart now).tripInd = q.tripInd := rfl

@[simp] theorem Pump.startMinRun_state (q : Pump) (now : Uptime) (e : PumpEntry) : (q.startMinRun now e).state = q.state := rfl
@[simp] theorem Pump.startMinRun_owner (q : Pump) (now : Uptime) (e : PumpEntry) : (q.startMinRun now e).owner = q.owner := rfl
@[simp] theorem Pump.startMinRun_feedback (q : Pump) (now : Uptime) (e : PumpEntry) : (q.startMinRun now e).feedback = q.feedback := rfl
@[simp] theorem Pump.startMinRun_cause (q : Pump) (now : Uptime) (e : PumpEntry) : (q.startMinRun now e).cause = q.cause := rfl
@[simp] theorem Pump.startMinRun_retries (q : Pump) (now : Uptime) (e : PumpEntry) : (q.startMinRun now e).retries = q.retries := rfl
@[simp] theorem Pump.startMinRun_cmd (q : Pump) (now : Uptime) (e : PumpEntry) : (q.startMinRun now e).cmd = q.cmd := rfl
@[simp] theorem Pump.startMinRun_localSel (q : Pump) (now : Uptime) (e : PumpEntry) : (q.startMinRun now e).localSel = q.localSel := rfl
@[simp] theorem Pump.startMinRun_warn (q : Pump) (now : Uptime) (e : PumpEntry) : (q.startMinRun now e).warn = q.warn := rfl
@[simp] theorem Pump.startMinRun_uncommanded (q : Pump) (now : Uptime) (e : PumpEntry) : (q.startMinRun now e).uncommanded = q.uncommanded := rfl
@[simp] theorem Pump.startMinRun_stopRecorded (q : Pump) (now : Uptime) (e : PumpEntry) : (q.startMinRun now e).stopRecorded = q.stopRecorded := rfl
@[simp] theorem Pump.startMinRun_minRunMet (q : Pump) (now : Uptime) (e : PumpEntry) : (q.startMinRun now e).minRunMet = false := rfl
@[simp] theorem Pump.startMinRun_runStart (q : Pump) (now : Uptime) (e : PumpEntry) : (q.startMinRun now e).runStart = q.runStart := rfl
@[simp] theorem Pump.startMinRun_stopAt (q : Pump) (now : Uptime) (e : PumpEntry) : (q.startMinRun now e).stopAt = q.stopAt := rfl
@[simp] theorem Pump.startMinRun_history (q : Pump) (now : Uptime) (e : PumpEntry) : (q.startMinRun now e).history = q.history := rfl
@[simp] theorem Pump.startMinRun_minRunT (q : Pump) (now : Uptime) (e : PumpEntry) : (q.startMinRun now e).minRunT = startTimer now e.minRun := rfl
@[simp] theorem Pump.startMinRun_minRestT (q : Pump) (now : Uptime) (e : PumpEntry) : (q.startMinRun now e).minRestT = q.minRestT := rfl
@[simp] theorem Pump.startMinRun_startT (q : Pump) (now : Uptime) (e : PumpEntry) : (q.startMinRun now e).startT = q.startT := rfl
@[simp] theorem Pump.startMinRun_stopT (q : Pump) (now : Uptime) (e : PumpEntry) : (q.startMinRun now e).stopT = q.stopT := rfl
@[simp] theorem Pump.startMinRun_retryT (q : Pump) (now : Uptime) (e : PumpEntry) : (q.startMinRun now e).retryT = q.retryT := rfl
@[simp] theorem Pump.startMinRun_provingT (q : Pump) (now : Uptime) (e : PumpEntry) : (q.startMinRun now e).provingT = q.provingT := rfl
@[simp] theorem Pump.startMinRun_tripCount (q : Pump) (now : Uptime) (e : PumpEntry) : (q.startMinRun now e).tripCount = q.tripCount := rfl
@[simp] theorem Pump.startMinRun_tripInd (q : Pump) (now : Uptime) (e : PumpEntry) : (q.startMinRun now e).tripInd = q.tripInd := rfl

@[simp] theorem Pump.enterRunning_state (q : Pump) (now : Uptime) (e : PumpEntry) : (q.enterRunning now e).state = .running := rfl
@[simp] theorem Pump.enterRunning_owner (q : Pump) (now : Uptime) (e : PumpEntry) : (q.enterRunning now e).owner = q.owner := rfl
@[simp] theorem Pump.enterRunning_feedback (q : Pump) (now : Uptime) (e : PumpEntry) : (q.enterRunning now e).feedback = q.feedback := rfl
@[simp] theorem Pump.enterRunning_cause (q : Pump) (now : Uptime) (e : PumpEntry) : (q.enterRunning now e).cause = q.cause := rfl
@[simp] theorem Pump.enterRunning_retries (q : Pump) (now : Uptime) (e : PumpEntry) : (q.enterRunning now e).retries = q.retries := rfl
@[simp] theorem Pump.enterRunning_cmd (q : Pump) (now : Uptime) (e : PumpEntry) : (q.enterRunning now e).cmd = q.cmd := rfl
@[simp] theorem Pump.enterRunning_localSel (q : Pump) (now : Uptime) (e : PumpEntry) : (q.enterRunning now e).localSel = q.localSel := rfl
@[simp] theorem Pump.enterRunning_warn (q : Pump) (now : Uptime) (e : PumpEntry) : (q.enterRunning now e).warn = q.warn := rfl
@[simp] theorem Pump.enterRunning_uncommanded (q : Pump) (now : Uptime) (e : PumpEntry) : (q.enterRunning now e).uncommanded = q.uncommanded := rfl
@[simp] theorem Pump.enterRunning_stopRecorded (q : Pump) (now : Uptime) (e : PumpEntry) : (q.enterRunning now e).stopRecorded = q.stopRecorded := rfl
@[simp] theorem Pump.enterRunning_minRunMet (q : Pump) (now : Uptime) (e : PumpEntry) : (q.enterRunning now e).minRunMet = q.minRunMet := rfl
@[simp] theorem Pump.enterRunning_runStart (q : Pump) (now : Uptime) (e : PumpEntry) : (q.enterRunning now e).runStart = q.runStart := rfl
@[simp] theorem Pump.enterRunning_stopAt (q : Pump) (now : Uptime) (e : PumpEntry) : (q.enterRunning now e).stopAt = q.stopAt := rfl
@[simp] theorem Pump.enterRunning_history (q : Pump) (now : Uptime) (e : PumpEntry) : (q.enterRunning now e).history = q.history := rfl
@[simp] theorem Pump.enterRunning_minRunT (q : Pump) (now : Uptime) (e : PumpEntry) : (q.enterRunning now e).minRunT = q.minRunT := rfl
@[simp] theorem Pump.enterRunning_minRestT (q : Pump) (now : Uptime) (e : PumpEntry) : (q.enterRunning now e).minRestT = none := rfl
@[simp] theorem Pump.enterRunning_startT (q : Pump) (now : Uptime) (e : PumpEntry) : (q.enterRunning now e).startT = q.startT := rfl
@[simp] theorem Pump.enterRunning_stopT (q : Pump) (now : Uptime) (e : PumpEntry) : (q.enterRunning now e).stopT = q.stopT := rfl
@[simp] theorem Pump.enterRunning_retryT (q : Pump) (now : Uptime) (e : PumpEntry) : (q.enterRunning now e).retryT = none := rfl
@[simp] theorem Pump.enterRunning_provingT (q : Pump) (now : Uptime) (e : PumpEntry) : (q.enterRunning now e).provingT = startTimer now e.provingTime := rfl
@[simp] theorem Pump.enterRunning_tripCount (q : Pump) (now : Uptime) (e : PumpEntry) : (q.enterRunning now e).tripCount = q.tripCount := rfl
@[simp] theorem Pump.enterRunning_tripInd (q : Pump) (now : Uptime) (e : PumpEntry) : (q.enterRunning now e).tripInd = q.tripInd := rfl

/-! ### Scheduling records -/

@[simp] theorem Plant.setPump_pumps (x : Plant) (p : Fin 32) (q : Pump) : (x.setPump p q).pumps = x.pumps.set p q := rfl
@[simp] theorem Plant.setPump_stages (x : Plant) (p : Fin 32) (q : Pump) : (x.setPump p q).stages = x.stages := rfl
@[simp] theorem Plant.setPump_queue (x : Plant) (p : Fin 32) (q : Pump) : (x.setPump p q).queue = x.queue := rfl
@[simp] theorem Plant.setPump_feedA (x : Plant) (p : Fin 32) (q : Pump) : (x.setPump p q).feedA = x.feedA := rfl
@[simp] theorem Plant.setPump_feedB (x : Plant) (p : Fin 32) (q : Pump) : (x.setPump p q).feedB = x.feedB := rfl
@[simp] theorem Plant.setPump_events (x : Plant) (p : Fin 32) (q : Pump) : (x.setPump p q).events = x.events := rfl
@[simp] theorem Plant.setPump_nextId (x : Plant) (p : Fin 32) (q : Pump) : (x.setPump p q).nextId = x.nextId := rfl

@[simp] theorem Plant.setStage_pumps (x : Plant) (k : Fin 8) (l : StageLive) : (x.setStage k l).pumps = x.pumps := rfl
@[simp] theorem Plant.setStage_stages (x : Plant) (k : Fin 8) (l : StageLive) : (x.setStage k l).stages = x.stages.set k l := rfl
@[simp] theorem Plant.setStage_queue (x : Plant) (k : Fin 8) (l : StageLive) : (x.setStage k l).queue = x.queue := rfl
@[simp] theorem Plant.setStage_feedA (x : Plant) (k : Fin 8) (l : StageLive) : (x.setStage k l).feedA = x.feedA := rfl
@[simp] theorem Plant.setStage_feedB (x : Plant) (k : Fin 8) (l : StageLive) : (x.setStage k l).feedB = x.feedB := rfl
@[simp] theorem Plant.setStage_events (x : Plant) (k : Fin 8) (l : StageLive) : (x.setStage k l).events = x.events := rfl
@[simp] theorem Plant.setStage_nextId (x : Plant) (k : Fin 8) (l : StageLive) : (x.setStage k l).nextId = x.nextId := rfl

@[simp] theorem Plant.raise_pumps (x : Plant) (e : Event) : (x.raise e).pumps = x.pumps := rfl
@[simp] theorem Plant.raise_stages (x : Plant) (e : Event) : (x.raise e).stages = x.stages := rfl
@[simp] theorem Plant.raise_queue (x : Plant) (e : Event) : (x.raise e).queue = x.queue := rfl
@[simp] theorem Plant.raise_feedA (x : Plant) (e : Event) : (x.raise e).feedA = x.feedA := rfl
@[simp] theorem Plant.raise_feedB (x : Plant) (e : Event) : (x.raise e).feedB = x.feedB := rfl
@[simp] theorem Plant.raise_events (x : Plant) (e : Event) : (x.raise e).events = x.events.raise e := rfl
@[simp] theorem Plant.raise_nextId (x : Plant) (e : Event) : (x.raise e).nextId = x.nextId := rfl

@[simp] theorem Plant.makePending_pumps (x : Plant) (p : Fin 32) (a : Action) (g : Progress) : (x.makePending p a g).pumps = x.pumps.set p { (x.pump p).dropCmd with cmd := some ⟨a, g, x.nextId⟩ } := rfl
@[simp] theorem Plant.makePending_stages (x : Plant) (p : Fin 32) (a : Action) (g : Progress) : (x.makePending p a g).stages = x.stages := rfl
@[simp] theorem Plant.makePending_queue (x : Plant) (p : Fin 32) (a : Action) (g : Progress) : (x.makePending p a g).queue = x.queue := rfl
@[simp] theorem Plant.makePending_feedA (x : Plant) (p : Fin 32) (a : Action) (g : Progress) : (x.makePending p a g).feedA = x.feedA := rfl
@[simp] theorem Plant.makePending_feedB (x : Plant) (p : Fin 32) (a : Action) (g : Progress) : (x.makePending p a g).feedB = x.feedB := rfl
@[simp] theorem Plant.makePending_events (x : Plant) (p : Fin 32) (a : Action) (g : Progress) : (x.makePending p a g).events = x.events := rfl
@[simp] theorem Plant.makePending_nextId (x : Plant) (p : Fin 32) (a : Action) (g : Progress) : (x.makePending p a g).nextId = x.nextId + 1 := rfl

@[simp] theorem Plant.setFeeder_pumps (x : Plant) (f : Feeder) (l : FeederLive) : (x.setFeeder f l).pumps = x.pumps := by cases f <;> rfl
@[simp] theorem Plant.setFeeder_stages (x : Plant) (f : Feeder) (l : FeederLive) : (x.setFeeder f l).stages = x.stages := by cases f <;> rfl
@[simp] theorem Plant.setFeeder_queue (x : Plant) (f : Feeder) (l : FeederLive) : (x.setFeeder f l).queue = x.queue := by cases f <;> rfl
@[simp] theorem Plant.setFeeder_events (x : Plant) (f : Feeder) (l : FeederLive) : (x.setFeeder f l).events = x.events := by cases f <;> rfl
@[simp] theorem Plant.setFeeder_nextId (x : Plant) (f : Feeder) (l : FeederLive) : (x.setFeeder f l).nextId = x.nextId := by cases f <;> rfl

@[simp] theorem Plant.markScan_pumps (x : Plant) (f : Feeder) : (x.markScan f).pumps = x.pumps := by cases f <;> rfl
@[simp] theorem Plant.markScan_stages (x : Plant) (f : Feeder) : (x.markScan f).stages = x.stages := by cases f <;> rfl
@[simp] theorem Plant.markScan_queue (x : Plant) (f : Feeder) : (x.markScan f).queue = x.queue := by cases f <;> rfl
@[simp] theorem Plant.markScan_events (x : Plant) (f : Feeder) : (x.markScan f).events = x.events := by cases f <;> rfl
@[simp] theorem Plant.markScan_nextId (x : Plant) (f : Feeder) : (x.markScan f).nextId = x.nextId := by cases f <;> rfl

@[simp] theorem Plant.setFeeder_a (x : Plant) (l : FeederLive) : x.setFeeder .a l = { x with feedA := l } := rfl
@[simp] theorem Plant.setFeeder_b (x : Plant) (l : FeederLive) : x.setFeeder .b l = { x with feedB := l } := rfl
@[simp] theorem Plant.feeder_a (x : Plant) : x.feeder .a = x.feedA := rfl
@[simp] theorem Plant.feeder_b (x : Plant) : x.feeder .b = x.feedB := rfl

/-- The record just written is the one read. -/
@[simp] theorem Plant.pump_setPump_same (x : Plant) (p : Fin 32) (q : Pump) : (x.setPump p q).pump p = q := by
  simp [Plant.pump, Plant.setPump]

/-- Writing one slot leaves every other. -/
theorem Plant.pump_setPump_ne (x : Plant) {p p' : Fin 32} (h : p' ≠ p) (q : Pump) :
    (x.setPump p q).pump p' = x.pump p' := by
  have h' : (p : Nat) ≠ p' := fun e => h (Fin.ext e.symm)
  simp [Plant.pump, Plant.setPump, h']

/-- What a slot reads after a write of a slot. -/
theorem Plant.pump_setPump (x : Plant) (p p' : Fin 32) (q : Pump) :
    (x.setPump p q).pump p' = if p' = p then q else x.pump p' := by
  by_cases h : p' = p
  · subst h; simp
  · rw [if_neg h, Plant.pump_setPump_ne x h]

@[simp] theorem Plant.pump_setStage (x : Plant) (k : Fin 8) (l : StageLive) (p : Fin 32) :
    (x.setStage k l).pump p = x.pump p := rfl
@[simp] theorem Plant.pump_raise (x : Plant) (e : Event) (p : Fin 32) : (x.raise e).pump p = x.pump p := rfl
@[simp] theorem Plant.pump_setFeeder (x : Plant) (f : Feeder) (l : FeederLive) (p : Fin 32) :
    (x.setFeeder f l).pump p = x.pump p := by cases f <;> rfl
@[simp] theorem Plant.pump_markScan (x : Plant) (f : Feeder) (p : Fin 32) :
    (x.markScan f).pump p = x.pump p := by cases f <;> rfl

/-- The stage record just written is the one read. -/
@[simp] theorem Plant.stage_setStage_same (x : Plant) (k : Fin 8) (l : StageLive) :
    (x.setStage k l).stage k = l := by simp [Plant.stage, Plant.setStage]

/-- Writing one stage leaves every other. -/
theorem Plant.stage_setStage_ne (x : Plant) {k k' : Fin 8} (h : k' ≠ k) (l : StageLive) :
    (x.setStage k l).stage k' = x.stage k' := by
  have h' : (k : Nat) ≠ k' := fun e => h (Fin.ext e.symm)
  simp [Plant.stage, Plant.setStage, h']

@[simp] theorem Plant.stage_setPump (x : Plant) (p : Fin 32) (q : Pump) (k : Fin 8) :
    (x.setPump p q).stage k = x.stage k := rfl
@[simp] theorem Plant.stage_raise (x : Plant) (e : Event) (k : Fin 8) : (x.raise e).stage k = x.stage k := rfl
@[simp] theorem Plant.stage_setFeeder (x : Plant) (f : Feeder) (l : FeederLive) (k : Fin 8) :
    (x.setFeeder f l).stage k = x.stage k := by cases f <;> rfl
@[simp] theorem Plant.stage_markScan (x : Plant) (f : Feeder) (k : Fin 8) :
    (x.markScan f).stage k = x.stage k := by cases f <;> rfl

@[simp] theorem Plant.feeder_setPump (x : Plant) (p : Fin 32) (q : Pump) (f : Feeder) :
    (x.setPump p q).feeder f = x.feeder f := by cases f <;> rfl
@[simp] theorem Plant.feeder_setStage (x : Plant) (k : Fin 8) (l : StageLive) (f : Feeder) :
    (x.setStage k l).feeder f = x.feeder f := by cases f <;> rfl
@[simp] theorem Plant.feeder_raise (x : Plant) (e : Event) (f : Feeder) : (x.raise e).feeder f = x.feeder f := by
  cases f <;> rfl
@[simp] theorem Plant.feeder_setFeeder_same (x : Plant) (f : Feeder) (l : FeederLive) :
    (x.setFeeder f l).feeder f = l := by cases f <;> rfl

/-- Writing one feeder leaves the other. -/
theorem Plant.feeder_setFeeder_ne (x : Plant) {f g : Feeder} (h : g ≠ f) (l : FeederLive) :
    (x.setFeeder f l).feeder g = x.feeder g := by
  cases f <;> cases g <;> first | rfl | exact absurd rfl h

/-! ### The part -/

@[simp] theorem Part.onPlant_power (s : Part) (g : View → Plant → Plant) : (s.onPlant g).power = s.power := rfl
@[simp] theorem Part.onPlant_tab (s : Part) (g : View → Plant → Plant) : (s.onPlant g).tab = s.tab := rfl
@[simp] theorem Part.onPlant_cal (s : Part) (g : View → Plant → Plant) : (s.onPlant g).cal = s.cal := rfl
@[simp] theorem Part.onPlant_levels (s : Part) (g : View → Plant → Plant) : (s.onPlant g).levels = s.levels := rfl
@[simp] theorem Part.onPlant_line (s : Part) (g : View → Plant → Plant) : (s.onPlant g).line = s.line := rfl
@[simp] theorem Part.onPlant_mgmt (s : Part) (g : View → Plant → Plant) : (s.onPlant g).mgmt = s.mgmt := rfl
@[simp] theorem Part.onPlant_conditions (s : Part) (g : View → Plant → Plant) : (s.onPlant g).conditions = s.conditions := rfl
@[simp] theorem Part.onPlant_fault (s : Part) (g : View → Plant → Plant) : (s.onPlant g).fault = s.fault := rfl
@[simp] theorem Part.onPlant_alert (s : Part) (g : View → Plant → Plant) : (s.onPlant g).alert = s.alert := rfl
@[simp] theorem Part.onPlant_free (s : Part) (g : View → Plant → Plant) : (s.onPlant g).free = s.free := rfl
@[simp] theorem Part.onPlant_plant (s : Part) (g : View → Plant → Plant) :
    (s.onPlant g).plant = g s.view s.plant := rfl

@[simp] theorem Part.raise_power (s : Part) (e : Event) : (s.raise e).power = s.power := rfl
@[simp] theorem Part.raise_tab (s : Part) (e : Event) : (s.raise e).tab = s.tab := rfl
@[simp] theorem Part.raise_cal (s : Part) (e : Event) : (s.raise e).cal = s.cal := rfl
@[simp] theorem Part.raise_levels (s : Part) (e : Event) : (s.raise e).levels = s.levels := rfl
@[simp] theorem Part.raise_line (s : Part) (e : Event) : (s.raise e).line = s.line := rfl
@[simp] theorem Part.raise_mgmt (s : Part) (e : Event) : (s.raise e).mgmt = s.mgmt := rfl
@[simp] theorem Part.raise_conditions (s : Part) (e : Event) : (s.raise e).conditions = s.conditions := rfl
@[simp] theorem Part.raise_fault (s : Part) (e : Event) : (s.raise e).fault = s.fault := rfl
@[simp] theorem Part.raise_alert (s : Part) (e : Event) : (s.raise e).alert = s.alert := rfl
@[simp] theorem Part.raise_free (s : Part) (e : Event) : (s.raise e).free = s.free := rfl
@[simp] theorem Part.raise_plant (s : Part) (e : Event) : (s.raise e).plant = s.plant.raise e := rfl

@[simp] theorem Part.setLevel_power (s : Part) (r : Fin 10) (l : ResLive) : (s.setLevel r l).power = s.power := rfl
@[simp] theorem Part.setLevel_tab (s : Part) (r : Fin 10) (l : ResLive) : (s.setLevel r l).tab = s.tab := rfl
@[simp] theorem Part.setLevel_cal (s : Part) (r : Fin 10) (l : ResLive) : (s.setLevel r l).cal = s.cal := rfl
@[simp] theorem Part.setLevel_levels (s : Part) (r : Fin 10) (l : ResLive) :
    (s.setLevel r l).levels = s.levels.set r l := rfl
@[simp] theorem Part.setLevel_line (s : Part) (r : Fin 10) (l : ResLive) : (s.setLevel r l).line = s.line := rfl
@[simp] theorem Part.setLevel_mgmt (s : Part) (r : Fin 10) (l : ResLive) : (s.setLevel r l).mgmt = s.mgmt := rfl
@[simp] theorem Part.setLevel_conditions (s : Part) (r : Fin 10) (l : ResLive) : (s.setLevel r l).conditions = s.conditions := rfl
@[simp] theorem Part.setLevel_fault (s : Part) (r : Fin 10) (l : ResLive) : (s.setLevel r l).fault = s.fault := rfl
@[simp] theorem Part.setLevel_alert (s : Part) (r : Fin 10) (l : ResLive) : (s.setLevel r l).alert = s.alert := rfl
@[simp] theorem Part.setLevel_free (s : Part) (r : Fin 10) (l : ResLive) : (s.setLevel r l).free = s.free := rfl
@[simp] theorem Part.setLevel_plant (s : Part) (r : Fin 10) (l : ResLive) : (s.setLevel r l).plant = s.plant := rfl

@[simp] theorem driveLines_power (s : Part) : (driveLines s).power = s.power := rfl
@[simp] theorem driveLines_tab (s : Part) : (driveLines s).tab = s.tab := rfl
@[simp] theorem driveLines_cal (s : Part) : (driveLines s).cal = s.cal := rfl
@[simp] theorem driveLines_levels (s : Part) : (driveLines s).levels = s.levels := rfl
@[simp] theorem driveLines_plant (s : Part) : (driveLines s).plant = s.plant := rfl
@[simp] theorem driveLines_line (s : Part) : (driveLines s).line = s.line := rfl
@[simp] theorem driveLines_mgmt (s : Part) : (driveLines s).mgmt = s.mgmt := rfl
@[simp] theorem driveLines_free (s : Part) : (driveLines s).free = s.free := rfl
@[simp] theorem driveLines_conditions (s : Part) : (driveLines s).conditions = conditionSummary s := rfl
@[simp] theorem driveLines_fault (s : Part) : (driveLines s).fault = faultLevel s := rfl
@[simp] theorem driveLines_alert (s : Part) : (driveLines s).alert = alertLevel s := rfl

@[simp] theorem settlePart_power (s : Part) : (settlePart s).power = s.power := rfl
@[simp] theorem settlePart_tab (s : Part) : (settlePart s).tab = s.tab := rfl
@[simp] theorem settlePart_cal (s : Part) : (settlePart s).cal = s.cal := rfl
@[simp] theorem settlePart_levels (s : Part) : (settlePart s).levels = s.levels := rfl
@[simp] theorem settlePart_line (s : Part) : (settlePart s).line = s.line := rfl
@[simp] theorem settlePart_mgmt (s : Part) : (settlePart s).mgmt = s.mgmt := rfl
@[simp] theorem settlePart_conditions (s : Part) : (settlePart s).conditions = s.conditions := rfl
@[simp] theorem settlePart_fault (s : Part) : (settlePart s).fault = s.fault := rfl
@[simp] theorem settlePart_alert (s : Part) : (settlePart s).alert = s.alert := rfl
@[simp] theorem settlePart_free (s : Part) : (settlePart s).free = s.free := rfl
@[simp] theorem settlePart_plant (s : Part) : (settlePart s).plant = settle s.view s.plant := rfl

@[simp] theorem Part.setRx_power (s : Part) (port : Port) (r : Rx) : (s.setRx port r).power = s.power := by
  cases port <;> rfl
@[simp] theorem Part.setRx_tab (s : Part) (port : Port) (r : Rx) : (s.setRx port r).tab = s.tab := by
  cases port <;> rfl
@[simp] theorem Part.setRx_cal (s : Part) (port : Port) (r : Rx) : (s.setRx port r).cal = s.cal := by
  cases port <;> rfl
@[simp] theorem Part.setRx_levels (s : Part) (port : Port) (r : Rx) : (s.setRx port r).levels = s.levels := by
  cases port <;> rfl
@[simp] theorem Part.setRx_plant (s : Part) (port : Port) (r : Rx) : (s.setRx port r).plant = s.plant := by
  cases port <;> rfl
@[simp] theorem Part.setRx_mgmt (s : Part) (port : Port) (r : Rx) : (s.setRx port r).mgmt = s.mgmt := by
  cases port <;> rfl
@[simp] theorem Part.setRx_conditions (s : Part) (port : Port) (r : Rx) : (s.setRx port r).conditions = s.conditions := by
  cases port <;> rfl
@[simp] theorem Part.setRx_fault (s : Part) (port : Port) (r : Rx) : (s.setRx port r).fault = s.fault := by
  cases port <;> rfl
@[simp] theorem Part.setRx_alert (s : Part) (port : Port) (r : Rx) : (s.setRx port r).alert = s.alert := by
  cases port <;> rfl
@[simp] theorem Part.setRx_free (s : Part) (port : Port) (r : Rx) : (s.setRx port r).free = s.free := by
  cases port <;> rfl

@[simp] theorem finish_power (s : Part) : (finish s).power = s.power := rfl
@[simp] theorem finish_tab (s : Part) : (finish s).tab = s.tab := rfl
@[simp] theorem finish_cal (s : Part) : (finish s).cal = s.cal := rfl
@[simp] theorem finish_levels (s : Part) : (finish s).levels = s.levels := rfl
@[simp] theorem finish_mgmt (s : Part) : (finish s).mgmt = s.mgmt := rfl
@[simp] theorem finish_line (s : Part) : (finish s).line = s.line := rfl
@[simp] theorem finish_free (s : Part) : (finish s).free = s.free := rfl
@[simp] theorem finish_plant (s : Part) : (finish s).plant = settle s.view s.plant := rfl

/-! ### The frame of every meaning -/

/-- A command acts on a part that is up. -/
theorem Part.act_up {f : Part → Part} {s : Part} (h : s.power = .on) : s.act f = finish (f s) := by
  simp [Part.act, Part.up, h]

/-- A command has no effect on a part without power or held by the RESET input. -/
theorem Part.act_down {f : Part → Part} {s : Part} (h : s.power ≠ .on) : s.act f = s := by
  simp [Part.act, Part.up, h]

/-- The whole of what `act` can answer. -/
theorem act_eq (f : Part → Part) (s : State) : act f s = .next { part := s.part.act f, pending := s.pending } := rfl

end Sys2Proof.Machine
end

