-- ==== Sys2Proof/Laws/Frames.lean ====
section
/-!
SUPPORT. What each shared operation on a pump leaves alone: the arbiter's operations leave every pump and stage
record, and the pump events change the record of their pump only.
-/

namespace Sys2Proof.Machine

/-! ### The arbiter's operations leave the pump and stage records -/

@[simp] theorem recommit_pumps (tab : Settings) (f : Feeder) (x : Plant) : (recommit tab f x).pumps = x.pumps := by
  simp [recommit]
@[simp] theorem recommit_stages (tab : Settings) (f : Feeder) (x : Plant) :
    (recommit tab f x).stages = x.stages := by simp [recommit]
@[simp] theorem recommit_queue (tab : Settings) (f : Feeder) (x : Plant) : (recommit tab f x).queue = x.queue := by
  simp [recommit]
@[simp] theorem recommit_events (tab : Settings) (f : Feeder) (x : Plant) :
    (recommit tab f x).events = x.events := by simp [recommit]
@[simp] theorem recommit_nextId (tab : Settings) (f : Feeder) (x : Plant) :
    (recommit tab f x).nextId = x.nextId := by simp [recommit]
@[simp] theorem handCommitted_pumps (tab : Settings) (p : Fin 32) (x : Plant) :
    (handCommitted tab p x).pumps = x.pumps := recommit_pumps ..
@[simp] theorem handCommitted_stages (tab : Settings) (p : Fin 32) (x : Plant) :
    (handCommitted tab p x).stages = x.stages := recommit_stages ..
@[simp] theorem handCommitted_queue (tab : Settings) (p : Fin 32) (x : Plant) :
    (handCommitted tab p x).queue = x.queue := recommit_queue ..
@[simp] theorem handCommitted_events (tab : Settings) (p : Fin 32) (x : Plant) :
    (handCommitted tab p x).events = x.events := recommit_events ..
@[simp] theorem handCommitted_nextId (tab : Settings) (p : Fin 32) (x : Plant) :
    (handCommitted tab p x).nextId = x.nextId := recommit_nextId ..
@[simp] theorem leaveStarting_pumps (p : Fin 32) (x : Plant) : (leaveStarting p x).pumps = x.pumps := rfl
@[simp] theorem leaveStarting_stages (p : Fin 32) (x : Plant) : (leaveStarting p x).stages = x.stages := rfl
@[simp] theorem leaveStarting_queue (p : Fin 32) (x : Plant) : (leaveStarting p x).queue = x.queue := rfl
@[simp] theorem leaveStarting_events (p : Fin 32) (x : Plant) : (leaveStarting p x).events = x.events := rfl
@[simp] theorem leaveStarting_nextId (p : Fin 32) (x : Plant) : (leaveStarting p x).nextId = x.nextId := rfl

@[simp] theorem dequeue_pumps (p : Fin 32) (x : Plant) : (dequeue p x).pumps = x.pumps := by
  unfold dequeue; split <;> simp
@[simp] theorem dequeue_stages (p : Fin 32) (x : Plant) : (dequeue p x).stages = x.stages := by
  unfold dequeue; split <;> simp
@[simp] theorem dequeue_events (p : Fin 32) (x : Plant) : (dequeue p x).events = x.events := by
  unfold dequeue; split <;> simp
@[simp] theorem dequeue_nextId (p : Fin 32) (x : Plant) : (dequeue p x).nextId = x.nextId := by
  unfold dequeue; split <;> simp
@[simp] theorem enterRequest_pumps (v : View) (p : Fin 32) (x : Plant) :
    (enterRequest v p x).pumps = x.pumps := by simp [enterRequest]
@[simp] theorem enterRequest_stages (v : View) (p : Fin 32) (x : Plant) :
    (enterRequest v p x).stages = x.stages := by simp [enterRequest]

/-- Equal pump vectors give equal pump records. -/
theorem Plant.pump_congr {x y : Plant} (h : y.pumps = x.pumps) (p : Fin 32) : y.pump p = x.pump p := by
  simp [Plant.pump, h]

@[simp] theorem recommit_pump (tab : Settings) (f : Feeder) (x : Plant) (p : Fin 32) :
    (recommit tab f x).pump p = x.pump p := Plant.pump_congr (by simp) p
@[simp] theorem handCommitted_pump (tab : Settings) (q : Fin 32) (x : Plant) (p : Fin 32) :
    (handCommitted tab q x).pump p = x.pump p := Plant.pump_congr (by simp) p
@[simp] theorem leaveStarting_pump (q : Fin 32) (x : Plant) (p : Fin 32) :
    (leaveStarting q x).pump p = x.pump p := rfl
@[simp] theorem dequeue_pump (q : Fin 32) (x : Plant) (p : Fin 32) : (dequeue q x).pump p = x.pump p :=
  Plant.pump_congr (by simp) p
@[simp] theorem enterRequest_pump (v : View) (q : Fin 32) (x : Plant) (p : Fin 32) :
    (enterRequest v q x).pump p = x.pump p := Plant.pump_congr (by simp) p

/-- The committed power of a feeder after its recomputation (R95). -/
@[simp] theorem recommit_committed (tab : Settings) (f : Feeder) (x : Plant) :
    ((recommit tab f x).feeder f).committed = committedPower tab x f := by simp [recommit]

/-! ### Composition of frames -/

namespace OnlyPump

theorem refl (p : Fin 32) (x : Plant) : OnlyPump p x x := ⟨rfl, fun _ _ => rfl⟩

theorem trans {p : Fin 32} {x y z : Plant} (h : OnlyPump p x y) (h' : OnlyPump p y z) : OnlyPump p x z :=
  ⟨h'.1.trans h.1, fun q hq => (h'.2 q hq).trans (h.2 q hq)⟩

/-- An operation that leaves every pump and stage record keeps any frame. -/
theorem of_eq {p : Fin 32} {x y z : Plant} (h : OnlyPump p x y) (hs : z.stages = y.stages)
    (hp : z.pumps = y.pumps) : OnlyPump p x z :=
  ⟨hs.trans h.1, fun q hq => (Plant.pump_congr hp q).trans (h.2 q hq)⟩

theorem setPump {p : Fin 32} {x y : Plant} (h : OnlyPump p x y) (q : Pump) : OnlyPump p x (y.setPump p q) :=
  ⟨h.1, fun p' hp => (Plant.pump_setPump_ne y hp q).trans (h.2 p' hp)⟩

theorem raise {p : Fin 32} {x y : Plant} (h : OnlyPump p x y) (e : Event) : OnlyPump p x (y.raise e) :=
  h.of_eq rfl rfl

theorem handCommitted {p : Fin 32} {x y : Plant} (h : OnlyPump p x y) (tab : Settings) (q : Fin 32) :
    OnlyPump p x (handCommitted tab q y) := h.of_eq (by simp) (by simp)

theorem leaveStarting {p : Fin 32} {x y : Plant} (h : OnlyPump p x y) (q : Fin 32) :
    OnlyPump p x (leaveStarting q y) := h.of_eq rfl rfl

theorem dequeue {p : Fin 32} {x y : Plant} (h : OnlyPump p x y) (q : Fin 32) : OnlyPump p x (dequeue q y) :=
  h.of_eq (by simp) (by simp)

theorem setFeeder {p : Fin 32} {x y : Plant} (h : OnlyPump p x y) (f : Feeder) (l : FeederLive) :
    OnlyPump p x (y.setFeeder f l) := h.of_eq (by simp) (by simp)

theorem enterRequest {p : Fin 32} {x y : Plant} (h : OnlyPump p x y) (v : View) (q : Fin 32) :
    OnlyPump p x (enterRequest v q y) := h.of_eq (by simp) (by simp)

theorem makePending {p : Fin 32} {x y : Plant} (h : OnlyPump p x y) (a : Action) (g : Progress) :
    OnlyPump p x (y.makePending p a g) :=
  (h.setPump { (y.pump p).dropCmd with cmd := some ⟨a, g, y.nextId⟩ }).of_eq rfl rfl

theorem ite {p : Fin 32} {x a b : Plant} {c : Prop} [Decidable c] (ha : OnlyPump p x a) (hb : OnlyPump p x b) :
    OnlyPump p x (if c then a else b) := by split <;> assumption

end OnlyPump

/-! ### The pump events change their pump only -/

theorem uncommandedRun_frame (v : View) (p : Fin 32) (x : Plant) : OnlyPump p x (uncommandedRun v p x) := by
  unfold uncommandedRun
  exact (((OnlyPump.ite ((OnlyPump.refl p x).dequeue p) (OnlyPump.refl p x)).setPump _).handCommitted _ _).raise _

theorem restTest_frame (v : View) (p : Fin 32) (x : Plant) : OnlyPump p x (restTest v p x) := by
  unfold restTest
  have r := OnlyPump.refl p x
  exact OnlyPump.ite ((r.setPump _).handCommitted _ _) (OnlyPump.ite (uncommandedRun_frame v p x)
    (OnlyPump.ite ((r.setPump _).handCommitted _ _) ((r.setPump _).handCommitted _ _)))

theorem stopDecision_frame (v : View) (p : Fin 32) (x : Plant) : OnlyPump p x (stopDecision v p x) :=
  ((((OnlyPump.refl p x).setPump _).makePending _ _).leaveStarting _).handCommitted _ _

theorem withdraw_frame (v : View) (p : Fin 32) (x : Plant) : OnlyPump p x (withdraw v p x) := by
  unfold withdraw
  exact OnlyPump.ite ((((OnlyPump.refl p x).dequeue _).setPump _).handCommitted _ _) (OnlyPump.refl p x)

theorem clearAwaitingRun_frame (v : View) (p : Fin 32) (x : Plant) : OnlyPump p x (clearAwaitingRun v p x) := by
  unfold clearAwaitingRun
  exact OnlyPump.ite ((((OnlyPump.refl p x).setPump _).leaveStarting _).handCommitted _ _) (OnlyPump.refl p x)

theorem clearAwaitingStop_frame (v : View) (p : Fin 32) (x : Plant) : OnlyPump p x (clearAwaitingStop v p x) := by
  unfold clearAwaitingStop
  have r := OnlyPump.refl p x
  exact OnlyPump.ite (OnlyPump.ite (OnlyPump.ite ((r.setPump _).handCommitted _ _)
    ((r.setPump _).trans (restTest_frame v p _))) (r.setPump _)) r

theorem clearAwaiting_frame (v : View) (p : Fin 32) (x : Plant) : OnlyPump p x (clearAwaiting v p x) :=
  (clearAwaitingRun_frame v p x).trans (clearAwaitingStop_frame v p _)

theorem takeTrip_frame (v : View) (p : Fin 32) (c : TripCause) (x : Plant) : OnlyPump p x (takeTrip v p c x) := by
  unfold takeTrip
  have r := OnlyPump.refl p x
  have d := OnlyPump.ite (c := (x.pump p).state = .queued) (r.dequeue p) r
  exact OnlyPump.ite (r.setPump _) (OnlyPump.ite
    ((((d.setPump _).leaveStarting _).handCommitted _ _).raise _)
    ((((d.setPump _).leaveStarting _).handCommitted _ _).raise _))

theorem noFeedbackTrip_frame (v : View) (p : Fin 32) (x : Plant) : OnlyPump p x (noFeedbackTrip v p x) := by
  unfold noFeedbackTrip
  have r := (OnlyPump.refl p x).setPump (x.pump p).dropCmd
  exact (OnlyPump.ite (r.makePending _ _) r).trans (takeTrip_frame v p _ _)

theorem tripIfIndicated_frame (v : View) (p : Fin 32) (x : Plant) : OnlyPump p x (tripIfIndicated v p x) := by
  unfold tripIfIndicated
  exact OnlyPump.ite (takeTrip_frame v p _ x) (OnlyPump.refl p x)

theorem setLocalSelect_frame (v : View) (p : Fin 32) (x : Plant) : OnlyPump p x (setLocalSelect v p x) :=
  (((OnlyPump.refl p x).setPump _).trans (withdraw_frame v p _)).trans (clearAwaiting_frame v p _)

theorem changeOwner_frame (v : View) (p : Fin 32) (o : Ownership) (x : Plant) :
    OnlyPump p x (changeOwner v p o x) := by
  unfold changeOwner
  have r := (OnlyPump.refl p x).setPump { x.pump p with owner := o }
  exact OnlyPump.ite ((r.trans (withdraw_frame v p _)).trans (clearAwaiting_frame v p _))
    (OnlyPump.ite (r.trans (clearAwaiting_frame v p _)) r)

theorem feedbackRunning_frame (v : View) (p : Fin 32) (x : Plant) : OnlyPump p x (feedbackRunning v p x) := by
  unfold feedbackRunning
  have r := OnlyPump.refl p x
  dsimp only
  split
  · exact ((r.setPump _).handCommitted _ _).trans (tripIfIndicated_frame v p _)
  · exact uncommandedRun_frame v p x
  · exact uncommandedRun_frame v p x
  · exact uncommandedRun_frame v p x
  · exact ((r.setPump _).leaveStarting _).handCommitted _ _
  · exact (r.setPump _).handCommitted _ _
  · exact (r.setPump _).handCommitted _ _
  · exact (r.setPump _).handCommitted _ _
  · exact OnlyPump.ite ((r.setPump _).handCommitted _ _) (((r.setPump _).handCommitted _ _).raise _)
  · exact OnlyPump.ite ((r.setPump _).handCommitted _ _) (((r.setPump _).handCommitted _ _).raise _)

theorem feedbackStopped_frame (v : View) (p : Fin 32) (x : Plant) : OnlyPump p x (feedbackStopped v p x) := by
  unfold feedbackStopped
  have r := OnlyPump.refl p x
  dsimp only
  split
  · exact ((r.setPump _).handCommitted _ _).trans (tripIfIndicated_frame v p _)
  · exact (r.setPump _).handCommitted _ _
  · exact (r.setPump _).handCommitted _ _
  · exact (r.setPump _).handCommitted _ _
  · exact (r.setPump _).handCommitted _ _
  · exact OnlyPump.ite (((r.setPump _).handCommitted _ _).trans (takeTrip_frame v p _ _))
      (((r.setPump _).handCommitted _ _).trans (restTest_frame v p _))
  · exact (r.setPump _).trans (restTest_frame v p _)
  · exact (r.setPump _).trans (restTest_frame v p _)
  · exact (r.setPump _).handCommitted _ _
  · exact (r.setPump _).handCommitted _ _

theorem enqueue_frame (v : View) (p : Fin 32) (x : Plant) : OnlyPump p x (enqueue v p x) := by
  unfold enqueue
  exact (((OnlyPump.refl p x).setPump _).enterRequest _ _).handCommitted _ _

theorem manualRun_frame (v : View) (p : Fin 32) (x : Plant) : OnlyPump p x (manualRun v p x) := by
  unfold manualRun
  exact ((((OnlyPump.refl p x).setPump _).makePending _ _).setFeeder _ _).handCommitted _ _

theorem manualStop_frame (v : View) (p : Fin 32) (x : Plant) : OnlyPump p x (manualStop v p x) := by
  unfold manualStop
  have r := OnlyPump.refl p x
  dsimp only
  split
  · exact ((r.setPump _).makePending _ _).handCommitted _ _
  · exact ((r.setPump _).makePending _ _).handCommitted _ _
  · exact ((r.setPump _).makePending _ _).handCommitted _ _
  · exact (((r.setPump _).makePending _ _).leaveStarting _).handCommitted _ _
  · exact r.makePending _ _
  · exact r.makePending _ _
  · exact r
  · exact r
  · exact r
  · exact r

theorem grant_frame (v : View) (f : Feeder) (p : Fin 32) (x : Plant) : OnlyPump p x (grant v f p x) := by
  unfold grant
  have r : OnlyPump p x { x with queue := removeRequest p x.queue } := (OnlyPump.refl p x).of_eq rfl rfl
  exact (((r.setPump _).makePending _ _).setFeeder _ _).handCommitted _ _

/-! ### The storing of written tables -/

@[simp] theorem storeTables_tab (new : Settings) (s : Part) : (storeTables new s).tab = new := rfl
@[simp] theorem storeTables_cal (new : Settings) (s : Part) : (storeTables new s).cal = s.cal := rfl
@[simp] theorem storeTables_levels (new : Settings) (s : Part) : (storeTables new s).levels = s.levels := rfl
@[simp] theorem storeTables_line (new : Settings) (s : Part) : (storeTables new s).line = s.line := rfl
@[simp] theorem storeTables_mgmt (new : Settings) (s : Part) : (storeTables new s).mgmt = s.mgmt := rfl
@[simp] theorem storeTables_pumps (new : Settings) (s : Part) :
    (storeTables new s).plant.pumps = s.plant.pumps := rfl
@[simp] theorem storeTables_stages (new : Settings) (s : Part) :
    (storeTables new s).plant.stages = s.plant.stages := rfl
@[simp] theorem storeTables_events (new : Settings) (s : Part) :
    (storeTables new s).plant.events = s.plant.events := rfl

/-- There are three class ranks. -/
theorem classRank_lt_three (code : Nat) (c : ReqClass) : classRank code c < 3 := by
  unfold classRank; split <;> decide

/-- A re-sort keeps every request. -/
theorem mem_resort {code : Nat} {q : List Request} {e : Request} : e ∈ resort code q ↔ e ∈ q := by
  have h := classRank_lt_three code e.cls
  simp only [resort, List.mem_append, List.mem_filter, beq_iff_eq, ← and_or_left]
  exact ⟨fun h' => h'.1, fun h' => ⟨h', by omega⟩⟩

/-- The requests of the queue are the same after the tables of a write are stored. -/
theorem mem_storeTables {new : Settings} {s : Part} {e : Request} :
    e ∈ (storeTables new s).plant.queue ↔ e ∈ s.plant.queue := by
  simp only [storeTables, resortWritten]
  split
  · rfl
  · exact mem_resort

/-- STALE_ENTRY: a reservoir with the mark, enabled, METERED and neither UNKNOWN nor STALE, becomes STALE; any other
is left as it is (R9, R10). -/
theorem staleEvent_cases (r : Fin 10) (s : Part) :
    staleEvent r s = enterStale r s ∧ s.levels[r].staleDue = true ∧ staleTested s.tab.t1[r] s.levels[r] = true ∨
      staleEvent r s = s ∧ ¬(s.levels[r].staleDue = true ∧ staleTested s.tab.t1[r] s.levels[r] = true) := by
  unfold staleEvent
  split
  · next h => exact .inl ⟨rfl, by simpa using h⟩
  · next h => exact .inr ⟨rfl, by simpa using h⟩

end Sys2Proof.Machine
end

