-- ==== Sys2Proof/Laws/PerInstr.lean ====
section
/-!
SUPPORT. A family of laws with one lemma for each command: a well-formed command that a frame carries is carried by a
frame that a receiver can take, one of at most 60 payload bytes (R128, R138, R163).
-/

namespace Sys2Proof.Machine

/-- The frame that carries a command: the good frame itself, or the MANAGE frame of a management request. -/
def commandFrame? : Instr → Option Frame
  | .powerOn _ => none
  | .resetInput _ => none
  | .secondsStep => none
  | .minuteBoundary => none
  | .staleEntry _ => none
  | .startHistoryAgeing _ => none
  | .minRunExpiry _ => none
  | .minRestExpiry _ => none
  | .startConfirmExpiry _ => none
  | .stopConfirmExpiry _ => none
  | .stopSpacingExpiry _ => none
  | .feederSpacingExpiry _ => none
  | .retryTimerExpiry _ => none
  | .provingExpiry _ => none
  | .uplineQuietExpiry => none
  | .settleExpiry => none
  | .checkHoldQuiet => none
  | .characterGapTimeout _ => none
  | .checkError _ _ => none
  | .goodFrameOnU f => some f
  | .goodFrameOnD f => some f
  | .uTransmitStart => none
  | .uTransmitComplete _ => none
  | .dTransmitStart => none
  | .dTransmitComplete => none
  | .mTransmitStart => none
  | .mTransmitComplete => none
  | .settingsSaveComplete _ => none
  | .statusRead h => some (manageFrame h 0x01 [])
  | .tableRead h table first count offset => some (manageFrame h 0x02 (table :: first :: count :: wordBytes offset))
  | .tableWrite h segs => some (manageFrame h 0x03 (segmentsBytes segs))
  | .modeSet h mode => some (manageFrame h 0x04 [mode])
  | .ownerSet h slot owner => some (manageFrame h 0x05 [slot, owner])
  | .clockSet h day minute second => some (manageFrame h 0x06 (day :: (wordBytes minute ++ [second])))
  | .noticeOn h confirm => some (manageFrame h 0x07 [confirm])
  | .noticeOff h confirm => some (manageFrame h 0x08 [confirm])
  | .eventClear h keep => some (manageFrame h 0x09 (wordBytes keep))
  | .tripReset h slot => some (manageFrame h 0x0A [slot])
  | .addressTake h => some (manageFrame h 0x0B [])
  | .addressRelease h => some (manageFrame h 0x0C [])
  | .settingsSave h => some (manageFrame h 0x0D [])
  | .restart h => some (manageFrame h 0x0E [])
  | .unknownRequest h code args => some (manageFrame h code args)
  | .characterReceived _ _ _ => none
  | .powerLoss => none

/-- The bytes of the segments of a TABLE_WRITE are as many as `segmentBytes` counts (R163). -/
theorem segmentsBytes_length (segs : List Segment) : (segmentsBytes segs).length = segmentBytes segs := by
  induction segs with
  | nil => rfl
  | cons g gs ih =>
    have hw : (wordsBytes g.words).length = 2 * g.words.length := by
      induction g.words with
      | nil => rfl
      | cons w ws ihw => simp [wordsBytes, wordBytes] at ihw ⊢; omega
    simp only [segmentsBytes, segmentBytes, List.flatMap_cons, List.length_append, List.length_cons, List.map_cons,
      List.sum_cons, hw] at ih ⊢
    omega

end Sys2Proof.Machine

namespace Sys2Proof.Laws.FrameFits

open Sys2Proof.Machine

/-- A well-formed command that a frame carries is carried by a receivable frame. -/
def Statement (i : Instr) : Prop := i.wf = true → ∀ f : Frame, commandFrame? i = some f → f.wf = true

theorem powerOn (straps : Straps) : Statement (.powerOn straps) := fun _ _ hf => nomatch hf

theorem resetInput (phase : ResetPhase) : Statement (.resetInput phase) := fun _ _ hf => nomatch hf

theorem secondsStep : Statement (.secondsStep) := fun _ _ hf => nomatch hf

theorem minuteBoundary : Statement (.minuteBoundary) := fun _ _ hf => nomatch hf

theorem staleEntry (r : Fin 10) : Statement (.staleEntry r) := fun _ _ hf => nomatch hf

theorem startHistoryAgeing (k : Fin 8) : Statement (.startHistoryAgeing k) := fun _ _ hf => nomatch hf

theorem minRunExpiry (p : Fin 32) : Statement (.minRunExpiry p) := fun _ _ hf => nomatch hf

theorem minRestExpiry (p : Fin 32) : Statement (.minRestExpiry p) := fun _ _ hf => nomatch hf

theorem startConfirmExpiry (p : Fin 32) : Statement (.startConfirmExpiry p) := fun _ _ hf => nomatch hf

theorem stopConfirmExpiry (p : Fin 32) : Statement (.stopConfirmExpiry p) := fun _ _ hf => nomatch hf

theorem stopSpacingExpiry (k : Fin 8) : Statement (.stopSpacingExpiry k) := fun _ _ hf => nomatch hf

theorem feederSpacingExpiry (f : Feeder) : Statement (.feederSpacingExpiry f) := fun _ _ hf => nomatch hf

theorem retryTimerExpiry (p : Fin 32) : Statement (.retryTimerExpiry p) := fun _ _ hf => nomatch hf

theorem provingExpiry (p : Fin 32) : Statement (.provingExpiry p) := fun _ _ hf => nomatch hf

theorem uplineQuietExpiry : Statement (.uplineQuietExpiry) := fun _ _ hf => nomatch hf

theorem settleExpiry : Statement (.settleExpiry) := fun _ _ hf => nomatch hf

theorem checkHoldQuiet : Statement (.checkHoldQuiet) := fun _ _ hf => nomatch hf

theorem characterGapTimeout (port : Port) : Statement (.characterGapTimeout port) := fun _ _ hf => nomatch hf

theorem checkError (port : Port) (dest : Option Byte) : Statement (.checkError port dest) := fun _ _ hf => nomatch hf

theorem goodFrameOnU (f : Frame) : Statement (.goodFrameOnU f) := fun hw _ hf => by
  cases hf
  exact hw

theorem goodFrameOnD (f : Frame) : Statement (.goodFrameOnD f) := fun hw _ hf => by
  cases hf
  exact hw

theorem uTransmitStart : Statement (.uTransmitStart) := fun _ _ hf => nomatch hf

theorem uTransmitComplete (straps : Straps) : Statement (.uTransmitComplete straps) := fun _ _ hf => nomatch hf

theorem dTransmitStart : Statement (.dTransmitStart) := fun _ _ hf => nomatch hf

theorem dTransmitComplete : Statement (.dTransmitComplete) := fun _ _ hf => nomatch hf

theorem mTransmitStart : Statement (.mTransmitStart) := fun _ _ hf => nomatch hf

theorem mTransmitComplete : Statement (.mTransmitComplete) := fun _ _ hf => nomatch hf

theorem settingsSaveComplete (done : Bool) : Statement (.settingsSaveComplete done) := fun _ _ hf => nomatch hf

theorem statusRead (h : ReqHead) : Statement (.statusRead h) := fun _ _ hf => by
  cases hf
  simp [Frame.wf, manageFrame, maxPayload]

theorem tableRead (h : ReqHead) (table first count : Byte) (offset : Word) : Statement (.tableRead h table first count offset) := fun _ _ hf => by
  cases hf
  simp [Frame.wf, manageFrame, maxPayload, wordBytes]

theorem tableWrite (h : ReqHead) (segs : List Segment) : Statement (.tableWrite h segs) := by
  intro hw f hf
  simp only [commandFrame?, Option.some.injEq] at hf
  subst hf
  have hl := of_decide_eq_true hw
  exact decide_eq_true (by simp only [manageFrame, List.length_cons, segmentsBytes_length]; omega)

theorem modeSet (h : ReqHead) (mode : Byte) : Statement (.modeSet h mode) := fun _ _ hf => by
  cases hf
  simp [Frame.wf, manageFrame, maxPayload]

theorem ownerSet (h : ReqHead) (slot owner : Byte) : Statement (.ownerSet h slot owner) := fun _ _ hf => by
  cases hf
  simp [Frame.wf, manageFrame, maxPayload]

theorem clockSet (h : ReqHead) (day : Byte) (minute : Word) (second : Byte) : Statement (.clockSet h day minute second) := fun _ _ hf => by
  cases hf
  simp [Frame.wf, manageFrame, maxPayload, wordBytes]

theorem noticeOn (h : ReqHead) (confirm : Byte) : Statement (.noticeOn h confirm) := fun _ _ hf => by
  cases hf
  simp [Frame.wf, manageFrame, maxPayload]

theorem noticeOff (h : ReqHead) (confirm : Byte) : Statement (.noticeOff h confirm) := fun _ _ hf => by
  cases hf
  simp [Frame.wf, manageFrame, maxPayload]

theorem eventClear (h : ReqHead) (keep : Word) : Statement (.eventClear h keep) := fun _ _ hf => by
  cases hf
  simp [Frame.wf, manageFrame, maxPayload, wordBytes]

theorem tripReset (h : ReqHead) (slot : Byte) : Statement (.tripReset h slot) := fun _ _ hf => by
  cases hf
  simp [Frame.wf, manageFrame, maxPayload]

theorem addressTake (h : ReqHead) : Statement (.addressTake h) := fun _ _ hf => by
  cases hf
  simp [Frame.wf, manageFrame, maxPayload]

theorem addressRelease (h : ReqHead) : Statement (.addressRelease h) := fun _ _ hf => by
  cases hf
  simp [Frame.wf, manageFrame, maxPayload]

theorem settingsSave (h : ReqHead) : Statement (.settingsSave h) := fun _ _ hf => by
  cases hf
  simp [Frame.wf, manageFrame, maxPayload]

theorem restart (h : ReqHead) : Statement (.restart h) := fun _ _ hf => by
  cases hf
  simp [Frame.wf, manageFrame, maxPayload]

theorem unknownRequest (h : ReqHead) (code : Byte) (args : List Byte) : Statement (.unknownRequest h code args) := by
  intro hw f hf
  simp only [commandFrame?, Option.some.injEq] at hf
  subst hf
  simp only [Instr.wf, Bool.and_eq_true, decide_eq_true_eq] at hw
  exact decide_eq_true (by have := hw.1; simp only [manageFrame, List.length_cons]; omega)

theorem characterReceived (port : Port) (ch : Byte) (stopOk : Bool) : Statement (.characterReceived port ch stopOk) := fun _ _ hf => nomatch hf

theorem powerLoss : Statement (.powerLoss) := fun _ _ hf => nomatch hf

end Sys2Proof.Laws.FrameFits
end

