-- ==== Sys2Proof/Laws/Steady.lean ====
section
/-!
SUPPORT. What the end of an event does where no scan is left over and the lines follow the conditions, what `act`
answers then, and everything that the mirroring of a frame can change.
-/

namespace Sys2Proof.Machine

/-! ### The end of an event -/

/-- With no scan left over nothing is settled. -/
theorem settle_settled (v : View) {x : Plant} (h : Settled x) : settle v x = x := by
  simp [settle, settleScans, h.1, h.2]

theorem settlePart_settled {s : Part} (h : Settled s.plant) : settlePart s = s := by
  simp only [settlePart, Part.onPlant, settle_settled _ h]

/-- Lines that follow the conditions are driven to the levels they have. -/
theorem driveLines_follow {s : Part} (hp : s.power = .on) (h : LinesFollow s) : driveLines s = s := by
  obtain ⟨h1, h2, h3⟩ := h.1 hp
  simp only [driveLines, ← h1, ← h2, ← h3]

/-- The driven lines follow the conditions. -/
theorem driveLines_lines (s : Part) (h : s.power = .on) : LinesFollow (driveLines s) := by
  refine ⟨fun _ => ⟨rfl, rfl, rfl⟩, fun h2 => ?_⟩
  have e : (driveLines s).power = s.power := rfl
  rw [e, h] at h2
  cases h2

theorem finish_steady {s : Part} (h : Steady s) : finish s = s := by
  simp only [finish, settlePart_settled h.2.1, driveLines_follow h.1 h.2.2]

/-- The end of an event that leaves what the conditions and the lines are drawn from as it stood. -/
theorem finish_light {s t : Part} (h : Steady s) (hp : t.power = s.power) (hs : Settled t.plant)
    (hc : conditionSummary t = conditionSummary s) (hf : faultLevel t = faultLevel s)
    (ha : alertLevel t = alertLevel s) (h1 : t.conditions = s.conditions) (h2 : t.fault = s.fault)
    (h3 : t.alert = s.alert) : finish t = t := by
  obtain ⟨e1, e2, e3⟩ := h.2.2.1 h.1
  refine finish_steady ⟨hp.trans h.1, hs, fun _ => ⟨?_, ?_, ?_⟩, fun hh => ?_⟩
  · rw [h1, hc, e1]
  · rw [h2, hf, e2]
  · rw [h3, ha, e3]
  · rw [hp, h.1] at hh
    cases hh

/-! ### What `act` answers -/

/-- A command of the running part answers the end of its event. -/
theorem act_ending {f : Part → Part} {s : State} (h : s.part.power = .on) {t : Part} (hf : f s.part = t) :
    act f s = .next (s.endingAt t) := by
  simp only [act, Part.act_up h, hf, State.endingAt]

/-- An event that changes nothing leaves a steady state as it is. -/
theorem act_unchanged {f : Part → Part} {s : State} (h : Steady s.part) (hf : f s.part = s.part) :
    act f s = .next s := by
  simp only [act, Part.act_up h.1, hf, finish_steady h]

/-- An event that touches nothing the conditions and the lines are drawn from. -/
theorem act_light {f : Part → Part} {s : State} (h : Steady s.part) {t : Part} (hf : f s.part = t)
    (hp : t.power = s.part.power) (hs : Settled t.plant) (hc : conditionSummary t = conditionSummary s.part)
    (hl : faultLevel t = faultLevel s.part) (ha : alertLevel t = alertLevel s.part)
    (h1 : t.conditions = s.part.conditions) (h2 : t.fault = s.part.fault) (h3 : t.alert = s.part.alert) :
    act f s = .next { s with part := t } := by
  rw [act_ending h.1 hf, State.endingAt, finish_light h hp hs hc hl ha h1 h2 h3]

/-! ### Events and mirroring -/

/-- The raising of an event changes its own flag only, and can place a notice. -/
theorem Events.raise_pending (v : Events) (e : Event) (n : Nat) (h : n ≠ e.number) :
    (v.raise e).pending.getLsbD n = v.pending.getLsbD n := by
  have hb : e.bit.getLsbD n = false := by
    simp only [Event.bit, BitVec.getLsbD_shiftLeft]
    by_cases hn : n < e.number
    · simp [hn]
    · have h1 : n - e.number ≠ 0 := by omega
      simp [h1]
  simp [Events.raise, BitVec.getLsbD_or, hb]

/-- All that the mirroring of a frame can change. -/
theorem mirror_only (d : Direction) (f : Frame) (s : Part) : OnlyMirror s (mirror d f s) := by
  have hr : ∀ t : Part, OnlyMirror t t := fun t =>
    ⟨⟨rfl, rfl, rfl, rfl, rfl, rfl⟩, fun _ _ => rfl, ⟨rfl, rfl, rfl, rfl, rfl, rfl, rfl, rfl, rfl, rfl, rfl⟩,
      rfl, rfl, rfl, rfl, rfl, rfl, rfl, rfl, rfl, rfl, rfl, rfl⟩
  have hd : OnlyMirror s (s.raise .mirrorDrop) :=
    ⟨⟨rfl, rfl, rfl, rfl, rfl, rfl⟩, fun n hn => Events.raise_pending s.plant.events .mirrorDrop n hn,
      ⟨rfl, rfl, rfl, rfl, rfl, rfl, rfl, rfl, rfl, rfl, rfl⟩, rfl, rfl, rfl, rfl, rfl, rfl, rfl, rfl, rfl, rfl,
      rfl, rfl⟩
  unfold mirror
  split
  · exact hr s
  · split
    · exact hd
    · unfold enterMirror
      split
      · exact ⟨⟨rfl, rfl, rfl, rfl, rfl, rfl⟩, fun _ _ => rfl,
          ⟨rfl, rfl, rfl, rfl, rfl, rfl, rfl, rfl, rfl, rfl, rfl⟩, rfl, rfl, rfl, rfl, rfl, rfl, rfl, rfl, rfl, rfl,
      rfl, rfl⟩
      · exact hd

/-- The arrival of a good frame on U, before its disposal. -/
theorem uplineHeard_heard (s : Part) : uplineHeard (s.setRx .u .hunt) = s.heard := rfl

/-- The whole event of a good frame on U in terms of the part that has heard it. -/
theorem goodFrameU_heard (f : Frame) (p : Parsed) (s : Part) :
    goodFrameU f p s = mirror .down f (settlePart (disposeU (due s.cal.uptime s.line.quietT) f p s.heard)) := rfl

end Sys2Proof.Machine
end

