-- ==== Sys2Proof/Laws/Requests.lean ====
section
/-!
SUPPORT. The shape of every management request that reaches a part able to take it: what the command answers in
terms of `completeRequest`, and the whole effect of a request that changes nothing but its reply.
-/

namespace Sys2Proof.Machine

/-- A request that is asked is completed on the part that has heard its frame, and its frame is then offered for
mirroring. -/
theorem request_asked {h : ReqHead} {code : Byte} {args : List Byte} {r : ManageRequest} {s : State}
    (ha : Asked h s.part) (hw : (manageFrame h code args).wf = true) :
    act (requestFrame h code args (.request h.tag r)) s = .next (s.endingAt (mirror .down
      (manageFrame h code args) (settlePart (completeRequest true h.source h.tag r s.part.heard)))) := by
  obtain ⟨h1, _, h3, h4, h5⟩ := ha
  refine act_ending h1 ?_
  have e1 : s.part.heard.line.checkHold = false := h4
  have e2 : replyFull s.part.heard = false := decide_eq_false (Nat.not_le.2 h5)
  have e3 : s.part.heard.address = s.part.address := rfl
  have e4 : (manageFrame h code args).kind = kindManage := rfl
  simp only [requestFrame, hw, if_true, goodFrameU_heard, disposeU]
  rw [if_pos e4]
  simp [takeManage, manageFrame, h3, e3, takeDirected, e1, e2]

/-- A part that the mirroring of a frame leaves with no scan left over is settled. -/
theorem mirror_settled (d : Direction) (f : Frame) {s : Part} (h : Settled s.plant) : Settled (mirror d f s).plant := by
  obtain ⟨m, _⟩ := mirror_only d f s
  exact ⟨by rw [m.2.2.2.1]; exact h.1, by rw [m.2.2.2.2.1]; exact h.2⟩

/-- The carrying out of a request, its reply being entered after it, in terms of the part that it leaves. -/
theorem request_answered {h : ReqHead} {code : Byte} {args : List Byte} {r : ManageRequest} {s : State}
    (ha : Asked h s.part) (hw : (manageFrame h code args).wf = true) {u : Part} {a : Reply}
    (hc : completeRequest true h.source h.tag r s.part.heard = enterReply a u) (hf : replyFull u = false) :
    ∃ t : State, act (requestFrame h code args (.request h.tag r)) s = .next t ∧ t.pending = s.pending ∧
      Answered (manageFrame h code args) (settlePart u) t.part a := by
  refine ⟨_, request_asked ha hw, rfl, ?_⟩
  have e : settlePart (enterReply a u) = { settlePart u with
      line := { u.line with replyQueue := u.line.replyQueue ++ [a] } } := by
    simp only [enterReply, hf, Bool.false_eq_true, if_false]
    rfl
  rw [hc, e]
  rfl

/-- A request that changes nothing but its reply changes no record, no table, clock, level or mode, and of the Line
Interface the receiver of U, the queues of its reply and its copy, the quiet timer and the lost condition only. -/
theorem onlyReply_same {h : ReqHead} {f : Frame} {s t : Part} {r : Reply} (ha : Asked h s) (ho : OnlyReply f s t r) :
    Replied s t r ∧ SameLine s.line t.line ∧ SameRecords s.plant t.plant ∧ t.power = s.power ∧ t.tab = s.tab ∧
      t.cal = s.cal ∧ t.levels = s.levels ∧ t.mgmt = s.mgmt ∧ t.free = s.free ∧
      PendingBut s.plant.events.pending t.plant.events ∧ t.line.rxU = .hunt ∧
      t.line.quietT = s.heard.line.quietT ∧ t.line.uplineLost = false := by
  subst ho
  have hs : Settled s.plant := ha.2.1
  obtain ⟨m1, m2, m3, m4, m5, m6, m7, m8, m9, m10, m11, m12, m13, _⟩ :=
    mirror_only .down f { s.heard with line := { s.heard.line with replyQueue := s.heard.line.replyQueue ++ [r] } }
  simp only [Replied, finish_power, finish_tab, finish_cal, finish_levels, finish_mgmt, finish_line, finish_free,
    finish_plant]
  rw [settle_settled _ (mirror_settled .down f (s := { s.heard with
    line := { s.heard.line with replyQueue := s.heard.line.replyQueue ++ [r] } }) hs)]
  exact ⟨m5, m3, m1, m8, m9, m10, m11, m12, m13, m2, m4, m6, m7⟩

/-- A request that is asked and refused, having changed nothing, changes nothing but its reply. -/
theorem request_refused {h : ReqHead} {code : Byte} {args : List Byte} {r : ManageRequest} {s : State}
    (ha : Asked h s.part) (hw : (manageFrame h code args).wf = true) {a : Answer}
    (hc : carryOut r s.part.heard = (s.part.heard, a)) (hr : a.status = .refused) :
    ∃ t : State, act (requestFrame h code args (.request h.tag r)) s = .next t ∧ t.pending = s.pending ∧
      OnlyReply (manageFrame h code args) s.part t.part (replyOf h.source h.tag a) := by
  have hs : settlePart s.part.heard = s.part.heard := settlePart_settled ha.2.1
  have e : completeRequest true h.source h.tag r s.part.heard =
      enterReply (replyOf h.source h.tag a) s.part.heard := by
    simp only [completeRequest, hc, hs, hr, if_true]
  have o := request_answered ha hw e (decide_eq_false (Nat.not_le.2 ha.2.2.2.2))
  rwa [hs] at o

end Sys2Proof.Machine
end

