-- ==== Sys2Proof/Tests/Slice0.lean ====
section
/-!
SUPPORT. Tests, as named theorems. The settings, states and expected results are those of the manual's worked
sequences (sections 1.10, 2.8, 3.12, 4.12, 5.9, 5.10, 6.11, 6.12, 7.9, 8.7, 9.8, 10.8, 11.9) wherever a sequence
shows the point; a test that rests on a rule alone names the rule. The last part shows, for every obligation that
has hypotheses, a state and operands that meet them. The theorems are checked one after another (`Elab.async`): each
evaluates a part in the kernel, and many at once need too many threads.
-/

namespace Sys2Proof.Tests

open Sys2Proof.Machine

set_option Elab.async false

/-! ### A station -/

/-- The settings of the worked sequences: stage 1 (reservoir 2, fed from the unmetered reservoir 0) and stage 2
(reservoir 3, fed from reservoir 2), three pumps each, all on feeder A. -/
def site : Settings :=
  let p : PumpEntry := {
    defaultOwner := .auto, minRun := 600, minRest := 300, stopConfirm := 45, retryLimit := 1, provingTime := 900
    tripConfirm := 2 }
  let point (point kind target : Nat) : PointEntry := { used := true, station := 21, point, kind, target }
  { ({} : Settings) with
    t0 := ((((((((((({} : Settings).t0.set 4
      { used := true, station := 21, point := 1, target := 3, zero := 6553, span := 52429 }).set 5
      (point 10 1 9)).set 6 (point 11 2 9)).set 7 (point 12 4 9)).set 8 (point 2 0 2)).set 9 (point 20 1 4)).set 10
      (point 21 1 5)).set 11 (point 22 1 6)).set 12 (point 23 1 8)).set 13 (point 24 1 10)).set 14 (point 13 3 9)
    t1 := ((({} : Settings).t1.set 0 { enabled := true, kind := .unmetered }).set 2
      { enabled := true, fs := 5000, la := 600, tlb := 1000, thb := 3000, ha := 4000, ah := 100, stale := 300 }).set 3
      { enabled := true, fs := 5000, la := 800, tlb := 2400, thb := 3600, ha := 4200, ah := 150, stale := 300
        rateInterval := 120, cr := 400, pd := 600 }
    t2 := (({} : Settings).t2.set 1
      { enabled := true, delivery := 2, suction := 0, n := 3, maxRunning := 3, hb := 40 }).set 2
      { enabled := true, delivery := 3, suction := 2, n := 3, maxRunning := 3, hb := 40, kr := 8, pf := 700, sb := 800
        staleCount := 1, spacing := 120 }
    t3 := (((((({} : Settings).t3.set 4 { p with station := 11, point := 40, rating := 100 }).set 5
      { p with station := 11, point := 41, rating := 150 }).set 6
      { p with station := 11, point := 42, rating := 110 }).set 8
      { p with station := 12, point := 20, rating := 90 }).set 9
      { p with station := 12, point := 21, rating := 90, startsPerHour := 3 }).set 10
      { p with station := 12, point := 22, rating := 90 }
    t4a := { budget := 300, spacing := 60 }
    t5 := (((((((({} : Settings).t5.set 0 { used := true, cls := .cheap }).set 1
      { used := true, start := 420 }).set 2 { used := true, start := 1020, cls := .peak }).set 3
      { used := true, start := 1260 }).set 4 { used := true, start := 1380, cls := .cheap }).set 5
      { used := true, dayType := 1, cls := .cheap }).set 6 { used := true, dayType := 1, start := 480 }).set 7
      { used := true, dayType := 1, start := 1320, cls := .cheap }
    t6 := (({} : Settings).t6.set 5 1).set 6 1
    t7 := ({} : Settings).t7.set 0 { used := true, low := 20, high := 29, base := 40 }
    t8 := ({} : Settings).t8.set 0 { used := true, address := 5, mask := 2 }
    t9 := { service := 20, notice := 2, bypassLimit := 2, quietTime := 10, alertEnabled := true
            sourceValidation := true } }

/-- A pump of the station that is at rest: AUTO, OFF and last reported stopped. -/
def idle : Pump := { owner := .auto, feedback := .stopped }

/-- The station at rest: every assigned pump idle. -/
def calm : Plant :=
  { pumps := Vector.ofFn fun p : Fin 32 => if assigned site p then idle else unassignedPump site.t3[p] }

/-- The station with some pumps' records changed and the committed power as they give it. -/
def withPumps (ps : List (Fin 32 × Pump)) : Plant :=
  recommit site .a (ps.foldl (fun x p => x.setPump p.1 p.2) calm)

/-- A part of the station in service, with the levels of section 3.12.2, in a mode, at an uptime. -/
def part (m : Mode) (now : Nat) (x : Plant) : Part :=
  { Part.reset with
    tab := site, cal := { uptime := BitVec.ofNat 32 now }
    levels := ((Part.reset.levels.set 0 { level := 1000, state := .normal }).set 2
      { level := 1100, state := .normal, lastGood := BitVec.ofNat 32 now }).set 3
      { level := 2900, state := .normal, rate := 12, lastGood := BitVec.ofNat 32 now, sampleLevel := 2900
        sampleTime := BitVec.ofNat 32 now }
    plant := x
    mgmt := { addrMode := .service, mode := m, store := { copy := site, checkMatches := true }
              storeState := .valid } }

/-- The part with the conditions and the lines that its records give. -/
def state (s : Part) : State := { part := driveLines s, pending := [] }

/-- The command answers a next state of the part, and it is as `p` says. -/
def gives (c : Instr) (s : Part) (p : Part → Bool) : Bool :=
  match exec c (state s) with
  | .next t => p t.part
  | .fault _ => false
  | .refused _ => false

/-- A request head to the part's own address. -/
def ask : ReqHead := { dest := 20, source := 2, tag := 7 }

/-- The same to the commissioning address. -/
def ask63 : ReqHead := { dest := 63, source := 2, tag := 7 }

/-- The last reply of the reply queue: status, reason, tag and data. -/
def lastReply (s : Part) : Option (Byte × Byte × Byte × List Byte) :=
  s.line.replyQueue.getLast?.map fun r => (r.status, r.reason, r.tag, r.data)

/-! ### Well-formed commands -/

theorem test_wf_frame : (Instr.goodFrameOnU { dest := 1, source := 2, kind := 3, payload := List.replicate 60 0 }).wf =
    true ∧ (Instr.goodFrameOnU { dest := 1, source := 2, kind := 3, payload := List.replicate 61 0 }).wf = false ∧
    (Instr.goodFrameOnD { dest := 1, source := 2, kind := 3, payload := List.replicate 61 0 }).wf = false := by decide +kernel

theorem test_wf_port : (Instr.checkError .m none).wf = false ∧ (Instr.characterGapTimeout .m).wf = false ∧
    (Instr.checkError .u none).wf = true := by decide +kernel

theorem test_wf_tableWrite : (Instr.tableWrite ask [⟨9, 0, 1, List.replicate 28 0⟩]).wf = false ∧
    (Instr.tableWrite ask [⟨9, 0, 1, List.replicate 27 0⟩]).wf = true := by decide +kernel

theorem test_wf_unknownRequest : (Instr.unknownRequest ask 14 []).wf = false ∧
    (Instr.unknownRequest ask 1 []).wf = false ∧ (Instr.unknownRequest ask 15 (List.replicate 59 0)).wf = false ∧
    (Instr.unknownRequest ask 15 (List.replicate 58 0)).wf = true ∧ (Instr.unknownRequest ask 0 []).wf = true := by
  decide +kernel

/-- No word spells a command. -/
theorem test_decode : decodeTableWord 8 0xA5 = none ∧ decodeTableWord 16 1 = none := by decide

/-! ### Power, reset and the store -/

/-- Section 11.9: a new part powers up with an invalid store. -/
theorem test_powerOn_new : gives (.powerOn ⟨false, true⟩) { Part.reset with power := .off false }
      (fun t => t.mgmt.addrMode = .commissioning ∧ t.mgmt.mode = .passive ∧ t.mgmt.storeState = .invalid ∧
        t.mgmt.outcome = .loadFailed ∧ t.plant.events.pending = 0x8000 ∧ t.fault = true ∧
        t.line.rate = .b19200) := by decide +kernel

/-- Section 11.9: with auto-resume saved, the part answers at 20 in SETTLING; R169: for the settle time. -/
theorem test_powerOn_autoResume :
    gives (.powerOn ⟨false, false⟩) { power := .off false, fault := false, mgmt := { store :=
      { copy := { site with t9 := { site.t9 with autoResume := true } }, checkMatches := true } } }
      (fun t => t.address = 20 ∧ t.mgmt.mode = .settling ∧ t.mgmt.storeState = .valid ∧ t.mgmt.settleT = some 120 ∧
        t.fault = false ∧ (t.plant.pump 9).state = .unseen) := by decide +kernel

/-- R123, R136: while the RESET input is asserted FAULT is asserted, and transmissions are cut off. -/
theorem test_resetInput_asserted :
    gives (.resetInput .asserted) { part .active 5000 calm with
      line := { mTx := some { dest := 0, source := 41, kind := 1, payload := [] } } }
      (fun t => t.power = .held ∧ t.fault = true ∧ t.alert = false ∧ t.line.mTx = none) := by decide +kernel

/-- R171: the RESET input loads the tables from the store; R127: the straps are sampled at its release. -/
theorem test_resetInput_released :
    gives (.resetInput (.released ⟨true, true⟩)) { part .active 5000 calm with power := .held, tab := {} }
      (fun t => t.power = .on ∧ t.tab.t9.service = 20 ∧ t.mgmt.mode = .passive ∧ t.cal.uptime = 0 ∧
        t.line.rate = .b57600 ∧ t.fault = false) := by decide +kernel

/-- R170: a loss of power during a save leaves the check word failing. -/
theorem test_powerLoss_saving :
    gives .powerLoss { part .active 5000 calm with
      mgmt := { store := { copy := site, checkMatches := true, saving := some site }, storeState := .saving } }
      (fun t => t.power = .off false ∧ t.mgmt.store.checkMatches = false ∧ t.mgmt.store.saving = none) := by decide +kernel

/-- Section 11.9, step 9. -/
theorem test_settingsSaveComplete :
    gives (.settingsSaveComplete true) { part .passive 5000 calm with
      mgmt := { addrMode := .service, store := { saving := some site }, storeState := .saving,
                outcome := .loadFailed, storeInvalid := true } }
      (fun t => t.mgmt.storeState = .valid ∧ t.mgmt.outcome = .done ∧ t.plant.events.pending = 0x8000 ∧
        t.fault = false ∧ t.mgmt.store.checkMatches = true) := by decide +kernel

/-- R170: a save that fails leaves the store INVALID. -/
theorem test_settingsSaveComplete_failed :
    gives (.settingsSaveComplete false) { part .passive 5000 calm with
      mgmt := { addrMode := .service, store := { copy := site, checkMatches := true, saving := some site },
                storeState := .saving } }
      (fun t => t.mgmt.storeState = .invalid ∧ t.mgmt.outcome = .failed ∧ t.plant.events.pending = 0x8000 ∧
        t.mgmt.store.checkMatches = false) := by decide +kernel

/-! ### Time -/

/-- Section 2.8: the steps of uptime 53 and 54. -/
theorem test_secondsStep_clock :
    (advance { part .active 52 calm with cal := { uptime := 52, clockSet := true, day := 4, minute := 1019, second := 58 }
      }).cal = { uptime := 53, clockSet := true, day := 4, minute := 1019, second := 59 } ∧
    (advance { part .active 53 calm with cal := { uptime := 53, clockSet := true, day := 4, minute := 1019, second := 59 }
      }).cal = { uptime := 54, clockSet := true, day := 4, minute := 1020, second := 0, boundaryDue := true } := by
  decide +kernel

/-- R57: run seconds grow while the last feedback is RUNNING. Section 1.10: at uptime 600 the age of 300 s is
reached. -/
theorem test_secondsStep_counts :
    let s := advance { part .active 599 (withPumps [(9, { idle with state := .running, feedback := .running })]) with
      levels := Part.reset.levels.set 3 { level := 960, state := .normal, rate := -69, lastGood := 300 } }
    s.tab.t14[9] = 1 ∧ s.tab.t14[8] = 0 ∧ s.levels[3].staleDue = true := by decide +kernel

/-- Section 2.8: at minute 1020 the class becomes PEAK, handed on as a class change. -/
theorem test_minuteBoundary_peak :
    gives .minuteBoundary { part .passive 54 calm with
      cal := { uptime := 54, clockSet := true, day := 4, minute := 1020, boundaryDue := true } }
      (fun t => t.cal.cls = .peak ∧ (t.plant.stage 2).cause = .classChange ∧ (t.plant.stage 2).w = 1 ∧
        (t.plant.stage 2).d3 = 125) := by decide +kernel

/-- Section 2.8: at day 5, minute 0, the class stays CHEAP, and nothing is handed on. -/
theorem test_minuteBoundary_same :
    gives .minuteBoundary { part .passive 25254 calm with
      cal := { uptime := 25254, clockSet := true, day := 5, cls := .cheap, boundaryDue := true } }
      (fun t => t.cal.cls = .cheap ∧ (t.plant.stage 2).cause = .none) := by decide +kernel

/-- Section 1.10: the step at uptime 600. -/
theorem test_staleEntry :
    gives (.staleEntry 3) { part .passive 600 calm with
      levels := (part .passive 600 calm).levels.set 3
        { level := 960, state := .normal, rate := -69, lastGood := 300, sampleLevel := 960, sampleTime := 300
          staleDue := true } }
      (fun t => t.levels[3] = { level := 960, state := .stale, rate := 0, lastGood := 300, sampleLevel := 960,
                                sampleTime := 300 } ∧
        t.plant.events.pending = 0x40 ∧ t.conditions = 0x10) := by decide +kernel

/-- R10: a write takes effect at the next step, so a stale time written longer after the step that reached it does not
withdraw the entry. -/
theorem test_staleEntry_lengthened :
    gives (.staleEntry 3) { part .passive 600 calm with
      tab := { site with t1 := site.t1.set 3 { site.t1[3] with stale := 3600 } }
      levels := (part .passive 600 calm).levels.set 3 { level := 960, state := .normal, lastGood := 300, staleDue := true } }
      (fun t => t.levels[3].state = .stale ∧ t.plant.events.pending = 0x40) := by decide +kernel

/-- Section 4.12: at 4618 the entry 1018 ages out. -/
theorem test_startHistoryAgeing :
    gives (.startHistoryAgeing 2) (part .passive 4618 (withPumps [(9, { idle with history := [1018, 2400, 3100] })]))
      (fun t => (t.plant.pump 9).history = [2400, 3100]) := by decide +kernel

/-- Section 4.12: min run expiry at 1618. -/
theorem test_minRunExpiry :
    gives (.minRunExpiry 9) (part .passive 1618 (withPumps [(9,
      { idle with state := .running, feedback := .running, minRunT := some 1618 })]))
      (fun t => (t.plant.pump 9).minRunMet = true ∧ (t.plant.pump 9).minRunT = none ∧
        (t.plant.pump 9).state = .running) := by
  decide +kernel

/-- Section 4.12: min rest expiry at 2015. -/
theorem test_minRestExpiry :
    gives (.minRestExpiry 9) (part .passive 2015 (withPumps [(9, { idle with state := .resting, minRestT := some 2015 })]))
      
      (fun t => (t.plant.pump 9).state = .off ∧ (t.plant.pump 9).minRestT = none) := by decide +kernel

/-- R72, R113, R114: a start that is not confirmed is a NO_FEEDBACK trip, with a STOP made pending. -/
theorem test_startConfirmExpiry :
    gives (.startConfirmExpiry 9) (part .active 1031 (withPumps [(9,
      { idle with state := .starting, cmd := some ⟨.run, .sent, 0⟩, startT := some 1031 })]))
      (fun t => (t.plant.pump 9).state = .tripped ∧ (t.plant.pump 9).cause = .noFeedback ∧
        (t.plant.pump 9).retries = 1 ∧ (t.plant.pump 9).retryT = some 1631 ∧ (t.plant.pump 9).awaits .stop = true ∧
        t.plant.events.pending = 0x200) := by decide +kernel

/-- Section 4.12: the stop confirm of p10 expires at 2157 with the last feedback STOPPED and the last stop at 200. -/
theorem test_stopConfirmExpiry :
    gives (.stopConfirmExpiry 10) (part .active 2157 (withPumps [(10,
      { idle with state := .stopping, cmd := some ⟨.stop, .sent, 0⟩, stopT := some 2157, stopAt := 200
                  stopRecorded := true })]))
      (fun t => (t.plant.pump 10).state = .off ∧ (t.plant.pump 10).cmd = none ∧ t.plant.events.pending = 0 ∧
        t.plant.feedA.committed = 0) := by decide +kernel

/-- Section 4.12: with the last feedback RUNNING the expiry would be a stop failure. -/
theorem test_stopConfirmExpiry_failure :
    gives (.stopConfirmExpiry 10) (part .passive 2157 (withPumps [(10,
      { idle with state := .stopping, feedback := .running, cmd := some ⟨.stop, .sent, 0⟩, stopT := some 2157 })]))
      (fun t => (t.plant.pump 10).state = .stopFailed ∧ t.plant.events.pending = 0x800 ∧
        t.plant.feedA.committed = 90) := by decide +kernel

/-- Section 5.9: at 6120 p10, which is warned, is stopped before p8. -/
theorem test_stopSpacingExpiry :
    gives (.stopSpacingExpiry 2) (part .active 6120 ((withPumps [
        (8, { idle with state := .running, feedback := .running, minRunMet := true, runStart := 5330 }),
        (9, { idle with state := .resting }),
        (10, { idle with state := .running, feedback := .running, minRunMet := true, runStart := 5420, warn := true })
      ]).setStage 2 { w := 1, spacingT := some 6120 }))
      (fun t => (t.plant.pump 8).state = .running ∧ (t.plant.pump 10).state = .stopping ∧
        (t.plant.stage 2).spacingT = some 6240) := by decide +kernel

/-- Section 6.11: at 7060 the slot becomes FREE. -/
theorem test_feederSpacingExpiry :
    gives (.feederSpacingExpiry .a) (part .active 7060 { calm with
      feedA := { committed := 270, busy := true, holder := 9, released := true, spacingT := some 7060 }
      queue := [⟨5, .a, .normal, 1, false, 1⟩] })
      (fun t => t.plant.feedA.busy = false ∧ t.plant.feedA.spacingT = none ∧
        t.plant.queue = [⟨5, .a, .normal, 1, false, 1⟩]) := by decide +kernel

/-- Section 7.9: at 3705 the indication still stands, so p6 waits in TRIPPED. -/
theorem test_retryTimerExpiry_indicated :
    gives (.retryTimerExpiry 6) (part .active 3705 (withPumps [(6,
      { idle with state := .tripped, cause := .starterTrip, retries := 1, tripCount := 2, tripInd := true
                  retryT := some 3705, stopAt := 3112, stopRecorded := true })]))
      (fun t => (t.plant.pump 6).state = .tripped ∧ (t.plant.pump 6).retryT = none ∧
        (t.plant.pump 6).retries = 1) := by
  decide +kernel

/-- Section 7.9: a LOST_RUN after proving at 4900 would find the retry count 0. -/
theorem test_provingExpiry :
    gives (.provingExpiry 6) (part .active 4900 (withPumps [(6,
      { idle with state := .running, feedback := .running, retries := 1, provingT := some 4900 })]))
      (fun t => (t.plant.pump 6).retries = 0 ∧ (t.plant.pump 6).provingT = none ∧
        (t.plant.pump 6).state = .running) := by
  decide +kernel

/-- R137, R159: the fallback makes a MANUAL pump AUTO where its flag is set. -/
theorem test_uplineQuietExpiry :
    gives .uplineQuietExpiry { part .passive 900 (withPumps [(4, { idle with owner := .manual }),
        (5, { idle with owner := .manual })]) with
      tab := { site with t3 := site.t3.set 4 { site.t3[4] with fallback := true } }
      line := { quietT := some 900 } }
      (fun t => (t.plant.pump 4).owner = .auto ∧ (t.plant.pump 5).owner = .manual ∧ t.line.uplineLost = true ∧
        t.plant.events.pending = 0x4000 ∧ t.conditions = 0x40) := by decide +kernel

/-- R160, R137: a frame with a STOP for p4 that meets the upline quiet expiry, taken first: p4 becomes AUTO in STOPPING
with the STOP in transit, p5 keeps MANUAL, the timer restarts and no loss is taken. -/
theorem test_goodFrameOnU_meetsQuiet :
    gives (.goodFrameOnU { dest := 11, source := 5, kind := 2, payload := [40, 2] })
      { part .active 900 (withPumps
          [(4, { idle with owner := .manual, state := .running, feedback := .running }),
            (5, { idle with owner := .manual })]) with
        tab := { site with
          t3 := (site.t3.set 4 { site.t3[4] with fallback := true }).set 5 { site.t3[5] with fallback := true } }
        line := { quietT := some 900 } }
      (fun t => (t.plant.pump 4).owner = .auto ∧ (t.plant.pump 4).state = .stopping ∧
        (t.plant.pump 4).cmd = some ⟨.stop, .inTransit, 0⟩ ∧ (t.plant.pump 5).owner = .manual ∧
        t.line.quietT = some 910 ∧ t.line.uplineLost = false ∧ t.plant.events.pending = 0) := by decide +kernel

/-- Section 11.9: the settle expiry enters ACTIVE where the checks pass, and every stage is evaluated. -/
theorem test_settleExpiry :
    gives .settleExpiry { part .settling 120 calm with
      mgmt := { addrMode := .service, mode := .settling, settleT := some 120 } }
      (fun t => t.mgmt.mode = .active ∧ t.mgmt.lastCheck = .passed ∧ (t.plant.stage 2).cause = .modeEntry ∧
        (t.plant.stage 2).w = 2) := by decide +kernel

/-! ### The line -/

/-- R130: 250 ms of quiet clear the check hold. -/
theorem test_checkHoldQuiet : gives .checkHoldQuiet { part .active 5000 calm with line := { checkHold := true } }
      (fun t => t.line.checkHold = false ∧ t.plant.events.pending = 0) := by decide +kernel

/-- R128, R130: a gap on U after the part's own address has been received sets the check hold. -/
theorem test_characterGapTimeout :
    gives (.characterGapTimeout .u) { part .active 5000 calm with line := { rxU := .header [20] } }
      (fun t => t.line.rxU = .hunt ∧ t.line.checkHold = true ∧ t.plant.events.pending = 1) ∧
    gives (.characterGapTimeout .u) { part .active 5000 calm with line := { rxU := .header [] } }
      (fun t => t.line.rxU = .hunt ∧ t.line.checkHold = false ∧ t.plant.events.pending = 1) := by decide +kernel

/-- R129, R130: a check error on D does not set the check hold. -/
theorem test_checkError :
    gives (.checkError .d (some 20)) (part .active 5000 calm)
      (fun t => t.line.checkHold = false ∧ t.plant.events.pending = 1) ∧
    gives (.checkError .u (some 21)) (part .active 5000 calm) (fun t => t.line.checkHold = false) := by decide +kernel

/-- The generator x^8 + x^2 + x + 1 from an initial value of 0 (R129) gives F4h for the digits 1 to 9: the
published check value of that code. -/
theorem test_crc : crc [0x31, 0x32, 0x33, 0x34, 0x35, 0x36, 0x37, 0x38, 0x39] = 0xF4 := by decide +kernel

/-- R128: an opener begins a frame; a length above 60 abandons it, and 60 does not. -/
theorem test_characterReceived :
    gives (.characterReceived .d 0xA5 true) (part .active 5000 calm) (fun t => t.line.rxD = .header []) ∧
    gives (.characterReceived .d 61 true) { part .active 5000 calm with line := { rxD := .header [20, 21, 1] } }
      (fun t => t.line.rxD = .hunt ∧ t.plant.events.pending = 1) ∧
    gives (.characterReceived .d 60 true) { part .active 5000 calm with line := { rxD := .header [20, 21, 1] } }
      (fun t => t.line.rxD = .payload 20 21 1 60 []) := by decide +kernel

/-- R128, R129: a frame of no payload whose check byte is right is a good frame; this one, from the foreign source
45 of section 9.8, raises FOREIGN_SOURCE and is dropped. -/
theorem test_characterReceived_check :
    gives (.characterReceived .d (crc [20, 45, 1, 0]) true) { part .active 5000 calm with
      line := { rxD := .check 20 45 1 [] } }
      (fun t => t.line.rxD = .hunt ∧ t.plant.events.pending = 8 ∧ t.line.uQueue = []) := by decide +kernel

/-- The records of section 10.8: p4, p5 MANUAL and OFF, 150 kW committed on feeder A. -/
def yard : Plant :=
  withPumps [(4, { idle with owner := .manual }), (5, { idle with owner := .manual }),
    (8, { idle with state := .running, feedback := .running }), (6, { idle with state := .unseen })]

/-- Section 10.8: the frame (40, RUN), (41, RUN) is refused at its second item with SLOT_BUSY. The budget is made
350 kW, since 200 kW are committed here. -/
theorem test_goodFrameOnU_refused :
    gives (.goodFrameOnU { dest := 11, source := 5, kind := 2, payload := [40, 1, 41, 1] })
      { part .active 5000 yard with tab := { site with t4a := { site.t4a with budget := 350 } } }
      (fun t => (t.plant.pump 4).state = .off ∧ t.plant.feedA.busy = false ∧ t.plant.events.pending = 0x10 ∧
        lastReply t = some (2, 0x19, 0, [1, 41]) ∧ t.line.dQueue = []) := by decide +kernel

/-- Section 10.8: the item (40, RUN) alone passes. -/
theorem test_goodFrameOnU_passed :
    gives (.goodFrameOnU { dest := 11, source := 5, kind := 2, payload := [40, 1] })
      { part .active 5000 yard with tab := { site with t4a := { site.t4a with budget := 350 } } }
      (fun t => (t.plant.pump 4).state = .starting ∧ (t.plant.pump 4).cmd = some ⟨.run, .inTransit, 0⟩ ∧
        t.plant.feedA.busy = true ∧ t.plant.feedA.holder = 4 ∧ t.plant.feedA.committed = 300 ∧
        t.line.dQueue.map DFrame.carried = [[(4, 0)]] ∧ t.line.quietT = some 5010) := by decide +kernel

/-- The telemetry frame of section 9.8. -/
def telemetry : Frame :=
  { dest := 1, source := 21, kind := 1
    payload := [1, 0, 0x80, 0x00, 10, 1, 0, 1, 11, 2, 0, 1, 12, 0, 0, 0, 7, 0, 0, 100, 1, 1, 0x9C, 0x40] }

/-- Section 9.8: the level, the running feedback, the ignored trip, the forwarding and the copy from 41. -/
theorem test_goodFrameOnD :
    gives (.goodFrameOnD telemetry) (part .passive 5000 calm)
      (fun t => t.levels[3].level = 2500 ∧ (t.plant.pump 9).state = .running ∧ (t.plant.pump 9).tripCount = 0 ∧
        t.line.uQueue = [telemetry] ∧ t.line.mirrorQueue = [{ telemetry with source := 41 }] ∧
        t.plant.events.pending = 0x1000) := by decide +kernel

/-- Section 9.8: the frame from the foreign source 45 is dropped. -/
theorem test_goodFrameOnD_foreign :
    gives (.goodFrameOnD { telemetry with source := 45 }) (part .passive 5000 calm)
      (fun t => t.levels[3].level = 2900 ∧ t.line.uQueue = [] ∧ t.line.mirrorQueue = [] ∧
        t.plant.events.pending = 8) := by decide +kernel

/-- Section 9.8: the raw values of the level point. -/
theorem test_scaleLevel :
    ([32768, 5000, 6553, 6554, 58982, 65535].map fun raw => scaleLevel site.t0[4] 5000 raw) =
      [2500, 0, 0, 0, 5000, 5000] := by decide +kernel

/-- The records of section 8.7. -/
def busy : Plant :=
  withPumps [(4, { idle with state := .stopping, feedback := .running, cmd := some ⟨.stop, .awaiting, 0⟩ }),
    (8, { idle with state := .starting, cmd := some ⟨.run, .awaiting, 1⟩ }),
    (10, { idle with state := .stopping, feedback := .running, cmd := some ⟨.stop, .awaiting, 2⟩ })]

/-- F1 of section 8.7. -/
def f1 : DFrame := { frame := { dest := 30, source := 2, kind := 9, payload := [] }, carried := [] }

/-- Section 8.7, step 1: the turn is FORWARD, so F1 is sent and the turn becomes COMMAND. -/
theorem test_dTransmitStart_forward :
    gives .dTransmitStart { part .active 5000 busy with line := { dQueue := [f1, f1], pointer := 9 } }
      (fun t => t.line.dTx = some f1 ∧ t.line.dQueue = [f1] ∧ t.line.dTurn = .own ∧ t.line.pointer = 9) := by
  decide +kernel

/-- Section 8.7, step 2: from slot 10 onward p10 is first; the frame of station 12 holds point 20 RUN and point 22
STOP, and the pointer becomes 10. -/
theorem test_dTransmitStart_command :
    gives .dTransmitStart { part .active 5000 busy with line := { dQueue := [f1], pointer := 9, dTurn := .own } }
      (fun t => t.line.dTx = some { frame := { dest := 12, source := 20, kind := 2, payload := [20, 1, 22, 2] },
                                    carried := [(8, 1), (10, 2)] } ∧
        t.line.pointer = 10 ∧ t.line.dTurn = .forward ∧ (t.plant.pump 8).cmd = some ⟨.run, .inTransit, 1⟩ ∧
        (t.plant.pump 4).cmd = some ⟨.stop, .awaiting, 0⟩) := by decide +kernel

/-- Section 4.12: the frame completes at 1001, and the start confirm runs to 1031; section 8.7: p10's stop confirm
starts too. A command that has been replaced is not touched (R70). -/
theorem test_dTransmitComplete :
    gives .dTransmitComplete { part .active 1001 (withPumps [
        (8, { idle with state := .starting, cmd := some ⟨.run, .inTransit, 1⟩ }),
        (9, { idle with state := .stopping, cmd := some ⟨.stop, .awaiting, 3⟩ }),
        (10, { idle with state := .stopping, feedback := .running, cmd := some ⟨.stop, .inTransit, 2⟩ })]) with
      line := { dTx := some { f1 with carried := [(8, 1), (9, 0), (10, 2)] } } }
      (fun t => t.line.dTx = none ∧ (t.plant.pump 8).cmd = some ⟨.run, .sent, 1⟩ ∧
        (t.plant.pump 8).startT = some 1031 ∧ (t.plant.pump 10).stopT = some 1046 ∧
        (t.plant.pump 9).cmd = some ⟨.stop, .awaiting, 3⟩) := by decide +kernel

/-- Section 7.9: the notice at 3106 carries event 9, condition 0 and the mode; the notified set becomes 9 and the
slot EMPTY. -/
theorem test_uTransmitStart_notice :
    gives .uTransmitStart (part .active 3106 { withPumps [(6, { idle with state := .tripped })] with
      events := { pending := 0x200, on := true, waiting := true } })
      (fun t => t.line.uTx = some (.notice { dest := 2, source := 20, kind := 4, payload := [2, 0, 0, 1, 3] }) ∧
        t.plant.events = { pending := 0x200, notified := 0x200, on := true, waiting := false } ∧
        t.line.uTurn = .forward) := by decide +kernel

/-- R134: with the turn FORWARD the forward queue is served before the reply queue; R139: the layout of a reply. -/
theorem test_uTransmitStart_turns :
    let r : Reply := { dest := 2, status := 0, reason := 0, tag := 7, data := [9], restart := false }
    gives .uTransmitStart { part .active 5000 calm with line := { uQueue := [telemetry], replyQueue := [r] } }
      (fun t => t.line.uTx = some (.forward telemetry) ∧ t.line.uTurn = .own) ∧
    gives .uTransmitStart { part .active 5000 calm with
      line := { uQueue := [telemetry], replyQueue := [r], uTurn := .own } }
      (fun t => t.line.uTx = some (.reply { dest := 2, source := 20, kind := 3, payload := [0, 0, 7, 9] } false) ∧
        t.line.uQueue = [telemetry] ∧ t.line.replyQueue = [] ∧ t.line.uTurn = .forward) := by decide +kernel

/-- R171: at the completion of the reply of a RESTART the mode is PASSIVE and the pumps are UNSEEN, and the tables
are kept; R29: the class is recomputed. -/
theorem test_uTransmitComplete_restart :
    gives (.uTransmitComplete ⟨true, false⟩) { part .active 5000 calm with
      cal := { uptime := 5000, clockSet := true, day := 4, minute := 1020 }
      line := { uTx := some (.reply { dest := 2, source := 20, kind := 3, payload := [0, 0, 7] } true) } }
      (fun t => t.mgmt.mode = .passive ∧ (t.plant.pump 9).state = .unseen ∧ t.tab.t9.service = 20 ∧
        t.cal = { uptime := 0, clockSet := true, day := 4, minute := 1020, cls := .peak } ∧
        t.line = { rate := .b38400, quietT := some 10 }) := by decide +kernel

/-- R134: after any other transmission the transmitter is idle, and nothing else changes. -/
theorem test_uTransmitComplete :
    gives (.uTransmitComplete ⟨true, false⟩) { part .active 5000 calm with line := { uTx := some (.forward telemetry) } }
      (fun t => t.line = {} ∧ t.mgmt.mode = .active ∧ t.cal.uptime = 5000) := by decide +kernel

/-- R136: the M transmitter takes the head of the mirror queue, and is idle after it. -/
theorem test_mTransmit :
    gives .mTransmitStart { part .active 5000 calm with line := { mirrorQueue := [telemetry, f1.frame] } }
      (fun t => t.line.mTx = some telemetry ∧ t.line.mirrorQueue = [f1.frame]) ∧
    gives .mTransmitComplete { part .active 5000 calm with line := { mTx := some telemetry } }
      (fun t => t.line.mTx = none) := by decide +kernel

/-! ### Requests -/

/-- R172: the words of a new part: COMMISSIONING, SETTINGS pending, condition 3, NORMAL, INVALID, LOAD_FAILED. -/
theorem test_statusRead :
    gives (.statusRead ask63) Part.reset (fun t => lastReply t = some (0, 0, 7, wordsBytes
      [0, 0, 0x8000, 8, 0, 0, 0, 0, 1, 0, 0, 1, 3, 0, 0, 0, 0, 0, 0, 0, 0, 0, 0, 0, 0])) := by decide +kernel

/-- R164: two T1 entries from the last wrap to entry 0, here from word 12, the first of entry 0; the total is 24. -/
theorem test_tableRead :
    gives (.tableRead ask 1 9 2 12) (part .active 5000 calm) (fun t => lastReply t = some (0, 0, 7, wordsBytes
      [24, 1, 1, 1000, 0, 0, 0, 0, 0, 10, 30, 0, 0])) ∧
    gives (.tableRead ask 15 0 1 0) (part .active 5000 calm) (fun t => lastReply t = some (2, 3, 7, [])) := by
  decide +kernel

/-- Section 11.9, step 2: the upline quiet time 5 is clamped to 10, and the timer is started. -/
theorem test_tableWrite_clamped :
    gives (.tableWrite ask63 [⟨9, 0, 1, [20, 2, 1, 3, 5, 120, 0]⟩]) Part.reset
      (fun t => lastReply t = some (0x01, 0, 7, []) ∧ t.tab.t9.service = 20 ∧ t.tab.t9.notice = 2 ∧
        t.tab.t9.quietTime = 10 ∧ t.line.quietT = some 10) := by decide +kernel

/-- Section 11.9, step 8: during a save a write is BUSY. -/
theorem test_tableWrite_busy :
    gives (.tableWrite ask [⟨6, 0, 1, [1]⟩]) { part .passive 5000 calm with
      mgmt := { addrMode := .service, store := { saving := some site }, storeState := .saving } }
      (fun t => lastReply t = some (2, 8, 7, []) ∧ t.tab.t6[0] = 0) := by decide +kernel

/-- Section 11.9, step 1: MODE_SET ACTIVE in COMMISSIONING is refused with WRONG_MODE. -/
theorem test_modeSet_wrongMode :
    gives (.modeSet ask63 3) Part.reset (fun t => lastReply t = some (2, 7, 7, []) ∧ t.mgmt.mode = .passive) := by
  decide +kernel

/-- Section 11.9, steps 5 and 10: p6 without a RUN_FEEDBACK entry fails check 3 at index 6; with it the mode is
ACTIVE. -/
theorem test_modeSet_active :
    gives (.modeSet ask 3) { part .passive 5000 calm with
      tab := { site with t0 := site.t0.set 11 { site.t0[11] with used := false } } }
      (fun t => lastReply t = some (2, 0x0A, 7, [3, 6]) ∧ t.mgmt.lastCheck = .inconsistent 3 6 ∧
        t.mgmt.mode = .passive) ∧
    gives (.modeSet ask 3) (part .passive 5000 calm)
      (fun t => lastReply t = some (0, 0, 7, []) ∧ t.mgmt.lastCheck = .passed ∧ t.mgmt.mode = .active) := by
  decide +kernel

/-- R153: p9 becomes MANUAL; slot 7 is not assigned. -/
theorem test_ownerSet :
    gives (.ownerSet ask 9 1) (part .passive 5000 calm)
      (fun t => (t.plant.pump 9).owner = .manual ∧ lastReply t = some (0, 0, 7, [])) ∧
    gives (.ownerSet ask 7 1) (part .passive 5000 calm) (fun t => lastReply t = some (2, 4, 7, [])) := by decide +kernel

/-- Section 2.8: the CLOCK_SET at uptime 52 evaluates every enabled stage, the class staying NORMAL. -/
theorem test_clockSet :
    gives (.clockSet ask 4 1019 58) (part .passive 52 calm)
      (fun t => t.cal = { uptime := 52, clockSet := true, day := 4, minute := 1019, second := 58 } ∧
        (t.plant.stage 2).cause = .clockSet ∧ lastReply t = some (0, 0, 7, [])) ∧
    gives (.clockSet ask 7 0 0) (part .passive 52 calm)
      (fun t => t.cal = { uptime := 52 } ∧ lastReply t = some (2, 5, 7, [])) := by decide +kernel

/-- R124, R172: NOTICE_ON with a flag pending places a notice; a confirm flag of 0 is refused. -/
theorem test_noticeOn :
    gives (.noticeOn ask 1) (part .active 5000 { calm with events := { pending := 1, notified := 1 } })
      (fun t => t.plant.events = { pending := 1, notified := 0, on := true, waiting := true }) ∧
    gives (.noticeOn ask 0) (part .active 5000 calm)
      (fun t => lastReply t = some (2, 9, 7, []) ∧ t.plant.events.on = false) := by decide +kernel

/-- R124, R172: NOTICE_OFF empties the slot; by broadcast it is not answered. -/
theorem test_noticeOff :
    gives (.noticeOff { ask with dest := 0 } 1) (part .active 5000 { calm with
      events := { pending := 1, on := true, waiting := true } })
      (fun t => t.plant.events = { pending := 1 } ∧ lastReply t = none) := by decide +kernel

/-- Section 7.9: EVENT_CLEAR at 4400 with a keep-mask of 0. -/
theorem test_eventClear :
    gives (.eventClear ask 0) (part .active 4400 { calm with
      events := { pending := 0x600, notified := 0x600, on := true } })
      (fun t => t.plant.events = { pending := 0, notified := 0, on := true } ∧ lastReply t = some (0, 0, 7, [])) := by
  decide +kernel

/-- Section 7.9: TRIP_RESET at 4350: p6, whose stop was recorded at 4200, rests to 4500. -/
theorem test_tripReset :
    gives (.tripReset ask 6) (part .active 4350 (withPumps [(6,
      { idle with state := .lockedOut, retries := 1, cause := .lostRun, stopAt := 4200, stopRecorded := true })]))
      (fun t => (t.plant.pump 6).state = .resting ∧ (t.plant.pump 6).retries = 0 ∧
        (t.plant.pump 6).minRestT = some 4500 ∧ t.fault = false) ∧
    gives (.tripReset ask 9) (part .active 4350 calm) (fun t => lastReply t = some (2, 9, 7, [])) := by decide +kernel

/-- Section 11.9, step 3: the reply of ADDRESS_TAKE comes from 20, the address at the time it is sent. -/
theorem test_addressTake :
    gives (.addressTake ask63) { part .passive 5000 calm with mgmt := {} }
      (fun t => t.mgmt.addrMode = .service ∧ lastReply t = some (0, 0, 7, []) ∧ t.address = 20) ∧
    gives (.addressTake ask63) Part.reset (fun t => lastReply t = some (2, 7, 7, [])) := by decide +kernel

/-- R130, R166: ADDRESS_RELEASE is carried out under a check hold, and clears it. -/
theorem test_addressRelease :
    gives (.addressRelease ask) { part .active 5000 calm with line := { checkHold := true } }
      (fun t => t.mgmt.addrMode = .commissioning ∧ t.mgmt.mode = .passive ∧ t.line.checkHold = false ∧
        lastReply t = some (0, 0, 7, []) ∧ t.address = 63) := by decide +kernel

/-- Section 11.9, step 7: the store is SAVING with the tables as they stand; a second request is BUSY (R162). -/
theorem test_settingsSave :
    gives (.settingsSave ask) (part .passive 5000 calm)
      (fun t => t.mgmt.storeState = .saving ∧ t.mgmt.store.saving = some site ∧ lastReply t = some (0, 0, 7, [])) ∧
    gives (.settingsSave ask) { part .passive 5000 calm with mgmt := { addrMode := .service, restartPending := true } }
      (fun t => lastReply t = some (2, 8, 7, [])) := by decide +kernel

/-- R171: RESTART sets the restart-pending flag and is answered; nothing is reset yet. -/
theorem test_restart :
    gives (.restart ask) (part .active 5000 calm)
      (fun t => t.mgmt.restartPending = true ∧ t.mgmt.mode = .active ∧ lastReply t = some (0, 0, 7, []) ∧
        t.line.replyQueue.map Reply.restart = [true]) := by decide +kernel

/-- R162: a code outside 01h..0Eh is UNKNOWN_REQUEST; under a check hold it is CHECK_HOLD. -/
theorem test_unknownRequest :
    gives (.unknownRequest ask 0x0F [1, 2]) (part .active 5000 calm) (fun t => lastReply t = some (2, 2, 7, [])) ∧
    gives (.unknownRequest ask 0x0F []) { part .active 5000 calm with line := { checkHold := true } }
      (fun t => lastReply t = some (2, 1, 7, [])) := by decide +kernel

/-! ### Levels, demand, reconciliation and arbitration -/

/-- The record of reservoir 3 after a level arrival at an uptime. -/
def arrive (rec : ResLive) (now l : Nat) : ResLive := arrivalRecord site.t1[3] (BitVec.ofNat 32 now) l rec

/-- Section 1.10: the arrivals up to uptime 300. -/
theorem test_arrivals :
    let r1 := arrive {} 40 900
    let r2 := arrive (arrive r1 100 870) 170 810
    let r3 := arrive r2 230 795
    let r4 := arrive r3 260 930
    r1 = { level := 900, state := .normal, lastGood := 40, sampleLevel := 900, sampleTime := 40 } ∧
    r2 = { level := 810, state := .normal, rate := 41, lastGood := 170, sampleLevel := 810, sampleTime := 170 } ∧
    r3 = { level := 795, state := .lowAlarm, rate := 41, lastGood := 230, sampleLevel := 810, sampleTime := 170 } ∧
    r4 = { r3 with level := 930, lastGood := 260 } ∧
    arrive r4 300 960 =
      { level := 960, state := .normal, rate := -69, lastGood := 300, sampleLevel := 960, sampleTime := 300 } := by
  decide +kernel

/-- The demand fields of stage 2 after an evaluation with a class, a delivery record and a suction record. -/
def demand (c : TariffClass) (d s : ResLive) (l : StageLive) : List Nat × Override :=
  let v : View := { (part .active 5000 calm).view with
    cls := c, levels := ((part .active 5000 calm).levels.set 3 d).set 2 s }
  let e := evaluated v 2 l
  ([e.d0, e.d1, e.d2, e.d3, e.w], e.override)

/-- Section 3.12.2: the rows of the table. -/
theorem test_demand_classes :
    let d : ResLive := { level := 2900, state := .normal, rate := 12 }
    let s : ResLive := { level := 1100, state := .normal }
    demand .peak d s {} = ([83, 179, 125, 125, 1], .none) ∧
    demand .normal d s { w := 1 } = ([583, 679, 679, 625, 2], .none) ∧
    demand .cheap d s { w := 2 } = ([916, 1000, 1000, 625, 2], .none) ∧
    demand .cheap d { s with level := 650 } { w := 2 } = ([916, 1000, 1000, 62, 1], .none) ∧
    demand .cheap d { level := 590, state := .lowAlarm } { w := 1 } = ([916, 1000, 1000, 0, 0], .dryRun) := by
  decide +kernel

/-- Sections 3.12.3 and 3.12.4: a stale delivery level, and a delivery low alarm in PEAK. -/
theorem test_demand_stale_and_low :
    let l : StageLive := { d0 := 583, d1 := 679, d2 := 679, d3 := 625, w := 2 }
    let d : ResLive := { level := 2900, state := .stale }
    let s : ResLive := { level := 2000, state := .normal }
    demand .normal d { s with level := 1050 } l = ([583, 679, 679, 625, 1], .staleHold) ∧
    demand .normal d { level := 590, state := .lowAlarm } l = ([583, 679, 679, 0, 0], .dryRun) ∧
    demand .normal { level := 2950, state := .normal } { s with level := 760 } { l with w := 0 } =
      ([541, 541, 541, 200, 1], .none) ∧
    demand .peak { level := 795, state := .lowAlarm, rate := 41 } s { w := 1 } = ([1000, 1000, 1000, 1000, 3], .none) ∧
    demand .peak { level := 960, state := .normal, rate := -69 } s { w := 3 } = ([1000, 1000, 700, 700, 3], .none) ∧
    demand .peak { level := 1850, state := .normal, rate := -30 } s { w := 3 } = ([958, 718, 502, 502, 2], .none) := by
  decide +kernel

/-- Section 3.12.1: the demand thresholds of n = 3 with HB = 40, and the bands of the three classes. -/
theorem test_thresholds_and_bands :
    ([1, 2, 3].map fun k => (tOn 3 40 k, tOff 3 40 k)) = [(40, 0), (373, 293), (706, 626)] ∧
    bandHigh site.t1[3] .cheap = 4000 ∧ bandLow site.t1[3] .cheap = 2800 ∧
    bandHigh site.t1[3] .peak = 3000 ∧ bandLow site.t1[3] .peak = 1800 ∧
    bandHigh { site.t1[3] with cr := 700 } .cheap = 4199 ∧ bandLow { site.t1[3] with cr := 700 } .cheap = 3100 := by
  decide +kernel

/-- Section 5.9, at 5000: p9, with the lower run seconds, is enqueued before p8; p10 is warned and stays OFF. -/
theorem test_reconcile_starts :
    let v : View := { (part .active 5000 calm).view with
      tab := { site with t14 := ((site.t14.set 8 52000).set 9 41000).set 10 41000 } }
    let x := (withPumps [(10, { idle with warn := true })]).setStage 2 { w := 2 }
    (reconcile v 2 x).queue.map Request.pump = [9, 8] ∧ ((reconcile v 2 x).pump 10).state = .off ∧
    ((reconcile v 2 x).stage 2).shortfall = false := by decide +kernel

/-- Section 5.9, at 6000: of p8 and p9, both past their min run, the earlier run start is stopped; p10 is not a
candidate; the spacing runs to 6120. -/
theorem test_reconcile_stop :
    let q : Pump := { idle with state := .running, feedback := .running, minRunMet := true }
    let x := (withPumps [(8, { q with runStart := 5330 }), (9, { q with runStart := 5020 }),
      (10, { q with runStart := 5420, minRunMet := false, warn := true })]).setStage 2 { w := 1 }
    let y := reconcile (part .active 6000 calm).view 2 x
    (y.pump 8).state = .running ∧ (y.pump 9).state = .stopping ∧ (y.pump 9).awaits .stop = true ∧
    (y.pump 10).state = .running ∧ (y.stage 2).spacingT = some 6120 := by decide +kernel

/-- Section 5.10: a dry run reaches a MANUAL pump and a pump whose min run is not met, clears an awaiting RUN and
withdraws a request. Its stage 3 is here stage 2 with four pumps. -/
theorem test_dryRun :
    let tab := { site with t2 := site.t2.set 2 { site.t2[2] with n := 4, maxRunning := 4 } }
    let x := { withPumps [
        (8, { idle with state := .running, feedback := .running, minRunT := some 5900 }),
        (9, { idle with state := .running, feedback := .running, owner := .manual }),
        (10, { idle with state := .starting, cmd := some ⟨.run, .awaiting, 0⟩ }),
        (11, { idle with state := .queued })] with
      queue := [⟨11, .a, .normal, 1, false, 1⟩]
      feedA := { committed := 270, busy := true, holder := 10, spacingT := some 5060 } }
    let y := reconcile { (part .active 5000 calm).view with tab := tab } 2 (x.setStage 2 { override := .dryRun })
    (y.pump 8).state = .stopping ∧ (y.pump 8).awaits .stop = true ∧ (y.pump 9).state = .stopping ∧
    (y.pump 10).state = .off ∧ (y.pump 10).cmd = none ∧ (y.pump 11).state = .off ∧ y.queue = [] ∧
    y.feedA.released = true ∧ (y.stage 2).shortfall = false := by decide +kernel

/-- The queue of section 6.11 at uptime 7000, with 180 kW committed. -/
def waiting : Plant :=
  { withPumps [(4, { idle with state := .unseen }), (5, { idle with state := .queued }),
      (9, { idle with state := .queued }), (10, { idle with state := .running, feedback := .running })] with
    queue := [⟨5, .a, .normal, 0, false, 1⟩, ⟨9, .a, .normal, 0, false, 2⟩]
    feedA := { committed := 180 } }

/-- Section 6.11: p5 does not fit, p9 is granted, and p5 is passed over; with a bypass limit of 1 it becomes
blocking. p4 is rated 90 kW here, so that 180 kW are committed. -/
theorem test_scan :
    let tab := { site with t3 := site.t3.set 4 { site.t3[4] with rating := 90 } }
    let v : View := { (part .active 7000 calm).view with tab := tab }
    let y := scan v .a waiting
    y.queue = [⟨5, .a, .normal, 1, false, 1⟩] ∧ (y.pump 9).state = .starting ∧ (y.pump 9).awaits .run = true ∧
    y.feedA.committed = 270 ∧ y.feedA.busy = true ∧ y.feedA.holder = 9 ∧ y.feedA.spacingT = some 7060 ∧
    (scan { v with tab := { tab with t9 := { tab.t9 with bypassLimit := 1 } } } .a waiting).queue =
      [⟨5, .a, .normal, 1, true, 1⟩] := by decide +kernel

/-- Section 6.12: escalation of reservoir 3, class order code 6, and the withdrawal of p5. -/
theorem test_queue_order :
    let q : List Request := [⟨5, .a, .normal, 0, false, 2⟩, ⟨9, .a, .normal, 0, false, 3⟩,
      ⟨21, .b, .normal, 0, false, 4⟩, ⟨17, .b, .precharge, 0, false, 1⟩]
    let a := escalate (part .active 5000 calm).view 3 { calm with queue := q }
    let b := resort 6 a.queue
    (a.queue.map fun e => (e.pump, e.cls, e.rank)) =
      [(9, .recover, 3), (5, .normal, 2), (21, .normal, 4), (17, .precharge, 1)] ∧ a.feedA.scanDue = true ∧
    (b.map fun e => (e.pump, e.rank)) = [(17, 1), (5, 2), (21, 4), (9, 3)] ∧
    ((removeRequest 5 b).map fun e => (e.pump, e.rank)) = [(17, 1), (21, 3), (9, 2)] := by decide +kernel

/-- The pumps of the start queue after a write of T9 with this class order code and of the entry of another table. -/
def queueAfterWrite (code : Nat) (g : Segment) (s : Part) : List (Fin 32) :=
  let t9 : Segment := ⟨9, 0, 1, { s.tab.t9 with classOrder := code }.words⟩
  (tableWriteRequest (.segments [t9, g]) s).1.plant.queue.map Request.pump

/-- R97 to R99, R165: in one write of the class order code with T3 or T1 the queue stands re-sorted when a pump that
ceases to be start-limited enters it, and when a low alarm reclasses a request: each goes behind the requests of its
class. The slot of feeder A is BUSY, so that no scan grants. -/
theorem test_tableWrite_order :
    (let x := withPumps [(5, { idle with state := .queued }), (10, { idle with state := .queued }),
        (8, { idle with owner := .manual }), (9, { idle with history := [4000, 4100, 4200] })]
     let y := { x.setStage 2 { w := 2 } with
       queue := [⟨5, .a, .recover, 0, false, 1⟩, ⟨10, .a, .normal, 0, false, 2⟩], feedA := { busy := true } }
     queueAfterWrite 6 ⟨3, 9, 1, { site.t3[9] with startsPerHour := 6 }.words⟩ (part .active 5000 y) = [10, 9, 5]) ∧
    (let x := withPumps [(9, { idle with state := .queued }), (5, { idle with state := .queued }),
        (4, { idle with state := .queued }), (8, { idle with owner := .manual }), (10, { idle with owner := .manual })]
     let y := { x.setStage 2 { w := 1 } with
       queue := [⟨9, .a, .normal, 0, false, 1⟩, ⟨5, .a, .normal, 0, false, 2⟩, ⟨4, .a, .recover, 0, false, 3⟩]
       feedA := { busy := true } }
     let s := { part .active 5000 y with tab := { site with t9 := { site.t9 with classOrder := 6 } } }
     queueAfterWrite 1 ⟨1, 3, 1, { site.t1[3] with la := 2950, tlb := 3000 }.words⟩ s = [4, 9, 5]) := by decide +kernel

/-- Section 7.9, at 3105, 3112, 3760 and 4200: a confirmed trip, the stop, the end of the indication, and the lockout
by a LOST_RUN. -/
theorem test_trips :
    let v (now : Nat) : View := (part .passive now calm).view
    let run : Pump := { idle with state := .running, feedback := .running, runStart := 2800 }
    let a := tripReport (v 3105) 6 true (withPumps [(6, { run with tripCount := 1, provingT := some 3700 })])
    let b := runFeedback (v 3112) 6 false a
    let c := tripReport (v 3760) 6 false (b.setPump 6 { b.pump 6 with retryT := none })
    let d := runFeedback (v 4200) 6 false (withPumps [(6, { run with retries := 1, provingT := some 4900 })])
    (a.pump 6).state = .tripped ∧ (a.pump 6).retries = 1 ∧ (a.pump 6).tripInd = true ∧
    (a.pump 6).retryT = some 3705 ∧ (a.pump 6).provingT = none ∧ a.events.pending = 0x200 ∧
    (b.pump 6).state = .tripped ∧ (b.pump 6).stopAt = 3112 ∧ (b.pump 6).committed = false ∧
    (c.pump 6).state = .off ∧ (c.pump 6).tripInd = false ∧ (c.pump 6).tripCount = 0 ∧
    (d.pump 6).state = .lockedOut ∧ (d.pump 6).cause = .lostRun ∧ d.events.pending = 0x400 := by decide +kernel

/-! ### Witnesses: states and operands that meet the hypotheses of the obligations -/

/-- The part runs and no scan is left over. -/
def ready (s : Part) : Bool := s.power == .on && !s.plant.feedA.scanDue && !s.plant.feedB.scanDue

theorem ready_settled (s : Part) (h : ready s = true) : (state s).part.power = .on ∧ Settled (state s).part.plant := by
  simp only [ready, Bool.and_eq_true, Bool.not_eq_true', beq_iff_eq] at h
  exact ⟨h.1.1, h.1.2, h.2⟩

theorem ready_steady (s : Part) (h : ready s = true) : Steady (state s).part :=
  ⟨(ready_settled s h).1, (ready_settled s h).2, fun _ => ⟨rfl, rfl, rfl⟩, fun h' => by
    rw [(ready_settled s h).1] at h'; cases h'⟩

theorem ready_asked (s : Part) (h : ReqHead) (hr : ready s = true)
    (ha : (decide (h.dest = s.address) && !s.line.checkHold && decide (s.line.replyQueue.length < 4)) = true) :
    Asked h (state s).part := by
  simp only [Bool.and_eq_true, decide_eq_true_eq, Bool.not_eq_true'] at ha
  exact ⟨(ready_settled s hr).1, (ready_settled s hr).2, ha.1.1, ha.1.2, ha.2⟩

/-- A busy station: p5 waits, p8 is STARTING with its RUN awaiting and holds the slot, p10 runs. -/
def live : Plant :=
  let x := withPumps [(5, { idle with state := .queued }),
    (8, { idle with state := .starting, cmd := some ⟨.run, .awaiting, 1⟩ }),
    (10, { idle with state := .running, feedback := .running, minRunT := some 7300 })]
  { x with queue := [⟨5, .a, .normal, 1, false, 1⟩], nextId := 2
           feedA := { x.feedA with busy := true, holder := 8, spacingT := some 7060 } }

/-- The busy station with a frame in each queue, a notice waiting and a command frame to be built. -/
def liveState : State :=
  { part := driveLines { part .active 7000 { live with events := { pending := 1, on := true, waiting := true } } with
      line := { uQueue := [telemetry], dQueue := [f1], mirrorQueue := [telemetry], dTurn := .own } }
    pending := [.dTransmitStart] }

theorem test_witness_StepKeepsSound : liveState.part.Sound ∧ ∃ t, step liveState = .next t ∧ t.part.line.dTx ≠ none := by
  refine ⟨?_, _, rfl, ?_⟩
  · unfold Part.Sound QueuesFit LinesFollow NoticeFits; decide +kernel
  · decide +kernel

/-- R122, R123: the nine conditions one by one, each with the ALERT line enabled and not; and none. -/
theorem test_witness_StepKeepsSound_conditions :
    let s := part .active 5000 calm
    let at6 (q : Pump) : Part := { s with plant := calm.setPump 6 q }
    let stage2 (l : StageLive) : Part := { s with plant := calm.setStage 2 l }
    let level3 (st : ResState) : Part := { s with levels := s.levels.set 3 { s.levels[3] with state := st } }
    let f (a : Bool) (s : Part) :=
      let u : Part := { s with tab := { s.tab with t9 := { s.tab.t9 with alertEnabled := a } } }
      ((conditionSummary u).toNat, faultLevel u, alertLevel u)
    [f true s, f true (at6 { idle with state := .stopFailed }), f true (stage2 { override := .overflow }),
      f true (level3 .highAlarm), f true { s with mgmt := { s.mgmt with storeInvalid := true } }, f true (level3 .stale),
      f true (at6 { idle with warn := true }), f true { s with line := { uplineLost := true } },
      f true (stage2 { shortfall := true }), f true { s with plant := { calm with feedB := { committed := 1 } } },
      f true { s with plant := calm.setPump 7 { state := .tripped, warn := true } }] =
      [(0, false, false), (1, true, true), (2, true, true), (4, true, true), (8, true, true), (16, false, true),
        (32, false, true), (64, false, true), (128, false, true), (256, false, true), (0, false, false)] ∧
    [f false s, f false (at6 { idle with state := .lockedOut }), f false (level3 .stale)] =
      [(0, false, false), (1, true, false), (16, true, false)] := by decide +kernel

/-- The settings of the worked sequences are within their ranges, with no two entries of one key. -/
theorem site_ok : site.ok := by
  have t0 : ∀ i : Fin 128, site.t0[i].used = true → ∀ j : Fin 128, i < j → site.t0[j].used = true →
      ¬(site.t0[i].station = site.t0[j].station ∧ site.t0[i].point = site.t0[j].point) ∧
      ¬(site.t0[i].kind = site.t0[j].kind ∧ site.t0[i].target = site.t0[j].target) := by decide +kernel
  refine ⟨?_, ?_, ?_, ?_, ?_, ?_, ?_, fun i j hij hi hj => t0 i hi j hij hj, ?_, ?_, ?_, ?_, ?_, ?_, ?_⟩ <;>
    (try simp only [AllApart, ResEntry.ok, StageEntry.ok, PumpEntry.ok, FeederEntry.ok, General.ok, PointEntry.ok,
      MirrorEntry.ok, MirrorEntry.apart, SourceEntry.ok]) <;> decide +kernel

theorem test_witness_StepKeepsSettings : liveState.part.SettingsKept ∧ ∃ t, step liveState = .next t :=
  ⟨⟨site_ok, site_ok, nofun⟩, _, rfl⟩

/-- The live records of the busy station are within their ranges: those of reservoirs, stages and pumps. -/
theorem test_witness_StepKeepsSettings_records : liveState.part.RecordsKept ∧ (live.pump 8).history = [] := by
  unfold Part.RecordsKept ResLive.ok StageLive.ok Pump.ok; decide +kernel

theorem test_witness_StepKeepsQueueAndPower : liveState.part.Agrees ∧ ∃ t, step liveState = .next t := by
  refine ⟨?_, _, rfl⟩
  unfold Part.Agrees QueueAgrees PowerAgrees QueueSorted QueueRanked; decide +kernel

theorem test_witness_StepKeepsSlots : SlotsHeld liveState.part.plant ∧ (liveState.part.plant.pump 8).state = .starting ∧
    ∃ t, step liveState = .next t := by
  refine ⟨fun p hp => ⟨.a, ?_⟩, by decide +kernel, _, rfl⟩
  have h : p = 8 := by revert p; decide +kernel
  subst h; decide +kernel

theorem test_witness_CommandsWithoutEffect :
    (∃ s : State, Steady s.part ∧ ∀ c ∈ [Instr.minuteBoundary, .staleEntry 3, .startHistoryAgeing 2, .minRunExpiry 9,
      .minRestExpiry 9, .startConfirmExpiry 9, .stopConfirmExpiry 9, .stopSpacingExpiry 2, .feederSpacingExpiry .a,
      .feederSpacingExpiry .b, .retryTimerExpiry 6, .provingExpiry 6, .uplineQuietExpiry, .settleExpiry],
      dueAt s.part c = some false) ∧
    ∃ s : State, s.part.power ≠ .on ∧ ofPower .secondsStep = false :=
  ⟨⟨state (part .active 5000 calm), ready_steady _ (by decide +kernel), by decide +kernel⟩,
    state { part .active 5000 calm with power := .held }, by decide +kernel⟩

/-- R123: the RESET input asserted without power, or kept asserted over a loss of power, holds the part from its
power-on, the lines as R123 gives them, until the release. -/
theorem test_witness_PowerOnAndResetLoadStore :
    let held : Part := { part .active 5000 calm with power := .held }
    let cut : Part := { part .active 5000 calm with power := .off true, fault := false, alert := true }
    liveState.part.power = .on ∧ (state held).part.power = .held ∧ (state cut).part.power = .off true ∧
    (powerLossEvent held).power = .off true ∧ (powerLossEvent liveState.part).power = .off false ∧
    ((resetInputEvent .asserted { cut with power := .off false }).power,
      (resetInputEvent (.released ⟨true, false⟩) cut).power) = (.off true, .off false) ∧
    (let t := powerOnEvent ⟨true, false⟩ cut
     t.power = .held ∧ t.fault = true ∧ t.alert = false ∧ t.line.quietT = none ∧
       (resetInputEvent (.released ⟨true, false⟩) t).power = .on ∧
       (resetInputEvent (.released ⟨true, false⟩) t).fault = false) := by decide +kernel

/-- A part with a save in flight. -/
def saving : Part :=
  { part .active 5000 calm with
    mgmt := { addrMode := .service, mode := .active, storeState := .saving,
              store := { copy := site, checkMatches := true, saving := some site } } }

theorem test_witness_SaveOutcomes :
    ((state saving).part.power = .on ∧ Settled (state saving).part.plant) ∧
      (state saving).part.mgmt.store.saving = some site ∧
      Steady (state (part .active 5000 calm)).part ∧ (state (part .active 5000 calm)).part.mgmt.store.saving = none :=
  ⟨ready_settled _ (by decide +kernel), by decide +kernel, ready_steady _ (by decide +kernel), by decide +kernel⟩

theorem test_witness_RestartTakesEffect : ∃ s : State, s.part.power = .on ∧
    s.part.line.uTx = some (.reply { dest := 2, source := 20, kind := 3, payload := [0, 0, 7] } true) :=
  ⟨state { part .active 5000 calm with
    line := { uTx := some (.reply { dest := 2, source := 20, kind := 3, payload := [0, 0, 7] } true) } },
    by decide +kernel⟩

/-- The station with a set clock at a minute and second. -/
def clockState (c : Nat × Nat) : State :=
  state { part .active 5000 calm with cal := { clockSet := true, minute := c.1, second := c.2 } }

/-- Seconds 58, 59 of a minute that is not the last, and 59 of the last; and the unset clock. -/
theorem test_witness_SecondsStepAdvances :
    (state (part .active 5000 calm)).part.cal.clockSet = false ∧
    ∀ c ∈ [(1438, 58), (1438, 59), (1439, 59)], (clockState c).part.power = .on ∧
      (clockState c).part.cal.clockSet = true ∧
      ((clockState c).part.cal.minute, (clockState c).part.cal.second) = c := by decide +kernel

/-- The timers of a pump. -/
def timers (q : Pump) : List Timer := [q.minRunT, q.minRestT, q.startT, q.stopT, q.retryT, q.provingT]

/-- A part with nothing due that has a running pump. -/
theorem test_witness_SecondsStepAdvances_counts : Steady (state (part .active 7000 live)).part ∧
    NothingDue (state (part .active 7000 live)).part ∧ (live.pump 10).feedback = .running := by
  have h : ∀ p : Fin 32, (live.pump p).history = [] := by decide +kernel
  have t : ∀ p : Fin 32, (timers (live.pump p)).all (fun t => t != some 7000) = true := by decide +kernel
  refine ⟨ready_steady _ (by decide +kernel), ⟨by decide +kernel, by decide +kernel, fun p u hu => ?_, fun p t' ht => ?_,
    by decide +kernel⟩, by decide +kernel⟩
  · rw [show ((state (part .active 7000 live)).part.plant.pump p).history = [] from h p] at hu; cases hu
  · exact bne_iff_ne.mp (List.all_eq_true.mp (t p) t' ht)

/-- R18, log 8: a step takes first a MIN_RUN_EXPIRY and an upline quiet expiry that are left over, and with them the
fallback. -/
theorem test_witness_SecondsStepAdvances_leftovers :
    let s := { part .active 900 (withPumps [(4, { idle with
        owner := .manual, state := .running, feedback := .running, minRunT := some 900 })]) with
      tab := { site with t3 := site.t3.set 4 { site.t3[4] with fallback := true } }, line := { quietT := some 900 } }
    (state s).part.power = .on ∧ leftovers.length = 223 ∧ gives .secondsStep s (fun t =>
      (t.plant.pump 4).minRunMet = true ∧ (t.plant.pump 4).owner = .auto ∧ t.line.uplineLost = true ∧
      t.plant.events.pending = 0x4000 ∧ t.cal.uptime = 901) := by decide +kernel

/-- The class of minute 1020 of day 4 is PEAK by window 2, at its start minute; and a clock that no window governs. -/
theorem test_witness_ClassFollowsClock :
    (∀ held ∈ [TariffClass.normal, .peak], ∃ s : State, Steady s.part ∧ s.part.cal.boundaryDue = true ∧
      s.part.cal.cls = held ∧ classAt s.part.tab s.part.cal = .peak) ∧
    (∃ (c : Calendar) (i : Fin 24), c.clockSet = true ∧ site.t5[i].used = true ∧
      site.t5[i].dayType = site.t6[c.day] ∧ site.t5[i].start ≤ c.minute ∧ site.t5[i].start = 1020 ∧
      ∀ j : Fin 24, j ≠ i → site.t5[j].used = true → site.t5[j].dayType = site.t6[c.day] →
        site.t5[j].start ≤ c.minute → site.t5[j].start < site.t5[i].start) ∧
    ∃ c : Calendar, c.clockSet = true ∧ ∀ i : Fin 24, ({} : Settings).t5[i].used = true →
      ({} : Settings).t5[i].dayType = ({} : Settings).t6[c.day] → c.minute < ({} : Settings).t5[i].start := by
  refine ⟨fun held h => ⟨state { part .active 54 calm with
    cal := { uptime := 54, clockSet := true, day := 4, minute := 1020, cls := held, boundaryDue := true } }, ?_⟩,
    ⟨{ clockSet := true, day := 4, minute := 1020 }, 2, by decide +kernel⟩, { clockSet := true }, by decide +kernel⟩
  simp only [List.mem_cons, List.not_mem_nil, or_false] at h
  rcases h with rfl | rfl <;> exact ⟨ready_steady _ (by decide +kernel), by decide +kernel⟩

theorem test_witness_StaleEntryStopsRate : ∃ s : State, Steady s.part ∧ s.part.levels[(3 : Fin 10)].staleDue = true ∧
    s.part.tab.t1[(3 : Fin 10)].enabled = true ∧ s.part.tab.t1[(3 : Fin 10)].kind = .metered ∧
    s.part.levels[(3 : Fin 10)].state ≠ .unknown ∧ s.part.levels[(3 : Fin 10)].state ≠ .stale :=
  ⟨state { part .active 600 calm with
      levels := Part.reset.levels.set 3 { level := 960, state := .normal, lastGood := 300, staleDue := true } },
    ready_steady _ (by decide +kernel), by decide +kernel⟩

/-- p9 ceases to be start-limited, a start having the age of 3600 exactly; p8 loses nothing. -/
theorem test_witness_AgedStartsLeave : ∃ s : State, s.part.power = .on ∧
    (s.part.plant.pump 9).history.map (age s.part.cal.uptime) = [3600, 3599, 0] ∧
    s.part.tab.t3[9].startsPerHour ≤ (s.part.plant.pump 9).history.length :=
  ⟨state (part .active 4618 (withPumps [(9, { idle with history := [1018, 1019, 4618] })])), by decide +kernel⟩

/-- One state for the four timers: p8 RUNNING, p9 RESTING, p6 TRIPPED, p10 RUNNING and proving, all due. -/
theorem test_witness_PumpTimersExpire : ∃ s : State, s.part.power = .on ∧ Steady s.part ∧
    (due s.part.cal.uptime (s.part.plant.pump 8).minRunT = true ∧ (s.part.plant.pump 8).state = .running) ∧
    (due s.part.cal.uptime (s.part.plant.pump 9).minRestT = true ∧ (s.part.plant.pump 9).state = .resting) ∧
    (due s.part.cal.uptime (s.part.plant.pump 6).retryT = true ∧ (s.part.plant.pump 6).state = .tripped) ∧
    due s.part.cal.uptime (s.part.plant.pump 10).provingT = true :=
  ⟨state (part .active 900 (withPumps [(6, { idle with state := .tripped, retryT := some 900 }),
      (8, { idle with state := .running, feedback := .running, minRunT := some 900 }),
      (9, { idle with state := .resting, minRestT := some 900 }),
      (10, { idle with state := .running, feedback := .running, provingT := some 900 })])),
    by decide +kernel, ready_steady _ (by decide +kernel), by decide +kernel⟩

/-- p8 STARTING; p9 STOPPING with stopped, p10 with running feedback; p6 TRIPPED with running feedback. -/
theorem test_witness_ConfirmTimersExpire : ∃ s : State, s.part.power = .on ∧
    due s.part.cal.uptime (s.part.plant.pump 8).startT = true ∧
    (∀ p ∈ [(6 : Fin 32), 9, 10], due s.part.cal.uptime (s.part.plant.pump p).stopT = true) ∧
    (s.part.plant.pump 9).state = .stopping ∧ (s.part.plant.pump 9).feedback = .stopped ∧
    (s.part.plant.pump 10).state = .stopping ∧ (s.part.plant.pump 10).feedback = .running ∧
    (s.part.plant.pump 6).state = .tripped ∧ (s.part.plant.pump 6).feedback = .running :=
  ⟨state (part .active 900 (withPumps [
      (6, { idle with state := .tripped, feedback := .running, cmd := some ⟨.stop, .sent, 0⟩, stopT := some 900 }),
      (8, { idle with state := .starting, cmd := some ⟨.run, .sent, 1⟩, startT := some 900 }),
      (9, { idle with state := .stopping, cmd := some ⟨.stop, .sent, 2⟩, stopT := some 900 }),
      (10, { idle with state := .stopping, feedback := .running, cmd := some ⟨.stop, .sent, 3⟩, stopT := some 900 })])),
    by decide +kernel⟩

/-- Feeder A, whose holder has left STARTING, and feeder B, whose holder has not. -/
theorem test_witness_SpacingTimersExpire : ∃ s : State, s.part.power = .on ∧
    due s.part.cal.uptime (s.part.plant.stage 2).spacingT = true ∧
    (∀ f ∈ [Feeder.a, .b], due s.part.cal.uptime (s.part.plant.feeder f).spacingT = true) ∧
    s.part.plant.feedA.released = true ∧ s.part.plant.feedB.released = false ∧ s.part.plant.feedB.busy = true :=
  ⟨state (part .active 900 { calm.setStage 2 { spacingT := some 900 } with
      feedA := { busy := true, holder := 9, released := true, spacingT := some 900 }
      feedB := { busy := true, holder := 8, spacingT := some 900 } }), by decide +kernel⟩

/-- R103: p8 holds slot A with the spacing running and idle, has left it already, and holds none; slot B is p9's. -/
theorem test_witness_SpacingTimersExpire_left :
    let f (l : FeederLive) := (leaveStarting 8 { feedA := l, feedB := { busy := true, holder := 9 } }).feedA
    f { busy := true, holder := 8, spacingT := some 9 } =
      { busy := true, holder := 8, released := true, spacingT := some 9 } ∧
    f { busy := true, holder := 8 } = { scanDue := true } ∧
    f { busy := true, holder := 8, released := true, spacingT := some 9 } =
      { busy := true, holder := 8, released := true, spacingT := some 9 } ∧
    f { busy := true, holder := 10 } = { busy := true, holder := 10 } ∧ f {} = {} ∧
    (leaveStarting 8 { feedB := { busy := true, holder := 9 } }).feedB = { busy := true, holder := 9 } := by
  decide +kernel

theorem test_witness_UplineQuietExpires : ∃ s : State, s.part.power = .on ∧
    due s.part.cal.uptime s.part.line.quietT = true ∧ (s.part.plant.pump 4).owner = .manual ∧
    s.part.tab.t3[4].fallback = true :=
  ⟨state { part .active 900 (withPumps [(4, { idle with owner := .manual })]) with
      tab := { site with t3 := site.t3.set 4 { site.t3[4] with fallback := true } }
      line := { quietT := some 900 } }, by decide +kernel⟩

/-- The checks pass in SERVICE and, at the same settings, fail as check 5 in COMMISSIONING. -/
theorem test_witness_SettleTimerExpires : ∀ a ∈ [AddrMode.service, .commissioning], ∃ s : State, Steady s.part ∧
    s.part.mgmt.mode = .settling ∧ s.part.mgmt.addrMode = a ∧ due s.part.cal.uptime s.part.mgmt.settleT = true ∧
    modeCheck s.part.tab = .passed := by
  intro a ha
  refine ⟨state { part .settling 120 calm with mgmt := { addrMode := a, mode := .settling, settleT := some 120 } }, ?_⟩
  simp only [List.mem_cons, List.not_mem_nil, or_false] at ha
  rcases ha with rfl | rfl <;> exact ⟨ready_steady _ (by decide +kernel), by decide +kernel⟩

/-- The states of reservoir 3 at the thresholds of section 1.10, and where their clauses meet. -/
theorem test_witness_LevelStates : site.t1[3].la < site.t1[3].ha ∧
    (let f (st : ResState) := [800, 801, 949, 950, 4050, 4051, 4199, 4200].map (arrivalState site.t1[3] { state := st })
     f .normal = [.lowAlarm, .normal, .normal, .normal, .normal, .normal, .normal, .highAlarm] ∧ f .unknown = f .normal ∧
     f .stale = f .normal ∧
     f .lowAlarm = [.lowAlarm, .lowAlarm, .lowAlarm, .normal, .normal, .normal, .normal, .highAlarm] ∧
     f .highAlarm = [.lowAlarm, .normal, .normal, .normal, .normal, .highAlarm, .highAlarm, .highAlarm]) ∧
    (let g (st : ResState) := [800, 801, 4199, 4200].map (arrivalState { site.t1[3] with ah := 0 } { state := st })
     g .lowAlarm = [.lowAlarm, .normal, .normal, .highAlarm] ∧ g .highAlarm = g .lowAlarm) := by decide +kernel

/-- A first level, a level at the rate interval, and one a second before it. -/
theorem test_witness_LevelArrivalTaken : ∀ c ∈ [(ResState.unknown, 0), (.normal, 120), (.normal, 119)],
    ∃ (s : Part) (old : ResLive), old = s.levels[(3 : Fin 10)] ∧ s.tab.t1[(3 : Fin 10)].enabled = true ∧
      s.tab.t1[(3 : Fin 10)].kind = .metered ∧ old.state = c.1 ∧ age s.cal.uptime old.sampleTime = c.2 := by
  intro c hc
  refine ⟨{ part .active c.2 calm with levels := Part.reset.levels.set 3 { state := c.1, level := 900 } }, _, rfl, ?_⟩
  simp only [List.mem_cons, List.not_mem_nil, or_false] at hc
  rcases hc with rfl | rfl | rfl <;> decide +kernel

/-- The entry of section 3.12 is ordered; inside, at and outside the edges of its band. -/
theorem test_witness_DemandSteps :
    (site.t1[3].la < site.t1[3].tlb ∧ site.t1[3].tlb < site.t1[3].thb ∧ site.t1[3].thb < site.t1[3].ha) ∧
    ([2400, 2401, 3599, 3600].map fun l => bandDemand 2400 3600 l) = [1000, 999, 0, 0] ∧
    ([2400, 2401, 3599, 3600].map fun l => trendDemand 2400 3600 l 500 8 (-500)) = [500, 0, 0, 500] ∧
    tariffDemand true .peak 1000 700 = 1000 ∧ tariffDemand false .peak 1000 700 = 700 ∧
    tariffDemand false .cheap 1000 700 = 1000 := by decide +kernel

/-- An unmetered source; the alarm states; and the soft band 800 above 600, at its edges. -/
theorem test_witness_SuctionCap :
    (site.t1[0].enabled = true ∧ site.t1[0].kind = .unmetered) ∧ ¬(site.t1[2].enabled = true ∧
      site.t1[2].kind = .unmetered) ∧
    ([(ResState.lowAlarm, 590), (.stale, 1100), (.unknown, 0), (.normal, 600), (.normal, 1399), (.normal, 1400),
      (.highAlarm, 4000)].map fun c =>
      (suctionCap site.t1[2] { state := c.1, level := c.2 } 800, dryCondition site.t1[2] { state := c.1, level := c.2 })) =
      [(0, true), (0, true), (0, true), (0, false), (998, false), (1000, false), (1000, false)] ∧
    suctionCap site.t1[2] { state := .normal, level := 601 } 0 = 1000 := by decide +kernel

/-- Section 3.12.2: with D3 125 a count of 0 rises to 1, one of 2 falls to 1; and 1 keeps its value. -/
theorem test_witness_WantedCountStepped : ∀ c ∈ [(0, 1, 0), (2, 2, 1), (1, 1, 1)], ∃ w up down : Nat, c = (w, up, down) ∧
    w ≤ 3 ∧ w ≤ up ∧ up ≤ 3 ∧ (∀ k < 4, w < k → k ≤ up → tOn 3 40 k ≤ 125) ∧ (up < 3 → 125 < tOn 3 40 (up + 1)) ∧
    down ≤ w ∧ (∀ k < 4, down < k → k ≤ w → 125 ≤ tOff 3 40 k) ∧ (0 < down → tOff 3 40 down < 125) := by
  intro c hc
  refine ⟨c.1, c.2.1, c.2.2, rfl, ?_⟩
  revert c; decide +kernel

/-- Each path of an evaluation of stage 2; the ranges hold of its settings and of its record. -/
theorem test_witness_EvaluationPathsInRange :
    (∀ st ∈ [ResState.unknown, .stale, .normal, .highAlarm], ∃ v : View, v.tab.t1[v.tab.t2[2].delivery].enabled = true ∧
      v.tab.t1[v.tab.t2[2].delivery].kind = .metered ∧ v.levels[v.tab.t2[2].delivery].state = st ∧
      dryCondition v.tab.t1[v.tab.t2[2].suction] v.levels[v.tab.t2[2].suction] = false) ∧
    site.t2[2].ok ∧ ({ d0 := 1000, d1 := 1000, d2 := 1000, d3 := 1000, w := 3 } : StageLive).ok site.t2[2] := by
  refine ⟨fun st h => ⟨{ (part .active 5000 calm).view with
    levels := (part .active 5000 calm).levels.set 3 { state := st } }, ?_⟩, ?_, ?_⟩
  · revert st; decide +kernel
  · unfold StageEntry.ok; decide +kernel
  · unfold StageLive.ok; decide +kernel

/-- Stage 0 is not enabled; of stage 2, an evaluation that changes W, and one at MODE_ENTRY that changes nothing. -/
theorem test_witness_EvaluationTaken :
    let v := (part .active 5000 calm).view
    v.tab.t2[0].enabled = false ∧ v.tab.t2[2].enabled = true ∧
    (evaluated v 2 (calm.stage 2)).w ≠ (calm.stage 2).w ∧
    (evaluated v 2 { w := 2 }).w = 2 ∧ (evaluated v 2 { w := 2 }).override = .none ∧
    ((evaluate v .modeEntry (calm.setStage 2 { w := 2 }) 2).queue.map Request.pump) = [8, 9] ∧
    ((evaluate v .suctionLevel (calm.setStage 2 { w := 2 }) 2).queue.map Request.pump) = [] := by decide +kernel

/-- R15, R35: reservoir 2 is the delivery of stage 1 and the suction of stage 2; stage 0 is not enabled. -/
theorem test_witness_EvaluationTaken_causes :
    let v := (part .active 5000 calm).view
    let f (x : Plant) := [0, 1, 2].map fun k : Fin 8 => (x.stage k).cause
    f (notify v 2 true calm) = [.none, .deliveryState, .suctionState] ∧
    f (notify v 2 false calm) = [.none, .deliveryLevel, .suctionLevel] ∧
    f (notify v 3 false calm) = [.none, .none, .deliveryLevel] ∧ notify v 9 true calm = calm ∧
    f (evaluateAll v .classChange calm) = [.none, .classChange, .classChange] ∧
    ((notify v 2 true calm).stage 2).w = (evaluated v 2 (calm.stage 2)).w := by decide +kernel

/-- The rest test of p9 (min rest 300 s): a STOP held, a run, an age of 299 and one of 300. -/
theorem test_witness_RestTestOutcome : site.t3[9].ok ∧
    (let v := (part .active 2000 calm).view
     let f (q : Pump) := let r := (restTest v 9 (withPumps [(9, q)])).pump 9; (r.state, r.minRestT)
     f { idle with cmd := some ⟨.stop, .sent, 0⟩ } = (.stopping, none) ∧
     f { idle with feedback := .running } = (.running, none) ∧
     f { idle with stopRecorded := true, stopAt := 1701 } = (.resting, some 2001) ∧
     f { idle with stopRecorded := true, stopAt := 1700 } = (.off, none) ∧
     f { idle with stopAt := 1999 } = (.off, none)) := by
  refine ⟨?_, by decide +kernel⟩
  unfold PumpEntry.ok; decide +kernel

/-- The ten states of a pump. -/
def pumpStates : List PumpState :=
  [.unseen, .off, .resting, .queued, .starting, .running, .stopping, .stopFailed, .tripped, .lockedOut]

/-- What running feedback makes of each state; and of UNSEEN with the trip indication standing. -/
theorem test_witness_RunningFeedback :
    let f (q : Pump) := ((feedbackRunning (part .active 2000 calm).view 9 (withPumps [(9, q)])).pump 9).state
    (pumpStates.map fun st => f { idle with state := st }) =
      [.running, .running, .running, .running, .running, .running, .stopping, .stopFailed, .tripped, .lockedOut] ∧
    f { idle with state := .unseen, tripCount := 2, tripInd := true } = .tripped := by
  decide +kernel

/-- Start slot A and the length of the queue. -/
def slotA (x : Plant) : Bool × Fin 32 × Bool × Nat :=
  (x.feedA.busy && x.feedA.spacingT == some 7060, x.feedA.holder, x.feedA.released, x.queue.length)

/-- R103, R106: p8, which holds slot A with its spacing running, is confirmed, and the slot waits for the spacing; the
request of p5 leaves the queue at an uncommanded run, at a trip too, and a trip of p8 leaves the slot as well. -/
theorem test_witness_RunningFeedback_slots :
    let v := (part .active 7000 live).view
    [live, feedbackRunning v 8 live, feedbackRunning v 5 live, takeTrip v 5 .starterTrip live,
      takeTrip v 8 .refused live, manualStop v 8 live, manualStop v 10 live].map slotA =
      [(true, 8, false, 1), (true, 8, true, 1), (true, 8, false, 0), (true, 8, false, 0), (true, 8, true, 1),
        (true, 8, true, 1), (true, 8, false, 1)] := by decide +kernel

/-- What stopped feedback makes of each state, the pump AUTO and without a command; a pump that is OUT_OF_SERVICE rests
instead of tripping; UNSEEN with the trip indication standing; and STOP_FAILED with a STOP held. -/
theorem test_witness_StoppedFeedback :
    let f (q : Pump) := ((feedbackStopped (part .active 2000 calm).view 9 (withPumps [(9, q)])).pump 9).state
    (pumpStates.map fun st => f { idle with state := st, feedback := .running }) =
      [.off, .off, .resting, .queued, .starting, .tripped, .resting, .resting, .tripped, .lockedOut] ∧
    f { idle with state := .running, feedback := .running, owner := .outOfService } = .resting ∧
    f { idle with state := .unseen, tripCount := 2, tripInd := true } = .tripped ∧
    f { idle with state := .stopFailed, feedback := .running, cmd := some ⟨.stop, .sent, 0⟩ } = .stopping := by
  decide +kernel

/-- A trip by the state, with the retry limit 1 not reached and reached. -/
theorem test_witness_TripTaken :
    (pumpStates.map fun st => ((takeTrip (part .active 2000 calm).view 9 .refused
        (withPumps [(9, { idle with state := st })])).pump 9).state) =
      [.unseen, .tripped, .tripped, .tripped, .tripped, .tripped, .tripped, .tripped, .tripped, .lockedOut] ∧
    ((takeTrip (part .active 2000 calm).view 9 .refused
      (withPumps [(9, { idle with state := .starting, retries := 1 })])).pump 9).state = .lockedOut := by decide +kernel

/-- A stage that is not enabled, each of the modes that decide nothing, and ADVISORY, which advises a start. -/
theorem test_witness_ReconcileChangesItsStage :
    site.t2[0].enabled = false ∧ (∀ m ∈ [Mode.passive, .settling], (part m 5000 calm).view.mode = m) ∧
    (part .advisory 5000 calm).view.mode = .advisory ∧
    (reconcile (part .advisory 5000 calm).view 2 (calm.setStage 2 { w := 1 })).stage 2 =
      { w := 1, advice := .start, adviceSlot := 8 } := by decide +kernel

/-- Of stage 2 in ACTIVE: two starts with three pumps able, all three, and more asked for than are able. -/
theorem test_witness_ReconcileChangesItsStage_starts :
    let v := (part .active 5000 calm).view
    let x (w : Nat) := (withPumps [(10, { idle with localSel := true })]).setStage 2 { w := w }
    v.tab.t2[2].enabled = true ∧ v.mode = .active ∧ ((x 3).stage 2).override ≠ .dryRun ∧
    ([1, 2, 3].map fun w => (cCount v 2 (x w), aCount v 2 (x w), ((ownPumps v.tab 2).filter (eligible v (x w))).length)) =
      [(0, 1, 2), (0, 2, 2), (0, 3, 2)] ∧
    ([1, 2, 3].map fun w => ((reconcile v 2 (x w)).queue.map Request.pump, ((reconcile v 2 (x w)).stage 2).shortfall)) =
      [([8], false), ([8, 9], false), ([8, 9], true)] := by decide +kernel

/-- Two requests of stage 2 and a running pump: nothing, one and both withdrawn, and the running pump stopped. -/
def surplus (w : Nat) : Plant :=
  let x := withPumps [(8, { idle with state := .queued }), (9, { idle with state := .queued }),
    (10, { idle with state := .running, feedback := .running, minRunMet := true })]
  { x.setStage 2 { w := w } with queue := [⟨9, .a, .normal, 0, false, 2⟩, ⟨8, .a, .normal, 0, false, 1⟩] }

theorem test_witness_ReconcileChangesItsStage_stops :
    let v := (part .active 5000 calm).view
    (∀ w ∈ [0, 1, 2, 3], QueueAgrees (surplus w) ∧ QueueRanked (surplus w) ∧ aCount v 2 (surplus w) ≤ cCount v 2 (surplus w)) ∧
    ([0, 1, 2, 3].map fun w => ((reconcile v 2 (surplus w)).queue.map Request.pump,
      ((reconcile v 2 (surplus w)).pump 10).state, ((reconcile v 2 (surplus w)).stage 2).spacingT)) =
      [([], .stopping, some 5120), ([], .running, none), ([8], .running, none), ([9, 8], .running, none)] ∧
    (let u := { v with tab := { site with t2 := site.t2.set 2 { site.t2[2] with spacing := 0 } } }
     ((reconcile u 2 (surplus 0)).pump 10).state = .stopping ∧ ((reconcile u 2 (surplus 0)).stage 2).spacingT = none) := by
  unfold QueueAgrees QueueRanked; decide +kernel

/-- A stage under DRY_RUN with a pump of each row of the table: p8 QUEUED, p9 STARTING with its RUN sent, p10 RUNNING and
OUT_OF_SERVICE; and p8 STARTING with its RUN awaiting. -/
theorem test_witness_ReconcileChangesItsStage_dryRun :
    let v := (part .active 5000 calm).view
    let q : Pump := { idle with state := .starting, cmd := some ⟨.run, .sent, 0⟩ }
    let x := { withPumps [(8, { idle with state := .queued }), (9, q),
        (10, { idle with state := .running, feedback := .running, owner := .outOfService })] with
      queue := [⟨8, .a, .normal, 0, false, 1⟩] }.setStage 2 { override := .dryRun }
    let y := (withPumps [(8, { q with cmd := some ⟨.run, .awaiting, 0⟩ })]).setStage 2 { override := .dryRun }
    QueueAgrees x ∧ QueueAgrees y ∧ ([8, 9, 10].map fun p => ((reconcile v 2 x).pump p).state) = [.off, .stopping, .running] ∧
    ((reconcile v 2 y).pump 8).state = .off ∧
    (reconcile { v with mode := .advisory } 2 x).stage 2 = { override := .dryRun, advice := .stop, adviceSlot := 9 } := by
  unfold QueueAgrees; decide +kernel

/-- The choices of a start, of the request withdrawn first and of a stop: by each key of the order. -/
theorem test_witness_StartSelection :
    let v := (part .active 5000 calm).view
    let q : Pump := { idle with state := .running, feedback := .running, minRunMet := true, runStart := 100 }
    startChoice v 2 calm = some 8 ∧ startChoice v 2 (withPumps [(8, { idle with warn := true })]) = some 9 ∧
    startChoice { v with tab := { site with t14 := (site.t14.set 8 2).set 9 1 |>.set 10 2 } } 2 calm = some 9 ∧
    ((surplus 0).queue.map Request.rank).Nodup ∧ (latestRequest 2 (surplus 0).queue).map Request.pump = some 9 ∧
    stopChoice v 2 (withPumps [(8, q), (9, { q with runStart := 99 }), (10, { q with runStart := 99 })]) = some 9 ∧
    stopChoice v 2 (withPumps [(8, q), (9, { q with warn := true, runStart := 200 })]) = some 9 ∧
    stopChoice v 2 (withPumps [(8, { q with minRunMet := false })]) = none ∧
    stopChoice v 2 ((withPumps [(8, { q with minRunMet := false })]).setStage 2 { override := .overflow }) = some 8 ∧
    stopChoice v 2 ((withPumps [(8, q)]).setStage 2 { spacingT := some 5001 }) = none := by decide +kernel

/-- A sorted queue with a request of each class, among them one of stage 2, which the low alarm of reservoir 3 moves. -/
def sorted : Plant :=
  { calm with queue := [⟨4, .a, .recover, 0, false, 3⟩, ⟨9, .a, .normal, 0, false, 2⟩, ⟨5, .a, .precharge, 0, false, 1⟩] }

theorem test_witness_QueueStaysSorted : QueueSorted site sorted ∧ (sorted.queue.map Request.pump).Nodup ∧
    (let v := (part .active 5000 calm).view
     (enterRequest v 8 sorted).queue.map Request.pump = [4, 9, 8, 5] ∧
     ((dequeue 9 sorted).queue.map fun e => (e.pump, e.rank)) = [(4, 2), (5, 1)] ∧
     ((escalate v 3 sorted).queue.map fun e => (e.pump, e.cls)) = [(4, .recover), (9, .recover), (5, .precharge)] ∧
     (escalate v 3 sorted).feedA.scanDue = true ∧ (escalate v 3 sorted).feedB.scanDue = false) := by
  unfold QueueSorted; decide +kernel

/-- p5 (150 kW) is passed over and p9 (90 kW) granted; with less budget the walk ends without a grant; with p5 blocking
it ends at p5; and with the slot BUSY at once. 180 kW are committed. -/
theorem test_witness_GrantTakesSlot :
    let v : View := (part .active 7000 calm).view
    let u : View := { v with tab := { site with t4a := { site.t4a with budget := 269 } } }
    let blocked := { waiting with queue := [⟨5, .a, .normal, 1, true, 1⟩, ⟨9, .a, .normal, 0, false, 2⟩] }
    let f (v : View) (x : Plant) := ((scan v .a x).queue.map fun e => (e.pump, e.bypass), ((scan v .a x).pump 9).state)
    (waiting.pump 9).state ≠ .starting ∧ f v waiting = ([(5, 1)], .starting) ∧
    f u waiting = ([(5, 0), (9, 0)], .queued) ∧ f v blocked = ([(5, 1), (9, 0)], .queued) ∧
    f v { waiting with feedA := { waiting.feedA with busy := true } } = ([(5, 0), (9, 0)], .queued) := by decide +kernel

/-- A frame under assembly on U, addressed to the part; and none. -/
theorem test_witness_CheckErrorsAndHold : ∀ r ∈ [Rx.header [20], .hunt], ∃ s : State, Steady s.part ∧
    s.part.line.rxU = r ∧ s.part.address = 20 := by
  intro r hr
  refine ⟨state { part .active 5000 calm with line := { rxU := r, checkHold := true } }, ?_⟩
  simp only [List.mem_cons, List.not_mem_nil, or_false] at hr
  rcases hr with rfl | rfl <;> exact ⟨ready_steady _ (by decide +kernel), by decide +kernel⟩

/-- Each state of a receiver, with the length bytes 0, 60 and 61, a payload byte that is the last and one that is
not, and a right and a wrong check byte. -/
theorem test_witness_CharacterTaken :
    (∀ r ∈ [Rx.hunt, .header [], .header [20, 21], .header [20, 21, 1], .payload 20 21 1 2 [], .payload 20 21 1 2 [0],
      .check 20 21 1 [0, 0]], ∃ s : State, Steady s.part ∧ s.part.rx .d = r) ∧
    (let f (r : Rx) (b : Byte) := (takeCharacter .d b { part .active 5000 calm with line := { rxD := r } }).rx .d
     f (.header [20, 21]) 1 = .header [20, 21, 1] ∧ f (.header [20, 21, 1]) 0 = .check 20 21 1 [] ∧
     f (.header [20, 21, 1]) 60 = .payload 20 21 1 60 [] ∧ f (.header [20, 21, 1]) 61 = .hunt ∧
     f (.payload 20 21 1 2 []) 7 = .payload 20 21 1 2 [7] ∧ f (.payload 20 21 1 2 [7]) 8 = .check 20 21 1 [7, 8]) ∧
    (∃ f : Frame, f.wf = true ∧ f.payload.length = 60) := by
  refine ⟨fun r hr => ⟨state { part .active 5000 calm with line := { rxD := r } }, ?_⟩, by decide +kernel,
    { dest := 20, source := 21, kind := 1, payload := List.replicate 60 0 }, by decide +kernel⟩
  simp only [List.mem_cons, List.not_mem_nil, or_false] at hr
  rcases hr with rfl | rfl | rfl | rfl | rfl | rfl | rfl <;>
    exact ⟨ready_steady _ (by decide +kernel), by decide +kernel⟩

theorem test_witness_FrameAssembled : ∃ s : State, Steady s.part ∧ s.part.line.rxU = .hunt ∧
    s.part.line.rxD = .hunt ∧ telemetry.wf = true ∧ frameCheck telemetry ≠ 0 :=
  ⟨state (part .active 5000 calm), ready_steady _ (by decide +kernel), by decide +kernel⟩

/-- Section 9.8: source 21 lies in window 0 and source 30 in none; from base 55 source 29 translates to 64, and from
base 53 it would to 62. -/
theorem test_witness_MirroredOnM :
    site.t7[0].holdsSource .up 21 = true ∧ (∀ j : Fin 8, j ≠ 0 → site.t7[j].holdsSource .up 21 = false) ∧
    (∀ i : Fin 8, site.t7[i].holdsSource .up 30 = false ∧ site.t7[i].holdsSource .down 21 = false) ∧
    (let f (base : Nat) := mirror .up { telemetry with source := 29 }
        { part .active 5000 calm with tab := { site with t7 := site.t7.set 0 { site.t7[0] with base := base } } }
     (f 53).line.mirrorQueue = [{ telemetry with source := 62 }] ∧ (f 54).plant.events.pending = 4 ∧
     (f 54).line.mirrorQueue = []) ∧
    Steady (state (part .active 5000 calm)).part :=
  ⟨by decide +kernel, by decide +kernel, by decide +kernel, by decide +kernel, ready_steady _ (by decide +kernel)⟩

/-- A TELEMETRY frame, a COMMAND frame outside ACTIVE mode, and a MANAGE frame to another address; the D forward
queue with 15 frames and with 16. -/
theorem test_witness_GoodFrameForwarded : (∃ s : State, (s.part.power = .on ∧ Settled s.part.plant) ∧
      s.part.mgmt.mode ≠ .active ∧ s.part.line.dQueue.length = 15) ∧
    (∃ s : State, (s.part.power = .on ∧ Settled s.part.plant) ∧ s.part.line.dQueue.length = 16 ∧
      s.part.address = 20) ∧
    telemetry.wf = true ∧ telemetry.kind ≠ kindManage ∧ telemetry.kind ≠ kindCommand ∧
    (manageFrame { ask with dest := 21 } 1 []).dest ≠ 20 :=
  ⟨⟨state { part .passive 5000 calm with line := { dQueue := List.replicate 15 f1 } },
      ready_settled _ (by decide +kernel), by decide +kernel⟩,
    ⟨state { part .active 5000 calm with line := { dQueue := List.replicate 16 f1 } },
      ready_settled _ (by decide +kernel), by decide +kernel⟩, by decide +kernel⟩

/-- The name of a refusal, or of the commands that a passed frame carries. -/
def judged : Judgement → Option (Reason × Nat × Byte) ⊕ List (Fin 32 × Nat)
  | .refused r i p => .inl (some (r, i, p))
  | .passed _ c => .inr c

/-- Section 10.8: a frame refused, a frame passed, and a full queue. -/
theorem test_witness_CommandFrameJudged :
    (∃ s : State, (s.part.power = .on ∧ Settled s.part.plant) ∧ s.part.mgmt.mode = .active ∧
      s.part.line.dQueue.length < frameCapacity ∧
      judged (judgeFrame s.part.view { dest := 11, source := 5, kind := 2, payload := [40, 1, 41, 1] } s.part.plant) =
        .inl (some (.slotBusy, 1, 41)) ∧
      judged (judgeFrame s.part.view { dest := 11, source := 5, kind := 2, payload := [40, 1] } s.part.plant) =
        .inr [(4, 0)]) ∧
    ∃ s : State, (s.part.power = .on ∧ Settled s.part.plant) ∧ s.part.mgmt.mode = .active ∧
      frameCapacity ≤ s.part.line.dQueue.length :=
  ⟨⟨state { part .active 5000 yard with tab := { site with t4a := { site.t4a with budget := 350 } } },
      ready_settled _ (by decide +kernel), by decide +kernel⟩,
    ⟨state { part .active 5000 calm with line := { dQueue := List.replicate 16 f1 } },
      ready_settled _ (by decide +kernel), by decide +kernel⟩⟩

/-- R160: a passed frame with a STOP for a MANUAL pump with its fallback flag, the upline quiet timer being due. -/
theorem test_witness_CommandFrameJudged_met :
    let x := withPumps [(4, { idle with owner := .manual, state := .running, feedback := .running })]
    let s := state { part .active 900 x with
      tab := { site with t3 := site.t3.set 4 { site.t3[4] with fallback := true } }, line := { quietT := some 900 } }
    (s.part.power = .on ∧ Settled s.part.plant) ∧ due s.part.cal.uptime s.part.line.quietT = true ∧
      judged (judgeFrame s.part.view { dest := 11, source := 5, kind := 2, payload := [40, 2] } s.part.plant) =
        .inr [(4, 0)] ∧
      ((manualStop s.part.view 4 s.part.plant).pump 4).cmd = some ⟨.stop, .inTransit, 0⟩ :=
  ⟨ready_settled _ (by decide +kernel), by decide +kernel, by decide +kernel, by decide +kernel⟩

/-- The judgement of a COMMAND frame of source 5, with 500 kW for feeder A. -/
def judgedItems (dest : Byte) (payload : List Byte) : Option (Reason × Nat × Byte) ⊕ List (Fin 32 × Nat) :=
  judged (judgeFrame { (part .active 5000 calm).view with tab := { site with t4a := { site.t4a with budget := 500 } } }
    { dest := dest, source := 5, kind := 2, payload := payload } yard)

/-- A frame without a whole item, a broadcast, points of no pump, an item refused by what the item before it did, and
items that all pass. -/
theorem test_witness_CommandFrameJudged_items :
    itemPump site 11 40 = some 4 ∧ itemPump site 11 43 = none ∧ itemPump site 0 40 = none ∧
    pairsOf [40, 1, 41] = [(40, 1)] ∧
    ([(11, []), (11, [40]), (0, [40, 1]), (0, [40]), (11, [43, 9]), (11, [43, 9, 40, 1, 40, 1]), (11, [40, 1, 40, 2]),
      (11, [40, 2])].map fun c => judgedItems c.1 c.2) =
    [.inr [], .inr [], .inl (some (.notPermitted, 0, 40)), .inr [], .inr [], .inl (some (.state, 2, 40)),
      .inr [(4, 0), (4, 1)], .inr []] := by decide +kernel

/-- Each refusal of an item for p4, and a pass; and a STOP by the ten states. -/
theorem test_witness_CommandItemsJudged :
    let v := { (part .active 5000 yard).view with tab := { site with t4a := { site.t4a with budget := 300 } } }
    let q : Pump := { idle with owner := .manual }
    let f (x : Plant) (source action : Byte) := itemRefusal v source x 4 action
    let at4 (q : Pump) := withPumps [(4, q)]
    ([f yard 6 1, f (at4 { q with localSel := true }) 5 1, f (at4 { q with owner := .outOfService }) 5 1, f calm 5 1,
      f yard 5 3, f yard 5 2, f (at4 { q with state := .resting }) 5 1, f (at4 { q with state := .running }) 5 1,
      f (at4 { q with history := [1, 2, 3, 4, 5, 6] }) 5 1, f ((at4 q).setStage 1 { override := .dryRun }) 5 1,
      f { at4 q with feedA := { busy := true } } 5 1, f { at4 q with feedA := { committed := 201 } } 5 1,
      f { at4 q with feedA := { committed := 200 } } 5 1]) =
    [some .notPermitted, some .localControl, some .outOfService, some .owned, some .badAction, none, some .rest,
      some .state, some .limit, some .dry, some .slotBusy, some .budget, none] ∧
    (pumpStates.map fun st => ((manualStop v 4 (at4 { q with state := st })).pump 4).state) =
      [.unseen, .off, .resting, .queued, .stopping, .stopping, .stopping, .stopping, .tripped, .lockedOut] := by
  decide +kernel

/-- A REPLY to the part, a MANAGE frame, and frames of the known source 21 and the foreign source 45. -/
theorem test_witness_GoodFrameOnDDisposed : ∃ s : State, s.part.power = .on ∧ s.part.address = 20 ∧
    ({ dest := 20, source := 11, kind := kindReply, payload := [0, 40, 1] } : Frame).wf = true ∧
    (manageFrame ask 1 []).kind = kindManage ∧ telemetry.kind ≠ kindManage ∧ telemetry.kind ≠ kindReply ∧
    (∃ i : Fin 128, s.part.tab.t0[i].used = true ∧ s.part.tab.t0[i].station = telemetry.source.toNat) ∧
    (∀ i : Fin 128, ¬(s.part.tab.t0[i].used = true ∧ s.part.tab.t0[i].station = 45)) ∧
    ∀ p : Fin 32, ¬(assigned s.part.tab p = true ∧ s.part.tab.t3[p].station = 45) :=
  ⟨state (part .active 5000 calm), by decide +kernel⟩

/-- The pairs of a reply; and a pair that refuses, for p8 STARTING with its RUN sent, with it still awaiting, and for a
point of no pump. -/
theorem test_witness_GoodFrameOnDDisposed_pairs :
    let s (g : Progress) := part .active 5000 (withPumps [(8, { idle with state := .starting, cmd := some ⟨.run, g, 0⟩ })])
    let f (g : Progress) (pair : Byte × Byte) := ((inspectPair 12 (s g) pair).plant.pump 8).state
    replyPairs [0, 20, 1, 21, 0, 22] = [(20, 1), (21, 0)] ∧
    (∀ p' : Fin 32, p' ≠ 8 → ¬(site.t3[p'].station = 12 ∧ site.t3[p'].point = 20)) ∧
    (∀ p : Fin 32, ¬(assigned site p = true ∧ site.t3[p].station = 12 ∧ site.t3[p].point = 29)) ∧
    f .sent (20, 1) = .tripped ∧ f .awaiting (20, 1) = .starting ∧ f .sent (20, 0) = .starting ∧
    f .sent (20, 2) = .starting ∧ f .sent (29, 1) = .starting := by decide +kernel

/-- Section 9.8: entry 4 alone names point 1 of station 21, no entry names point 7; a LEVEL entry, the four kinds of
status entry; and an unmetered and a disabled reservoir. -/
theorem test_witness_ReportsTaken :
    site.t0[4].used = true ∧ site.t0[4].kind = 0 ∧ site.t0[4].target = (3 : Fin 10).val ∧
    (∀ j : Fin 128, j ≠ 4 → ¬(site.t0[j].used = true ∧ site.t0[j].station = 21 ∧ site.t0[j].point = 1)) ∧
    (∀ j : Fin 128, ¬(site.t0[j].used = true ∧ site.t0[j].station = 21 ∧ site.t0[j].point = 7)) ∧
    (∀ k ∈ [(5, 1), (6, 2), (14, 3), (7, 4)], ∃ i : Fin 128, i.val = k.1 ∧ site.t0[i].used = true ∧
      site.t0[i].kind = k.2 ∧ site.t0[i].target = (9 : Fin 32).val) ∧
    site.t1[0].kind = .unmetered ∧ site.t1[1].enabled = false := by decide +kernel

/-- A TRIP report with the trip confirm count 2, by the count before it; a zero one for a TRIPPED pump; a LOCAL_SELECT
report that takes a QUEUED pump; and an unassigned slot. -/
theorem test_witness_ReportsTaken_pumps :
    let v := (part .active 5000 calm).view
    let f (q : Pump) (b : Bool) := let r := (tripReport v 9 b (withPumps [(9, q)])).pump 9; (r.tripCount, r.tripInd, r.state)
    assigned site 9 = true ∧ site.t3[9].tripConfirm = 2 ∧ assigned site 7 = false ∧
    ([0, 1, 2, 3].map fun n => f { idle with tripCount := n } true) =
      [(1, false, .off), (2, true, .tripped), (2, false, .off), (2, true, .tripped)] ∧
    f { idle with state := .tripped, tripCount := 2, tripInd := true } false = (0, false, .off) ∧
    f { idle with state := .tripped, tripCount := 2, tripInd := true, retryT := some 5100 } false = (0, false, .tripped) ∧
    ((localReport v 5 true live).pump 5).state = .off ∧ ((localReport v 5 false live).pump 5).state = .queued ∧
    ((warnReport v 5 true live).pump 5).warn = true ∧ warnReport v 7 true live = live := by decide +kernel

/-- A forwarded frame alone, own traffic alone, both with each turn, a notice, and nothing to send. -/
theorem test_witness_UTransmitterTakesByTurn :
    ∀ l ∈ [({ uQueue := [telemetry] } : Line), { replyQueue := [⟨2, 0, 0, 7, [], false⟩] },
      { uQueue := [telemetry], replyQueue := [⟨2, 0, 0, 7, [], false⟩] },
      { uQueue := [telemetry], replyQueue := [⟨2, 0, 0, 7, [], false⟩], uTurn := .own }, {}],
      Steady (state { part .active 5000 calm with line := l }).part ∧ l.uTx = none := by
  intro l hl
  simp only [List.mem_cons, List.not_mem_nil, or_false] at hl
  rcases hl with rfl | rfl | rfl | rfl | rfl <;> exact ⟨ready_steady _ (by decide +kernel), by decide +kernel⟩

/-- The part with a notice waiting and no reply. -/
theorem test_witness_UTransmitterTakesByTurn_notice :
    let s := state (part .active 5000 { calm with events := { pending := 1, on := true, waiting := true } })
    Steady s.part ∧ s.part.line.replyQueue = [] ∧ s.part.plant.events.waiting = true :=
  ⟨ready_steady _ (by decide +kernel), by decide +kernel⟩

/-- Both transmitters sending, and then neither. -/
theorem test_witness_TransmittersSending :
    (∃ s : State, Steady s.part ∧ s.part.line.uTx ≠ none ∧ s.part.line.dTx ≠ none ∧ s.part.line.uQueue ≠ []) ∧
    ∃ s : State, Steady s.part ∧ s.part.line.dTx = none :=
  ⟨⟨state { part .active 5000 calm with
      line := { uTx := some (.forward telemetry), dTx := some f1, uQueue := [telemetry] } },
      ready_steady _ (by decide +kernel), by decide +kernel⟩,
    state (part .active 5000 calm), ready_steady _ (by decide +kernel), by decide +kernel⟩

/-- Section 8.7: with the pointer at 9 no includable slot comes before p10; and a part with none. -/
theorem test_witness_DTransmitterTakesByTurn :
    (∃ s : State, Steady s.part ∧ s.part.line.dTx = none ∧ s.part.line.dTurn = .own ∧
      includable s.part.tab s.part.plant 10 = true ∧
      ∀ p' : Fin 32, includable s.part.tab s.part.plant p' = true →
        ((10 : Fin 32) - s.part.line.pointer - 1).val ≤ (p' - s.part.line.pointer - 1).val) ∧
    ∃ s : State, Steady s.part ∧ s.part.line.dTx = none ∧
      ∀ p : Fin 32, includable s.part.tab s.part.plant p = false :=
  ⟨⟨state { part .active 5000 busy with line := { dQueue := [f1], pointer := 9, dTurn := .own } },
      ready_steady _ (by decide +kernel), by decide +kernel⟩,
    state (part .active 5000 calm), ready_steady _ (by decide +kernel), by decide +kernel⟩

/-- A completed frame that carries p8's command, and p9's that has been replaced since. -/
theorem test_witness_DTransmitCompletes : ∃ (s : State) (f : DFrame), Steady s.part ∧ s.part.line.dTx = some f ∧
    (s.part.plant.pump 8).cmd = some ⟨.run, .inTransit, 1⟩ ∧ (8, 1) ∈ f.carried ∧ (9, 0) ∈ f.carried ∧
    (s.part.plant.pump 9).cmd = some ⟨.stop, .inTransit, 3⟩ ∧ (9, 3) ∉ f.carried :=
  ⟨state { part .active 1001 (withPumps [
        (8, { idle with state := .starting, cmd := some ⟨.run, .inTransit, 1⟩ }),
        (9, { idle with state := .stopping, cmd := some ⟨.stop, .inTransit, 3⟩ })]) with
      line := { dTx := some { f1 with carried := [(8, 1), (9, 0)] } } }, { f1 with carried := [(8, 1), (9, 0)] },
    ready_steady _ (by decide +kernel), by decide +kernel⟩

/-- Segments of the right form, and entries of each table within their ranges. -/
theorem test_witness_TableWordsReadBack :
    (∀ g ∈ [(⟨6, 5, 2, [1, 1]⟩ : Segment), ⟨4, 0, 1, [300, 60]⟩],
      segmentForm g.table g.first g.count g.words.length = none) ∧
    readSegments 2 (segmentsBytes [⟨6, 5, 2, [1, 1]⟩, ⟨4, 0, 1, [300, 60]⟩]) =
      .segments [⟨6, 5, 2, [1, 1]⟩, ⟨4, 0, 1, [300, 60]⟩] ∧
    site.t1[3].ok ∧ site.t2[2].ok ∧ site.t3[9].ok ∧ site.t4a.ok ∧ site.t9.ok := by
  unfold ResEntry.ok StageEntry.ok PumpEntry.ok FeederEntry.ok General.ok; decide +kernel

/-- R165 step 1 at the ends of its ranges: table 14, 13, 10, 9 and 15; first index and count; a word too few; bytes left
over and a segment cut short; and the flags as they are taken. -/
theorem test_witness_TableWordsReadBack_forms :
    [segmentForm 15 0 1 0, segmentForm 14 31 1 2, segmentForm 13 0 1 8, segmentForm 10 0 1 36, segmentForm 9 0 1 7,
      segmentForm 6 7 1 1, segmentForm 6 6 1 1, segmentForm 6 6 0 0, segmentForm 6 6 2 2, segmentForm 6 0 7 6] =
      [some .badTable, none, some .illegal, some .illegal, none, some .badIndex, none, some .badIndex, some .badIndex,
        some .illegal] ∧
    (let g : Segment := ⟨6, 5, 1, [1]⟩
     (∀ g' ∈ [g], segmentForm g'.table g'.first g'.count g'.words.length = none) ∧
     ([[], [6], [6, 0], [6, 0, 1, 0, 1], [6, 0, 1, 0], [15, 0, 1]].map fun tail =>
       parseArguments 0x03 7 (segmentsBytes [g] ++ tail)) =
       [.request 7 (.tableWrite (.segments [g])), .request 7 (.tableWrite (.refused .illegal)),
         .request 7 (.tableWrite (.refused .illegal)), .request 7 (.tableWrite (.segments [g, ⟨6, 0, 1, [1]⟩])),
         .request 7 (.tableWrite (.refused .illegal)), .request 7 (.tableWrite (.refused .badTable))]) ∧
    (takeFlags 2 [9, 9], takeFlags 8 [9, 9, 0x1FF], takeFlags 9 [9, 0, 0, 0, 0, 0, 15], takeFlags 4 [9, 9]) =
      ([1, 9], [1, 9, 0xFF], [9, 0, 0, 0, 0, 0, 7], [9, 9]) ∧
    rowFor (rowsOf [⟨6, 5, 2, [1, 0]⟩, ⟨6, 6, 1, [1]⟩]) 6 6 = some [1] := by decide +kernel

/-- The first refusal of a table's judgement, for the rows of one segment. -/
def firstRefusal (s : Part) (g : Segment) : Option (Reason × Nat × Nat) := (judge s (segmentRows g)).refusal

/-- Each test of each table's judgement refuses, naming its entry; and rows of the right form, which pass. -/
theorem test_witness_TableWordsReadBack_judged :
    let s := part .passive 5000 (withPumps [(9, { idle with state := .starting, cmd := some ⟨.run, .sent, 0⟩ })])
    RowsFit (rowsOf [⟨1, 3, 1, site.t1[3].words⟩, ⟨3, 9, 1, site.t3[9].words⟩, ⟨9, 0, 1, site.t9.words⟩]) ∧
    ([⟨0, 20, 1, [1, 63, 0, 0, 0, 0, 1]⟩, ⟨0, 20, 1, [1, 21, 1, 1, 0, 0, 1]⟩, ⟨0, 20, 1, [1, 22, 1, 1, 9, 0, 1]⟩,
      ⟨1, 3, 1, { site.t1[3] with tlb := 800 }.words⟩, ⟨1, 1, 1, [0, 2, 1000, 0, 0, 0, 0, 0, 10, 30, 0, 0]⟩,
      ⟨2, 2, 1, { site.t2[2] with n := 5 }.words⟩, ⟨3, 9, 1, { site.t3[9] with station := 0 }.words⟩,
      ⟨3, 9, 1, { site.t3[9] with point := 20 }.words⟩, ⟨3, 9, 1, { site.t3[9] with feeder := .b }.words⟩,
      ⟨5, 10, 1, [1, 2, 5, 0]⟩, ⟨5, 10, 1, [1, 0, 420, 0]⟩, ⟨6, 3, 1, [2]⟩, ⟨5, 5, 1, [0, 1, 0, 0]⟩,
      ⟨7, 1, 1, [1, 3, 1, 2, 3]⟩, ⟨7, 1, 1, [1, 2, 29, 30, 3]⟩, ⟨8, 1, 1, [1, 63, 1]⟩, ⟨8, 1, 1, [1, 5, 1]⟩,
      ⟨9, 0, 1, { site.t9 with classOrder := 7 }.words⟩, ⟨9, 0, 1, site.t9.words⟩].map (firstRefusal s)) =
    [some (.badValue, 0, 20), some (.duplicateKey, 0, 20), some (.duplicateKey, 0, 20), some (.badValue, 1, 3),
      some (.badValue, 1, 1), some (.badValue, 2, 2), some (.badValue, 3, 9), some (.duplicateKey, 3, 9),
      some (.busy, 3, 9), some (.badValue, 5, 10), some (.badValue, 5, 10), some (.badValue, 6, 3), some (.badValue, 6, 5),
      some (.badValue, 7, 1), some (.badValue, 7, 1), some (.badValue, 8, 1), some (.duplicateKey, 8, 1),
      some (.badValue, 9, 0), none] := by
  unfold RowsFit; decide +kernel

/-- The part under a check hold, with room and with none; without one, with room and with none. -/
theorem test_witness_RequestTestsInOrder :
    ∀ c ∈ [(true, 3), (true, 4), (false, 3), (false, 4)], ∃ s : State, (s.part.power = .on ∧ Settled s.part.plant) ∧
      s.part.line.checkHold = c.1 ∧ s.part.line.replyQueue.length = c.2 ∧ s.part.address = 20 := by
  intro c hc
  refine ⟨state { part .active 5000 calm with
    line := { checkHold := c.1, replyQueue := List.replicate c.2 ⟨2, 0, 0, 7, [], false⟩ } }, ?_⟩
  simp only [List.mem_cons, List.not_mem_nil, or_false] at hc
  rcases hc with rfl | rfl | rfl | rfl <;> exact ⟨ready_settled _ (by decide +kernel), by decide +kernel⟩

/-- The request codes at the ends of their range, and arguments of a wrong length, a segment list of 2 bytes among
them; UNKNOWN_REQUEST as a command; and a broadcast. -/
theorem test_witness_RequestTestsInOrder_codes :
    ([[], [1], [0, 7], [15, 7], [1, 7], [1, 7, 0], [3, 7, 0, 0], [14, 7], [14, 7, 0]].map fun p =>
      match parseManage p with
      | .short _ => 0
      | .unknown _ _ => 1
      | .badArguments _ _ => 2
      | .request _ _ => 3) = [0, 0, 1, 1, 3, 2, 2, 3, 2] ∧
    (Instr.unknownRequest ask 15 [1]).wf = true ∧ Asked ask (state (part .active 5000 calm)).part ∧
    (manageFrame { ask with dest := 0 } 1 []).dest = 0 ∧ (state (part .active 5000 calm)).part.address ≠ 0 :=
  ⟨by decide +kernel, by decide +kernel, ready_asked _ _ (by decide +kernel) (by decide +kernel), by decide +kernel,
    by decide +kernel⟩

/-- What a broadcast leaves: the codes of the two modes, whether the clock is set, notices and the check hold stand,
and the number of replies. -/
def broadcast (s : Part) (c : Bool × List Byte) : List Nat :=
  match exec (.goodFrameOnU { dest := 0, source := 5, kind := kindManage, payload := c.2 })
      (state { s with line := { checkHold := c.1 }, plant := { s.plant with events := { on := true } } }) with
  | .next t => [t.part.mgmt.addrMode.code, t.part.mgmt.mode.code, t.part.cal.clockSet.toNat,
      t.part.plant.events.on.toNat, t.part.line.checkHold.toNat, t.part.line.replyQueue.length]
  | _ => []

/-- A part in COMMISSIONING and ADVISORY with a service address. -/
def unaddressed : Part :=
  { part .advisory 5000 calm with mgmt := { addrMode := .commissioning, mode := .advisory, storeState := .valid } }

/-- R22, R124, R130, R162, R166: the broadcasts that are carried out, without a check hold and under one, and each with
an argument that has it ignored. The part of section 11.9 is in COMMISSIONING without a service address. -/
theorem test_witness_RequestTestsInOrder_broadcasts :
    ([(false, [0x0B, 7]), (true, [0x0B, 7])].map (broadcast unaddressed)) = [[1, 1, 0, 1, 0, 0], [0, 1, 0, 1, 1, 0]] ∧
    broadcast Part.reset (false, [0x0B, 7]) = [0, 0, 0, 1, 0, 0] ∧
    ([(false, [0x0C, 7]), (true, [0x0C, 7]), (false, [0x0C, 7, 0]), (false, [0x06, 7, 6, 5, 159, 59]),
      (true, [0x06, 7, 6, 5, 159, 59]), (false, [0x06, 7, 6, 5, 160, 59]), (false, [0x08, 7, 1]), (true, [0x08, 7, 1]),
      (false, [0x08, 7, 0])].map (broadcast (part .active 5000 calm))) =
    [[0, 0, 0, 0, 0, 0], [0, 0, 0, 0, 0, 0], [1, 3, 0, 1, 0, 0], [1, 3, 1, 1, 0, 0], [1, 3, 0, 1, 1, 0],
      [1, 3, 0, 1, 0, 0], [1, 3, 0, 0, 0, 0], [1, 3, 0, 1, 1, 0], [1, 3, 0, 1, 0, 0]] := by decide +kernel

/-- The first index, the count and the word offset of a TABLE_READ at the ends of their ranges. -/
theorem test_witness_ReadsAnswered : Asked ask (state (part .active 5000 calm)).part ∧
    ([(15, 0, 1, 0), (14, 31, 32, 63), (1, 10, 1, 0), (1, 9, 0, 0), (1, 9, 11, 0), (1, 9, 10, 119), (1, 9, 10, 120)].map
      fun c => (tableReadAnswer (part .active 5000 calm) c.1 c.2.1 c.2.2.1 c.2.2.2).reason) =
      [3, 0, 4, 4, 4, 0, 4] :=
  ⟨ready_asked _ _ (by decide +kernel) (by decide +kernel), by decide +kernel⟩

/-- R4, R33, R58, R94, R96: the words of a pump, stage, reservoir and feeder record and of the start queue. -/
theorem test_witness_ReadsAnswered_words :
    let q : Pump := { idle with
      state := .starting, cause := .lostRun, retries := 1, cmd := some ⟨.run, .sent, 3⟩, warn := true
      minRunMet := true, runStart := 0x10002, stopAt := 7, history := [0x30004, 5] }
    let x : Plant := { (calm.setPump 9 q).setStage 2 { d0 := 500, w := 2, override := .staleHold, spacingT := some 5060
                                                       advice := .stop, adviceSlot := 9, cause := .modeEntry } with
      queue := [⟨8, .b, .precharge, 2, true, 1⟩] }
    let s := part .active 5000 x
    tableEntry s 10 9 = [4, 0, 1, 3, 1, 1, 0x95, 1, 2, 0, 7, 2, 3, 4, 0, 5] ++ List.replicate 20 0 ∧
    q.history.length ≤ 12 ∧ tableEntry s 11 2 = [500, 0, 0, 0, 2, 3, 2, 9, 0, 60, 8] ∧
    tableEntry s 12 0 = [3, 8, 1, 2, 2, 1] ∧ tableEntry s 12 1 = [0, 0, 0, 0, 0, 0] ∧
    tableEntry { s with levels := s.levels.set 3 { s.levels[3] with rate := -12 } } 13 3 =
      [2900, 2, 0xFFF4, 0, 5000, 2900, 0, 5000] ∧
    ({ committed := 90, busy := true, holder := 9, released := true, spacingT := some 5030 } : FeederLive).words 5000 =
      [90, 1, 9, 1, 30] ∧ (ModeCheck.inconsistent 4 9).words = [4, 9] := by decide +kernel

/-- What a TABLE_WRITE is answered with: status, reason and data. -/
def writeAnswer (m : Mode) (segs : List Segment) (s : Part) : Byte × Byte × List Byte :=
  let a := (tableWriteRequest (readSegments 64 (segmentsBytes segs)) { s with mgmt := { s.mgmt with mode := m } }).2
  (a.status.code, a.reason, a.data)

/-- A table above 14, a live table, an index outside; BUSY; a structural field outside PASSIVE, and a write of T6 there;
a value refused, a value clamped, and one accepted. -/
theorem test_witness_TableWriteJudged : Asked ask (state (part .active 5000 calm)).part ∧
    (Instr.tableWrite ask [⟨6, 5, 2, [1, 1]⟩]).wf = true ∧
    [writeAnswer .passive [⟨15, 0, 1, []⟩] (part .passive 5000 calm),
      writeAnswer .passive [⟨10, 0, 1, []⟩] (part .passive 5000 calm),
      writeAnswer .passive [⟨6, 7, 1, [0]⟩] (part .passive 5000 calm),
      writeAnswer .passive [⟨6, 0, 1, [1]⟩] saving,
      writeAnswer .active [⟨9, 0, 1, [21, 2, 1, 2, 10, 120, 0]⟩] (part .active 5000 calm),
      writeAnswer .active [⟨6, 0, 1, [1]⟩] (part .active 5000 calm),
      writeAnswer .passive [⟨6, 6, 1, [2]⟩] (part .passive 5000 calm),
      writeAnswer .passive [⟨4, 0, 1, [2001, 60]⟩] (part .passive 5000 calm)] =
    [(2, 3, []), (2, 9, []), (2, 4, []), (2, 8, []), (2, 7, [9, 0]), (0, 0, []), (2, 5, [6, 6]), (1, 0, [])] :=
  ⟨ready_asked _ _ (by decide +kernel) (by decide +kernel), by decide +kernel, by decide +kernel⟩

/-- R165 step 3: the last structural field of each table, and the tuning field after it. -/
theorem test_witness_TableWriteJudged_structure :
    let f (t i : Nat) (ws : List Word) := changesStructure site { table := t, index := i, words := ws }
    [f 0 4 { site.t0[4] with span := 1 }.words, f 1 3 { site.t1[3] with kind := .unmetered }.words,
      f 1 3 { site.t1[3] with fs := 6000 }.words, f 2 2 { site.t2[2] with n := 2 }.words,
      f 2 2 { site.t2[2] with maxRunning := 2 }.words, f 3 9 { site.t3[9] with feeder := .b }.words,
      f 3 9 { site.t3[9] with rating := 91 }.words, f 9 0 { site.t9 with service := 21 }.words,
      f 9 0 { site.t9 with notice := 21 }.words, f 7 0 [1, 2, 1, 2, 3]] =
      [true, true, false, true, false, true, false, true, false, false] := by decide +kernel

/-- The completions by their cases: the record of a written reservoir, at a changed flag, a source and a lowered FS; the
upline quiet timer; the holder of the slot that becomes unassigned, with the spacing running and idle; and lost points. -/
theorem test_witness_TableWriteJudged_completions :
    let s := part .passive 5000 calm
    let r (i : Fin 10) (e : ResEntry) := (reservoirWrite site { s with tab := { site with t1 := site.t1.set i e } } i).levels[i]
    let q (old new : Nat) := (quietWrite old new { s with line := { quietT := some 7, uplineLost := true } }).line
    let off := { site with t2 := site.t2.set 2 { site.t2[2] with enabled := false } }
    let h (t : Timer) := (pumpWrite site [⟨2, 2, off.t2[2].words⟩] { s.view with tab := off }
      { calm with feedA := { busy := true, holder := 9, spacingT := t } }).feedA
    r 3 { site.t1[3] with enabled := false } = {} ∧ r 0 { site.t1[0] with fs := 2000 } = { level := 2000, state := .normal } ∧
    (let l := r 3 { site.t1[3] with fs := 2800, ha := 2700 }; (l.level, l.sampleLevel, l.state)) = (2800, 2800, .highAlarm) ∧
    (q 10 0).quietT = none ∧ (q 10 0).uplineLost = false ∧ (q 0 10).quietT = some 5010 ∧ (q 10 20).quietT = some 7 ∧
    assigned site 9 = true ∧ assigned off 9 = false ∧ (h (some 5060)).released = true ∧ (h none).busy = false ∧
    (lostPoints { site with t0 := ({} : Settings).t0.set 5 { site.t0[5] with kind := 3 } } { s.view with tab :=
      { site with t0 := ({} : Settings).t0 } } (withPumps [(9, { idle with warn := true })]) 9).pumps = calm.pumps := by decide +kernel

/-- The accepted case: a write of T9 with quiet time 0, one of T6 over a due boundary, and one of T7 whose frame its own
window mirrors as address 62 and past it. -/
theorem test_witness_TableWriteJudged_accepted :
    let s := part .active 5000 calm
    gives (.tableWrite ask [⟨9, 0, 1, [20, 2, 1, 2, 0, 120, 0]⟩]) { s with line := { quietT := some 5004 } }
      (fun t => lastReply t = some (0, 0, 7, []) ∧ t.line.quietT = none ∧ t.line.uplineLost = false) ∧
    gives (.tableWrite ask [⟨6, 0, 1, [1]⟩]) { s with cal :=
        { s.cal with clockSet := true, minute := 1020, cls := .cheap, boundaryDue := true } }
      (fun t => lastReply t = some (0, 0, 7, []) ∧ t.cal.boundaryDue = false ∧ t.cal.cls = .normal) ∧
    gives (.tableWrite ask [⟨7, 1, 1, [1, 1, 1, 2, 61]⟩]) s (fun t => t.plant.events.pending = 0) ∧
    gives (.tableWrite ask [⟨7, 1, 1, [1, 1, 1, 2, 62]⟩]) s (fun t => t.plant.events.pending = 4) := by decide +kernel

/-- Each mode as the present one; the checks failing and passing; and COMMISSIONING. -/
theorem test_witness_ModeSetTaken :
    (∀ m ∈ [Mode.passive, .advisory, .settling, .active], Asked ask (state (part m 5000 calm)).part ∧
      (state (part m 5000 calm)).part.mgmt.mode = m) ∧
    modeCheck site = .passed ∧ modeCheck { site with t9 := { site.t9 with notice := 0 } } = .inconsistent 5 0 ∧
    Asked ask63 State.reset.part ∧ State.reset.part.mgmt.addrMode = .commissioning := by
  refine ⟨fun m hm => ?_, by decide +kernel, by decide +kernel, ?_, by decide +kernel⟩
  · simp only [List.mem_cons, List.not_mem_nil, or_false] at hm
    rcases hm with rfl | rfl | rfl | rfl <;>
      exact ⟨ready_asked _ _ (by decide +kernel) (by decide +kernel), by decide +kernel⟩
  · exact ready_asked Part.reset _ (by decide +kernel) (by decide +kernel)

/-- R167: each check at the entry it names, the checks at the boundary of a budget, and the earlier of two failures. -/
theorem test_witness_ModeSetTaken_checks :
    let budget (n : Nat) : Settings := { site with t4a := { site.t4a with budget := n } }
    [modeCheck { site with t1 := site.t1.set 3 {} }, modeCheck { site with t1 := site.t1.set 0 {} },
      modeCheck { site with t0 := site.t0.set 4 {} }, modeCheck { site with t0 := site.t0.set 9 {} },
      modeCheck (budget 149), modeCheck (budget 150), modeCheck { site with t9 := { site.t9 with service := 0 } },
      modeCheck { site with t0 := (site.t0.set 9 {}).set 4 {} }, modeCheck { budget 0 with t0 := site.t0.set 13 {} }] =
      [.inconsistent 1 2, .inconsistent 1 1, .inconsistent 2 3, .inconsistent 3 4, .inconsistent 4 5, .passed,
        .inconsistent 5 0, .inconsistent 2 3, .inconsistent 3 10] ∧
    [0, 4, 6, 7].map (assigned site) = [false, true, true, false] := by decide +kernel

theorem test_witness_ModeChangeEffects : QueueAgrees (part .active 7000 live).plant ∧
    (part .active 7000 live).mgmt.mode = .active ∧ live.queue ≠ [] ∧ (live.pump 8).awaits .run = true ∧
    (part .settling 7000 live).mgmt.mode ≠ .active := by
  unfold QueueAgrees; decide +kernel

/-- R91, R168: from ACTIVE to ADVISORY the request of p5 leaves and stages are evaluated with MODE_ENTRY, which rewrites
a kept shortfall flag; to PASSIVE the flag is cleared; from PASSIVE to SETTLING nothing is evaluated. -/
theorem test_witness_ModeChangeEffects_kept :
    let x := live.setStage 2 { w := 1, shortfall := true, advice := .stop, adviceSlot := 9 }
    let f (a b : Mode) :=
      let t := (changeMode b (part a 7000 x)).plant
      (t.queue.length, (t.stage 2).cause, (t.stage 2).shortfall, (t.stage 2).advice, (t.pump 8).state)
    f .active .advisory = (0, .modeEntry, false, .start, .off) ∧ f .active .passive = (0, .none, false, .none, .off) ∧
    f .passive .settling = (1, .none, false, .none, .starting) ∧
    ((updateStages .advisory x).stage 2) = { w := 1, shortfall := true } ∧
    ((updateStages .settling x).stage 2) = { w := 1 } := by decide +kernel

/-- A slot that is not assigned and one that names no slot; p6 TRIPPED, p9 not. -/
theorem test_witness_PumpRequestsTaken :
    let s := state (part .active 5000 (withPumps [(6, { idle with state := .tripped })]))
    Asked ask s.part ∧ assigned s.part.tab 7 = false ∧ (∀ p : Fin 32, p.val ≠ 32) ∧
      assigned s.part.tab 6 = true ∧ (s.part.plant.pump 6).state = .tripped ∧ assigned s.part.tab 9 = true ∧
      (s.part.plant.pump 9).state ≠ .tripped ∧ (s.part.plant.pump 9).state ≠ .lockedOut ∧
      (s.part.plant.pump 9).owner = .auto :=
  ⟨ready_asked _ _ (by decide +kernel) (by decide +kernel), by decide +kernel⟩

/-- p5 QUEUED, p8 STARTING with an awaiting RUN, p10 STOPPING with an awaiting STOP, all AUTO; and p9 idle. -/
theorem test_witness_OwnerChangeEffects :
    let v := (part .active 7000 live).view
    let x := live.setPump 10 { idle with state := .stopping, feedback := .running, cmd := some ⟨.stop, .awaiting, 0⟩ }
    ((changeOwner v 5 .manual x).pump 5).state = .off ∧ ((changeOwner v 8 .manual x).pump 8).state = .off ∧
    ((changeOwner v 10 .outOfService x).pump 10).state = .running ∧
    (changeOwner v 9 .manual x).pump 9 = { idle with owner := .manual } := by decide +kernel

/-- The clearing of an awaiting command, by the state of the pump and its feedback; and a pump without one. -/
theorem test_witness_OwnerChangeEffects_cleared :
    let f (st : PumpState) (a : Action) (fb : Feedback) :=
      let r := (clearAwaiting (part .active 7000 calm).view 9
        (withPumps [(9, { idle with state := st, feedback := fb, cmd := some ⟨a, .awaiting, 0⟩ })])).pump 9
      (r.state, r.cmd.isSome)
    f .starting .run .stopped = (.off, false) ∧ f .stopping .stop .running = (.running, false) ∧
    f .stopping .stop .stopped = (.off, false) ∧ f .tripped .stop .running = (.tripped, false) ∧
    f .lockedOut .stop .stopped = (.lockedOut, false) ∧
    clearAwaiting (part .active 7000 calm).view 9 calm = calm := by decide +kernel

theorem test_witness_ClockSetTaken : ∃ s : State, Asked ask s.part ∧ s.part.cal.boundaryDue = false ∧
    ([(6, 1439, 59), (7, 0, 0), (0, 1440, 0), (0, 0, 60)].map fun c => (clockSetRequest c.1 c.2.1 c.2.2 s.part).2.reason) =
      [0, 5, 5, 5] :=
  ⟨state (part .active 5000 calm), ready_asked _ _ (by decide +kernel) (by decide +kernel), by decide +kernel⟩

/-- R28: a minute boundary is due and the class has changed; the boundary is taken with CLOCK_SET and not with a
refused one. -/
theorem test_witness_ClockSetTaken_boundary : ∃ s : State, Asked ask s.part ∧ s.part.cal.boundaryDue = true ∧
    classAt s.part.tab s.part.cal ≠ s.part.cal.cls ∧ (clockSetRequest 7 0 0 s.part).1.cal.boundaryDue = true ∧
    (clockSetRequest 0 420 0 s.part).1.cal.boundaryDue = false ∧ (clockSetRequest 0 420 0 s.part).1.cal.cls = .normal :=
  ⟨state { part .active 5000 calm with
      cal := { uptime := 5000, clockSet := true, day := 4, minute := 1020, boundaryDue := true } },
    ready_asked _ _ (by decide +kernel) (by decide +kernel), by decide +kernel⟩

/-- A part with a notice address and one without, and with a window that holds the request's source and whose
translation gives an address above 62, so that the copy is dropped. -/
theorem test_witness_NoticeRequestsTaken : ∀ n ∈ [0, 2], ∃ s : State, Asked ask s.part ∧
    s.part.tab.t9.notice = n ∧ s.part.tab.t7[0].holdsSource .down ask.source = true ∧
    (mirror .down { dest := 20, source := 2, kind := 5, payload := [] } s.part).plant.events.pending = 4 := by
  intro n hn
  refine ⟨state { part .active 5000 calm with
    tab := { site with
      t7 := site.t7.set 0 { used := true, direction := 1, low := 1, high := 5, base := 62 }
      t9 := { site.t9 with notice := n } } }, ?_⟩
  simp only [List.mem_cons, List.not_mem_nil, or_false] at hn
  rcases hn with rfl | rfl <;> exact ⟨ready_asked _ _ (by decide +kernel) (by decide +kernel), by decide +kernel⟩

/-- A part without a service address and one with; and a part in ACTIVE under a check hold. -/
theorem test_witness_AddressRequestsTaken :
    (Asked ask63 State.reset.part ∧ State.reset.part.tab.t9.service = 0) ∧
    (∃ s : State, Asked ask s.part ∧ s.part.tab.t9.service ≠ 0) ∧
    ∃ s : State, (s.part.power = .on ∧ Settled s.part.plant) ∧ ask.dest = s.part.address ∧
      s.part.line.checkHold = true ∧ s.part.line.replyQueue.length < replyCapacity ∧ s.part.mgmt.mode = .active :=
  ⟨⟨ready_asked Part.reset _ (by decide +kernel) (by decide +kernel), by decide +kernel⟩,
    ⟨state (part .active 5000 calm), ready_asked _ _ (by decide +kernel) (by decide +kernel), by decide +kernel⟩,
    state { part .active 5000 calm with line := { checkHold := true } }, ready_settled _ (by decide +kernel),
    by decide +kernel⟩

theorem test_witness_SaveAndRestartTaken :
    (Asked ask (state saving).part ∧ (state saving).part.mgmt.store.saving ≠ none) ∧
    ∃ s : State, Asked ask s.part ∧ s.part.mgmt.store.saving = none ∧ s.part.mgmt.restartPending = false :=
  ⟨⟨ready_asked _ _ (by decide +kernel) (by decide +kernel), by decide +kernel⟩,
    state (part .active 5000 calm), ready_asked _ _ (by decide +kernel) (by decide +kernel), by decide +kernel⟩

end Sys2Proof.Tests
end

section
/-!
PROOFS. The thresholds of R43 and W as R44 steps it by them.
-/

namespace Sys2Proof.Machine

/-! ### The thresholds (R43) -/

/-- The step part of a threshold leaves room for the largest half band: at most 750 with up to four pumps. -/
theorem thresholdBase_le {n k : Nat} (hn : n ≤ 4) (hk : 1 ≤ k) (hkn : k ≤ n) : (k - 1) * 1000 / n ≤ 750 :=
  Nat.div_le_of_le_mul (by omega)

/-- R43 states T_off over the integers, raised to 0. -/
theorem tOff_eq_max (n hb k : Nat) : (tOff n hb k : Int) = max 0 ((((k - 1) * 1000 / n : Nat) : Int) - hb) := by
  unfold tOff; omega

theorem tOff_lt_tOn {hb : Nat} (n k : Nat) (h : 1 ≤ hb) : tOff n hb k < tOn n hb k :=
  (Nat.sub_le _ _).trans_lt (Nat.lt_add_of_pos_right h)

theorem tOn_le_thousand {n hb k : Nat} (hn : n ≤ 4) (hb250 : hb ≤ 250) (hk : 1 ≤ k) (hkn : k ≤ n) :
    tOn n hb k ≤ 1000 := by
  have h := thresholdBase_le hn hk hkn
  unfold tOn; omega

theorem tOff_one (n hb : Nat) : tOff n hb 1 = 0 := by simp [tOff]

/-! ### W by the thresholds (R44) -/

/-- Step 1 of R44 climbs to the last count that D3 reaches without a gap, given fuel for the climb. -/
theorem raiseW_eq {n hb d3 up : Nat} (hup : up ≤ n) (stop : up < n → d3 < tOn n hb (up + 1)) (fuel w : Nat)
    (hw : w ≤ up) (hfuel : up ≤ w + fuel) (climb : ∀ k, w < k → k ≤ up → tOn n hb k ≤ d3) :
    raiseW n hb d3 fuel w = up := by
  induction fuel generalizing w with
  | zero => exact Nat.le_antisymm hw hfuel
  | succ fuel ih =>
    rcases hw.eq_or_lt with rfl | hlt
    · exact if_neg fun ⟨hwn, hreach⟩ => absurd hreach (Nat.not_le.2 (stop hwn))
    · have hreach : w < n ∧ tOn n hb (w + 1) ≤ d3 := ⟨by omega, climb (w + 1) (by omega) hlt⟩
      rw [raiseW, if_pos hreach]
      exact ih (w + 1) hlt (by omega) fun k hk => climb k (by omega)

/-- Step 2 of R44 falls to the first count whose T_off D3 exceeds. -/
theorem lowerW_eq {n hb d3 down : Nat} (stop : 0 < down → tOff n hb down < d3) (w : Nat) (hw : down ≤ w)
    (fall : ∀ k, down < k → k ≤ w → d3 ≤ tOff n hb k) : lowerW n hb d3 w = down := by
  induction w with
  | zero => exact (Nat.le_zero.1 hw).symm
  | succ w ih =>
    rcases hw.eq_or_lt with rfl | hlt
    · exact if_neg (Nat.not_le.2 (stop (Nat.succ_pos w)))
    · rw [lowerW, if_pos (fall (w + 1) hlt le_rfl)]
      exact ih (by omega) fun k hk hkw => fall k hk (by omega)

/-- W as R44 steps it, from the counts at which the climb and the fall end. -/
theorem stepW_eq {n hb d3 w up down : Nat} (maxRunning : Nat) (hup : up ≤ n) (hwup : w ≤ up)
    (climb : ∀ k, w < k → k ≤ up → tOn n hb k ≤ d3) (top : up < n → d3 < tOn n hb (up + 1)) (hdown : down ≤ w)
    (fall : ∀ k, down < k → k ≤ w → d3 ≤ tOff n hb k) (bottom : 0 < down → tOff n hb down < d3) :
    stepW n hb maxRunning d3 w = min (if w < up then up else down) maxRunning := by
  simp only [stepW, raiseW_eq hup top n w hwup (by omega) climb, lowerW_eq bottom w hdown fall]

/-- Between T_off(W) and T_on(W + 1) neither step moves W. -/
theorem stepW_of_between {n hb d3 w : Nat} (maxRunning : Nat) (hw : w ≤ n) (top : w < n → d3 < tOn n hb (w + 1))
    (bottom : 0 < w → tOff n hb w < d3) : stepW n hb maxRunning d3 w = min w maxRunning := by
  have h := stepW_eq maxRunning hw le_rfl (fun k hk hkw => absurd hkw (Nat.not_le.2 hk)) top le_rfl
    (fun k hk hkw => absurd hkw (Nat.not_le.2 hk)) bottom
  rwa [if_neg (Nat.lt_irrefl w)] at h

/-- Settles O24: the thresholds by their formulas, and W by following each step of R44 to where it ends. -/
theorem wantedCountStepped : Obligations.WantedCountStepped := by
  unfold Obligations.WantedCountStepped
  refine ⟨?thresholds, ?stepped⟩
  case thresholds =>
    intro n hb k _ hn hb1 hb250 hk hkn
    exact ⟨rfl, tOff_eq_max n hb k, tOff_lt_tOn n k hb1, tOn_le_thousand hn hb250 hk hkn, tOff_one n hb⟩
  case stepped =>
    intro n hb maxRunning d3 w up down hw hwup hup climb top hdown fall bottom
    exact ⟨stepW_eq maxRunning hup hwup climb top hdown fall bottom, stepW_of_between maxRunning hw⟩

end Sys2Proof.Machine
end

section
/-!
PROOFS. What a reconciliation and an evaluation of a stage leave alone: the other stages with their pumps, and of the
stage's own record everything but the fields that reconciliation writes.
-/

namespace Sys2Proof.Machine

/-! ### The pumps of a stage -/

theorem stageOf_slotAt (k : Fin 8) (j : Fin 4) : stageOf (slotAt k j) = k :=
  Fin.ext (by simp only [stageOf, slotAt]; omega)

theorem stageOf_of_mem_stagePumps {tab : Settings} {k : Fin 8} {p : Fin 32} (h : p ∈ stagePumps tab k) :
    stageOf p = k := by
  have hp : p ∈ stageSlots k := List.mem_of_mem_filter h
  simp only [stageSlots, List.mem_cons, List.not_mem_nil, or_false] at hp
  rcases hp with rfl | rfl | rfl | rfl <;> exact stageOf_slotAt k _

theorem mem_of_pickFirst {α : Type} {before : α → α → Bool} {l : List α} {a : α} (h : pickFirst before l = some a) :
    a ∈ l := by
  induction l generalizing a with
  | nil => simp [pickFirst] at h
  | cons b l ih =>
    simp only [pickFirst] at h
    split at h
    · exact Option.some.inj h ▸ List.mem_cons_self
    · next c hc =>
      split at h
      · exact List.mem_cons_of_mem b (Option.some.inj h ▸ ih hc)
      · exact Option.some.inj h ▸ List.mem_cons_self

theorem stageOf_startChoice {v : View} {k : Fin 8} {x : Plant} {p : Fin 32} (h : startChoice v k x = some p) :
    stageOf p = k :=
  stageOf_of_mem_stagePumps (List.mem_of_mem_filter (mem_of_pickFirst h))

theorem stageOf_stopChoice {v : View} {k : Fin 8} {x : Plant} {p : Fin 32} (h : stopChoice v k x = some p) :
    stageOf p = k := by
  unfold stopChoice at h
  split at h
  · exact stageOf_of_mem_stagePumps (List.mem_of_mem_filter (mem_of_pickFirst h))
  · cases h

theorem stageOf_latestRequest {k : Fin 8} {q : List Request} {e : Request} (h : latestRequest k q = some e) :
    stageOf e.pump = k := by
  simpa using List.of_mem_filter (mem_of_pickFirst h)

/-! ### Frames by stage -/

/-- The record of stage `k` and the records of its pumps are the same in both. -/
def SameStage (k : Fin 8) (x y : Plant) : Prop :=
  y.stage k = x.stage k ∧ ∀ p : Fin 32, stageOf p = k → y.pump p = x.pump p

namespace SameStage

variable {k : Fin 8} {x y z : Plant}

theorem refl (k : Fin 8) (x : Plant) : SameStage k x x := ⟨rfl, fun _ _ => rfl⟩

theorem trans (h : SameStage k x y) (h' : SameStage k y z) : SameStage k x z :=
  ⟨h'.1.trans h.1, fun p hp => (h'.2 p hp).trans (h.2 p hp)⟩

end SameStage

/-- No stage but `k`, and no pump of another stage, has changed. -/
def OnlyStage (k : Fin 8) (x y : Plant) : Prop := ∀ k' : Fin 8, k' ≠ k → SameStage k' x y

namespace OnlyStage

variable {k : Fin 8} {x y z : Plant}

theorem refl (k : Fin 8) (x : Plant) : OnlyStage k x x := fun k' _ => SameStage.refl k' x

theorem trans (h : OnlyStage k x y) (h' : OnlyStage k y z) : OnlyStage k x z :=
  fun k' hk => (h k' hk).trans (h' k' hk)

theorem setStage (k : Fin 8) (l : StageLive) (x : Plant) : OnlyStage k x (x.setStage k l) :=
  fun _ hk => ⟨Plant.stage_setStage_ne x hk l, fun _ _ => rfl⟩

theorem raise (h : OnlyStage k x y) (e : Event) : OnlyStage k x (y.raise e) := h

end OnlyStage

/-- Of the stage and pump records only those of the pumps of stage `k` have changed, and in the record of the stage
only the advised fields, the shortfall flag and the stop spacing timer: what reconciliation may write. -/
def OnlyReconciled (k : Fin 8) (x y : Plant) : Prop :=
  OnlyStage k x y ∧ ∃ (a : Advice) (n : Nat) (b : Bool) (u : Timer),
    y.stage k = { x.stage k with advice := a, adviceSlot := n, shortfall := b, spacingT := u }

namespace OnlyReconciled

variable {k : Fin 8} {x y z : Plant}

theorem refl (k : Fin 8) (x : Plant) : OnlyReconciled k x x := ⟨OnlyStage.refl k x, _, _, _, _, rfl⟩

theorem trans (h : OnlyReconciled k x y) (h' : OnlyReconciled k y z) : OnlyReconciled k x z := by
  obtain ⟨hxy, _, _, _, _, hy⟩ := h
  obtain ⟨hyz, a, n, b, u, hz⟩ := h'
  exact ⟨hxy.trans hyz, a, n, b, u, by rw [hz, hy]⟩

/-- An operation on one pump of the stage. -/
theorem of_onlyPump {p : Fin 32} (hp : stageOf p = k) (h : OnlyPump p x y) : OnlyReconciled k x y := by
  obtain ⟨hstages, hpumps⟩ := h
  have hstage : ∀ k', y.stage k' = x.stage k' := fun k' => by simp only [Plant.stage, hstages]
  refine ⟨fun k' hk => ⟨hstage k', fun p' hp' => hpumps p' ?_⟩, _, _, _, _, hstage k⟩
  rintro rfl
  exact hk (hp'.symm.trans hp)

/-- A write of the fields that reconciliation owns. -/
theorem setStage (a : Advice) (n : Nat) (b : Bool) (u : Timer) (k : Fin 8) (x : Plant) : OnlyReconciled k x
    (x.setStage k { x.stage k with advice := a, adviceSlot := n, shortfall := b, spacingT := u }) :=
  ⟨OnlyStage.setStage k _ x, a, n, b, u, Plant.stage_setStage_same ..⟩

theorem raise (h : OnlyReconciled k x y) (e : Event) : OnlyReconciled k x (y.raise e) := h

theorem ite {c : Prop} [Decidable c] (hy : OnlyReconciled k x y) (hz : OnlyReconciled k x z) :
    OnlyReconciled k x (if c then y else z) := by split <;> assumption

end OnlyReconciled

/-! ### A reconciliation writes its stage and the stage's pumps only (R76) -/

theorem enqueueUpTo_frame (v : View) (k : Fin 8) (n : Nat) (x : Plant) :
    OnlyReconciled k x (enqueueUpTo v k n x) := by
  induction n generalizing x with
  | zero => exact .refl k x
  | succ n ih =>
    unfold enqueueUpTo
    split
    · exact .refl k x
    · next p hp => exact (OnlyReconciled.of_onlyPump (stageOf_startChoice hp) (enqueue_frame v p x)).trans (ih _)

theorem withdrawUpTo_frame (v : View) (k : Fin 8) (n : Nat) (x : Plant) :
    OnlyReconciled k x (withdrawUpTo v k n x) := by
  induction n generalizing x with
  | zero => exact .refl k x
  | succ n ih =>
    unfold withdrawUpTo
    split
    · exact .refl k x
    · next e he =>
      exact (OnlyReconciled.of_onlyPump (stageOf_latestRequest he) (withdraw_frame v e.pump x)).trans (ih _)

theorem spacedStop_frame (v : View) {k : Fin 8} {p : Fin 32} (hp : stageOf p = k) (x : Plant) :
    OnlyReconciled k x (spacedStop v k p x) :=
  have stopped := OnlyReconciled.of_onlyPump hp (stopDecision_frame v p x)
  .ite stopped (stopped.trans (.setStage _ _ _ _ k _))

theorem dryRunPump_frame (v : View) (x : Plant) (p : Fin 32) : OnlyPump p x (dryRunPump v x p) :=
  .ite (withdraw_frame v p x) (.ite (clearAwaitingRun_frame v p x)
    (.ite (stopDecision_frame v p x) (OnlyPump.refl p x)))

theorem dryRun_frame (v : View) (k : Fin 8) (x : Plant) : OnlyReconciled k x (dryRun v k x) :=
  List.foldlRecOn (motive := OnlyReconciled k x) _ _ (.refl k x) fun y hy p hp =>
    hy.trans (.of_onlyPump (stageOf_of_mem_stagePumps hp) (dryRunPump_frame v y p))

theorem writeShortfall_frame (k : Fin 8) (short : Bool) (x : Plant) :
    OnlyReconciled k x (writeShortfall k short x) :=
  have written := OnlyReconciled.setStage _ _ short _ k x
  .ite (written.raise _) written

theorem writeAdvice_frame (k : Fin 8) (a : Advice) (n : Nat) (x : Plant) :
    OnlyReconciled k x (writeAdvice k a n x) := .setStage a n _ _ k x

theorem ordinaryDecisions_frame (v : View) (k : Fin 8) (x : Plant) :
    OnlyReconciled k x (ordinaryDecisions v k x).1 := by
  have withdrawn := withdrawUpTo_frame v k (cCount v k x - aCount v k x) x
  unfold ordinaryDecisions
  dsimp only
  split
  · exact enqueueUpTo_frame v k _ x
  · split
    · split
      · exact withdrawn
      · next p hp => exact withdrawn.trans (spacedStop_frame v (stageOf_stopChoice hp) _)
    · exact withdrawn

theorem reconcileActive_frame (v : View) (k : Fin 8) (x : Plant) :
    OnlyReconciled k x (reconcileActive v k x).1 := by
  unfold reconcileActive
  split
  · exact ((dryRun_frame v k x).trans (writeShortfall_frame k _ _)).trans (writeAdvice_frame k _ _ _)
  · exact ((ordinaryDecisions_frame v k x).trans (writeShortfall_frame k _ _)).trans (writeAdvice_frame k _ _ _)

theorem reconcileLoop_frame (v : View) (k : Fin 8) (n : Nat) (x : Plant) :
    OnlyReconciled k x (reconcileLoop v k n x) := by
  induction n generalizing x with
  | zero => exact .refl k x
  | succ n ih => exact .ite ((reconcileActive_frame v k x).trans (ih _)) (reconcileActive_frame v k x)

theorem reconcileAdvisory_frame (v : View) (k : Fin 8) (x : Plant) : OnlyReconciled k x (reconcileAdvisory v k x) :=
  (writeShortfall_frame k _ x).trans (writeAdvice_frame k _ _ _)

/-- A reconciliation in any mode. -/
theorem reconcile_frame (v : View) (k : Fin 8) (x : Plant) : OnlyReconciled k x (reconcile v k x) := by
  unfold reconcile
  refine .ite ?_ (.refl k x)
  split
  · exact reconcileLoop_frame v k 5 x
  · exact reconcileAdvisory_frame v k x
  · exact .refl k x
  · exact .refl k x

/-! ### An evaluation (R34, R36, R48, R49) -/

theorem evaluate_disabled {v : View} {k : Fin 8} (h : v.tab.t2[k].enabled = false) (c : Cause) (x : Plant) :
    evaluate v c x k = x := if_neg (Bool.not_eq_true _ ▸ h)

/-- The plant after an evaluation of a stage has written its record and raised its events, before anything is handed
on. -/
def recordEvaluation (v : View) (c : Cause) (k : Fin 8) (x : Plant) : Plant :=
  raiseOverride (x.stage k).override (evaluated v k (x.stage k)).override
    (x.setStage k { evaluated v k (x.stage k) with cause := c })

theorem evaluate_enabled {v : View} {k : Fin 8} (h : v.tab.t2[k].enabled = true) (c : Cause) (x : Plant) :
    evaluate v c x k =
      if (evaluated v k (x.stage k)).w = (x.stage k).w ∧ (evaluated v k (x.stage k)).override = (x.stage k).override ∧
          c ≠ .modeEntry then recordEvaluation v c k x
      else reconcile v k (recordEvaluation v c k x) := by
  unfold evaluate
  rw [if_pos h]
  by_cases keep : (evaluated v k (x.stage k)).w = (x.stage k).w ∧
      (evaluated v k (x.stage k)).override = (x.stage k).override ∧ c ≠ .modeEntry
  · obtain ⟨hw, ho, hc⟩ := keep
    exact (if_neg (not_or.2 ⟨not_not.2 hw, not_or.2 ⟨not_not.2 ho, hc⟩⟩)).trans (if_pos ⟨hw, ho, hc⟩).symm
  · exact (if_pos (by tauto)).trans (if_neg keep).symm

theorem raiseOverride_stage (old new : Override) (x : Plant) (k : Fin 8) :
    (raiseOverride old new x).stage k = x.stage k := by
  unfold raiseOverride; split_ifs <;> rfl

theorem raiseOverride_pump (old new : Override) (x : Plant) (p : Fin 32) :
    (raiseOverride old new x).pump p = x.pump p := by
  unfold raiseOverride; split_ifs <;> rfl

theorem recordEvaluation_stage (v : View) (c : Cause) (k : Fin 8) (x : Plant) :
    (recordEvaluation v c k x).stage k = { evaluated v k (x.stage k) with cause := c } := by
  rw [recordEvaluation, raiseOverride_stage, Plant.stage_setStage_same]

theorem recordEvaluation_onlyStage (v : View) (c : Cause) (k : Fin 8) (x : Plant) :
    OnlyStage k x (recordEvaluation v c k x) := by
  refine (OnlyStage.setStage k { evaluated v k (x.stage k) with cause := c } x).trans fun k' _ => ⟨?_, fun p _ => ?_⟩
  · exact raiseOverride_stage ..
  · exact raiseOverride_pump ..

/-- Whether or not it hands the stage on, an evaluation goes no further than a reconciliation from its record. -/
theorem evaluate_onlyReconciled {v : View} {k : Fin 8} (h : v.tab.t2[k].enabled = true) (c : Cause) (x : Plant) :
    OnlyReconciled k (recordEvaluation v c k x) (evaluate v c x k) := by
  rw [evaluate_enabled h]
  exact .ite (.refl k _) (reconcile_frame v k _)

/-- An evaluation changes its stage and the stage's pumps only. -/
theorem evaluate_onlyStage (v : View) (c : Cause) (x : Plant) (k : Fin 8) : OnlyStage k x (evaluate v c x k) := by
  cases h : v.tab.t2[k].enabled with
  | false => rw [evaluate_disabled h]; exact .refl k x
  | true => exact (recordEvaluation_onlyStage v c k x).trans (evaluate_onlyReconciled h c x).1

/-- The record of an evaluated stage. -/
theorem evaluate_stage {v : View} {k : Fin 8} (h : v.tab.t2[k].enabled = true) (c : Cause) (x : Plant) :
    ∃ (a : Advice) (n : Nat) (b : Bool) (u : Timer), (evaluate v c x k).stage k = { evaluated v k (x.stage k) with
      cause := c, advice := a, adviceSlot := n, shortfall := b, spacingT := u } := by
  obtain ⟨-, a, n, b, u, hstage⟩ := evaluate_onlyReconciled h c x
  exact ⟨a, n, b, u, by rw [hstage, recordEvaluation_stage]⟩

end Sys2Proof.Machine
end

section
/-!
PROOFS. The evaluations of one event: each stage once, in order, so that each finds its record as it was and no later
one touches it.
-/

namespace Sys2Proof.Machine

/-! ### One operation a stage over a list of stages -/

section Fold

variable {f : Plant → Fin 8 → Plant}

/-- A stage that the list does not name is kept. -/
theorem foldl_sameStage (hf : ∀ y j, OnlyStage j y (f y j)) {k : Fin 8} {ks : List (Fin 8)} (hk : k ∉ ks)
    (x : Plant) : SameStage k x (ks.foldl f x) :=
  List.foldlRecOn (motive := SameStage k x) _ _ (.refl k x) fun y hy j hj =>
    hy.trans (hf y j k (ne_of_mem_of_not_mem hj hk).symm)

/-- A stage that the list names once finds its records as they were, and they stay as its own turn leaves them. -/
theorem foldl_turn (hf : ∀ y j, OnlyStage j y (f y j)) {k : Fin 8} {ks : List (Fin 8)} (hn : ks.Nodup) (hk : k ∈ ks)
    (x : Plant) : ∃ y : Plant, SameStage k x y ∧ SameStage k (f y k) (ks.foldl f x) := by
  obtain ⟨before, after, rfl⟩ := List.append_of_mem hk
  rw [List.nodup_middle, List.nodup_cons, List.mem_append, not_or] at hn
  obtain ⟨⟨hbefore, hafter⟩, -⟩ := hn
  rw [List.foldl_append, List.foldl_cons]
  exact ⟨before.foldl f x, foldl_sameStage hf hbefore x, foldl_sameStage hf hafter _⟩

end Fold

theorem stageList_nodup : stageList.Nodup := List.nodup_finRange 8

theorem mem_stageList (k : Fin 8) : k ∈ stageList := List.mem_finRange k

/-! ### The evaluations of an event (R15, R35) -/

/-- The evaluation of a stage with the cause that an event has for it, if it has one. -/
def evaluateWith (v : View) (cause : Fin 8 → Option Cause) (x : Plant) (k : Fin 8) : Plant :=
  match cause k with
  | none => x
  | some c => evaluate v c x k

theorem evaluateWith_none (v : View) {cause : Fin 8 → Option Cause} {k : Fin 8} (h : cause k = none) (x : Plant) :
    evaluateWith v cause x k = x := by
  simp only [evaluateWith, h]

theorem evaluateWith_some (v : View) {cause : Fin 8 → Option Cause} {k : Fin 8} {c : Cause} (h : cause k = some c)
    (x : Plant) : evaluateWith v cause x k = evaluate v c x k := by
  simp only [evaluateWith, h]

theorem evaluateWith_onlyStage (v : View) (cause : Fin 8 → Option Cause) (x : Plant) (k : Fin 8) :
    OnlyStage k x (evaluateWith v cause x k) := by
  cases h : cause k with
  | none => rw [evaluateWith_none v h]; exact .refl k x
  | some c => rw [evaluateWith_some v h]; exact evaluate_onlyStage v c x k

/-- A stage that is not enabled, or for which the event has no cause, is not evaluated. -/
theorem evaluateWith_idle {v : View} {cause : Fin 8 → Option Cause} {k : Fin 8}
    (h : v.tab.t2[k].enabled = false ∨ cause k = none) (x : Plant) : evaluateWith v cause x k = x := by
  cases hc : cause k with
  | none => exact evaluateWith_none v hc x
  | some c =>
    have hoff : v.tab.t2[k].enabled = false := h.resolve_right (by simp [hc])
    rw [evaluateWith_some v hc, evaluate_disabled hoff]

theorem evaluateAll_eq {v : View} {c : Cause} {cause : Fin 8 → Option Cause} (h : ∀ k, cause k = some c) (x : Plant) :
    evaluateAll v c x = stageList.foldl (evaluateWith v cause) x :=
  List.foldl_ext _ _ x fun y k _ => (evaluateWith_some v (h k) y).symm

theorem notify_eq {v : View} {r : Fin 10} {changed : Bool} {cause : Fin 8 → Option Cause}
    (h : ∀ k : Fin 8, cause k =
      if v.tab.t2[k].delivery = r then some (if changed = true then .deliveryState else .deliveryLevel)
      else if v.tab.t2[k].suction = r then some (if changed = true then .suctionState else .suctionLevel)
      else none) (x : Plant) : notify v r changed x = stageList.foldl (evaluateWith v cause) x := by
  refine List.foldl_ext _ _ x fun y k _ => ?_
  have hk := h k
  unfold notifyStage
  by_cases hd : v.tab.t2[k].delivery = r
  · rw [if_pos hd] at hk ⊢
    exact (evaluateWith_some v hk y).symm
  · rw [if_neg hd] at hk ⊢
    by_cases hs : v.tab.t2[k].suction = r
    · rw [if_pos hs] at hk ⊢
      exact (evaluateWith_some v hk y).symm
    · rw [if_neg hs] at hk ⊢
      exact (evaluateWith_none v hk y).symm

/-- Settles O26: the evaluation by its cases; and over the stages of an event, each with its own turn. -/
theorem evaluationTaken : Obligations.EvaluationTaken := by
  unfold Obligations.EvaluationTaken
  refine ⟨fun v c k x => ⟨fun hoff => evaluate_disabled hoff c x, ?_⟩, ?_⟩
  · rintro hon _ _ _ rfl rfl rfl
    exact evaluate_enabled hon c x
  · intro v x y cause hy k
    have hfold : y = stageList.foldl (evaluateWith v cause) x := by
      rcases hy with ⟨r, changed, rfl, hcause⟩ | ⟨c, rfl, hcause⟩
      · exact notify_eq hcause x
      · exact evaluateAll_eq hcause x
    obtain ⟨z, hxz, hzy⟩ := foldl_turn (evaluateWith_onlyStage v cause) stageList_nodup (mem_stageList k) x
    rw [← hfold] at hzy
    refine ⟨fun hidle => ?_, fun c hon hc => ?_⟩
    · rw [evaluateWith_idle hidle] at hzy
      exact hxz.trans hzy
    · rw [evaluateWith_some v hc] at hzy
      obtain ⟨a, n, b, u, hstage⟩ := evaluate_stage hon c z
      exact ⟨a, n, b, u, by rw [hzy.1, hstage, hxz.1]⟩

end Sys2Proof.Machine
end

section
/-!
PROOFS. What an operation of the scheduling blocks must keep, said once: a property of the scheduling records that the
elementary changes keep (`KeptByReconcile`) is kept by the shared pump events and by every reconciliation.
-/

namespace Sys2Proof.Machine

/-! ### The elementary changes -/

/-- A change of a pump record that leaves its state and its last run feedback, and so the queue and the committed
power, as they are. -/
structure QuietChange (e : PumpEntry) (q q' : Pump) : Prop where
  state : q'.state = q.state
  feedback : q'.feedback = q.feedback
  fits : e.tripConfirm ≤ 4 → q.ok e → q'.ok e

/-- The queue without the request of a pump that is QUEUED. -/
def Plant.leaveQueue (x : Plant) (p : Fin 32) : Plant := if (x.pump p).state = .queued then dequeue p x else x

theorem Plant.leaveQueue_of_ne {x : Plant} {p : Fin 32} (h : (x.pump p).state ≠ .queued) : x.leaveQueue p = x :=
  if_neg h

@[simp] theorem Plant.leaveQueue_pump (x : Plant) (p p' : Fin 32) : (x.leaveQueue p).pump p' = x.pump p' := by
  unfold Plant.leaveQueue; split <;> simp

/-- The elementary changes of the scheduling records that a reconciliation is made of, each keeping the property `I`.
The tables `tab` are those of the part; what a change needs of the record that it meets stands as its premise. -/
structure KeptByReconcile (tab : Settings) (I : Plant → Prop) : Prop where
  events : ∀ {x : Plant} {w : Events}, I x → (NoticeFits x.events → NoticeFits w) → I { x with events := w }
  nextId : ∀ {x : Plant} (n : Nat), I x → I { x with nextId := n }
  shortfall : ∀ {x : Plant} {k : Fin 8} (b : Bool), I x → tab.t2[k].enabled = true →
    I (x.setStage k { x.stage k with shortfall := b })
  advice : ∀ {x : Plant} {k : Fin 8} {a : Advice} {n : Nat}, I x → tab.t2[k].enabled = true → (a = .none → n = 0) →
    n ≤ 31 → I (x.setStage k { x.stage k with advice := a, adviceSlot := n })
  spacing : ∀ {x : Plant} {k : Fin 8} {t : Timer}, I x → tab.t2[k].enabled = true ∨ t = none →
    I (x.setStage k { x.stage k with spacingT := t })
  quiet : ∀ {x : Plant} {p : Fin 32} {q' : Pump}, I x → QuietChange tab.t3[p] (x.pump p) q' → I (x.setPump p q')
  report : ∀ {x : Plant} {p : Fin 32} {q' : Pump}, I x → q'.state = (x.pump p).state →
    ((x.pump p).ok tab.t3[p] → q'.ok tab.t3[p]) → I (handCommitted tab p (x.setPump p q'))
  move : ∀ {x : Plant} {p : Fin 32} {q' : Pump}, I x → q'.state ≠ .queued → q'.state ≠ .starting →
    ((x.pump p).ok tab.t3[p] → q'.ok tab.t3[p]) → I (handCommitted tab p ((x.leaveQueue p).setPump p q'))
  leave : ∀ {x : Plant} {p : Fin 32} {q' : Pump}, I x → q'.state ≠ .queued → q'.state ≠ .starting →
    ((x.pump p).ok tab.t3[p] → q'.ok tab.t3[p]) →
    I (handCommitted tab p (leaveStarting p ((x.leaveQueue p).setPump p q')))
  enqueue : ∀ {x : Plant} {p : Fin 32} (v : View), v.tab = tab → I x → (x.pump p).state = .off →
    I (enqueue v p x)

/-! ### Small facts about the changes -/

@[simp] theorem Plant.setPump_setPump (x : Plant) (p : Fin 32) (q q' : Pump) :
    (x.setPump p q).setPump p q' = x.setPump p q' := by
  simp [Plant.setPump]

/-- The count of commands plays no part in the committed power. -/
theorem handCommitted_nextId_comm (tab : Settings) (p : Fin 32) (x : Plant) (n : Nat) :
    handCommitted tab p { x with nextId := n } = { handCommitted tab p x with nextId := n } := by
  unfold handCommitted recommit
  cases tab.t3[p].feeder <;> rfl

theorem leaveStarting_nextId_comm (p : Fin 32) (x : Plant) (n : Nat) :
    leaveStarting p { x with nextId := n } = { leaveStarting p x with nextId := n } := rfl

/-- A command made pending after a change of its pump's record, as one write of the record. -/
theorem Plant.setPump_makePending (x : Plant) (p : Fin 32) (q : Pump) (a : Action) (g : Progress) :
    (x.setPump p q).makePending p a g =
      { x.setPump p { q.dropCmd with cmd := some ⟨a, g, x.nextId⟩ } with nextId := x.nextId + 1 } := by
  simp [Plant.makePending]

/-- The raising of an event keeps the notice slot to its rule (R124). -/
theorem NoticeFits.raise {v : Events} (h : NoticeFits v) (e : Event) : NoticeFits (v.raise e) := by
  intro hw
  simp only [Events.raise, Bool.or_eq_true, Bool.and_eq_true] at hw
  rcases hw with hw | ⟨⟨hon, _⟩, _⟩
  · exact h hw
  · exact hon

/-- A start history keeps at most twelve entries (R73). -/
theorem recordStart_history_length (q : Pump) (now : Uptime) : (q.recordStart now).history.length ≤ 12 := by
  simp only [Pump.recordStart_history, List.length_append, List.length_drop, List.length_singleton]
  omega

theorem state_of_startChoice {v : View} {k : Fin 8} {x : Plant} {p : Fin 32} (h : startChoice v k x = some p) :
    (x.pump p).state = .off := by
  have he := List.of_mem_filter (mem_of_pickFirst h)
  simp only [eligible, Bool.and_eq_true, beq_iff_eq] at he
  exact he.1.2

theorem state_of_stopChoice {v : View} {k : Fin 8} {x : Plant} {p : Fin 32} (h : stopChoice v k x = some p) :
    (x.pump p).state = .running := by
  unfold stopChoice at h
  split at h
  · have he := List.of_mem_filter (mem_of_pickFirst h)
    simp only [stopCandidate, Bool.and_eq_true, beq_iff_eq] at he
    exact he.1.2
  · cases h

theorem state_of_dryRunStops {q : Pump} (h : dryRunStops q = true) : q.state = .running ∨ q.state = .starting := by
  simp only [dryRunStops, Bool.and_eq_true, Bool.or_eq_true, beq_iff_eq] at h
  exact h.2.imp id fun h => h.1

/-- Advice names a slot, and slot 0 where it advises nothing (R50, R90). -/
theorem advise_fits (v : View) (k : Fin 8) (x : Plant) :
    ((advise v k x).1 = .none → (advise v k x).2 = 0) ∧ (advise v k x).2 ≤ 31 := by
  have slot : ∀ (a : Advice) (p : Fin 32), a ≠ .none → (a = .none → p.val = 0) ∧ p.val ≤ 31 :=
    fun a p ha => ⟨fun e => absurd e ha, by omega⟩
  unfold advise
  split
  · split
    · exact slot .stop _ (by simp)
    · simp
  · split
    · split
      · exact slot .start _ (by simp)
      · simp
    · split
      · split
        · exact slot .stop _ (by simp)
        · simp
      · simp

/-! ### The shared pump events -/

namespace KeptByReconcile

variable {v : View} {I : Plant → Prop} {x : Plant} {p : Fin 32} {k : Fin 8}

theorem raise (h : KeptByReconcile v.tab I) (hx : I x) (e : Event) : I (x.raise e) :=
  h.events hx fun hn => hn.raise e

/-- A move of a pump that is not QUEUED. -/
theorem move_of_ne {q' : Pump} (h : KeptByReconcile v.tab I) (hx : I x) (hq : (x.pump p).state ≠ .queued)
    (h1 : q'.state ≠ .queued) (h2 : q'.state ≠ .starting) (ok : (x.pump p).ok v.tab.t3[p] → q'.ok v.tab.t3[p]) :
    I (handCommitted v.tab p (x.setPump p q')) := by
  have hm := h.move hx h1 h2 ok
  rwa [Plant.leaveQueue_of_ne hq] at hm

theorem leave_of_ne {q' : Pump} (h : KeptByReconcile v.tab I) (hx : I x) (hq : (x.pump p).state ≠ .queued)
    (h1 : q'.state ≠ .queued) (h2 : q'.state ≠ .starting) (ok : (x.pump p).ok v.tab.t3[p] → q'.ok v.tab.t3[p]) :
    I (handCommitted v.tab p (leaveStarting p (x.setPump p q'))) := by
  have hm := h.leave hx h1 h2 ok
  rwa [Plant.leaveQueue_of_ne hq] at hm

theorem uncommandedRun (h : KeptByReconcile v.tab I) (hx : I x) : I (uncommandedRun v p x) := by
  refine h.raise (h.move hx (by simp) (by simp) fun ok => ?_) _
  exact ⟨recordStart_history_length _ _, ok.2⟩

/-- The rest test of a pump that was not QUEUED, after a change of its record (R65). -/
theorem restTest_setPump {q : Pump} (h : KeptByReconcile v.tab I) (hx : I x) (hq : (x.pump p).state ≠ .queued)
    (hq' : q.state ≠ .queued) (ok : (x.pump p).ok v.tab.t3[p] → q.ok v.tab.t3[p]) :
    I (restTest v p (x.setPump p q)) := by
  unfold restTest
  simp only [Plant.pump_setPump_same, Plant.setPump_setPump]
  split
  · exact h.move_of_ne hx hq (by simp) (by simp) ok
  · split
    · unfold Machine.uncommandedRun
      simp only [Plant.pump_setPump_same, hq', if_false, Plant.setPump_setPump]
      refine h.raise (h.move_of_ne hx hq (by simp) (by simp) fun o => ?_) _
      exact ⟨recordStart_history_length _ _, (ok o).2⟩
    · split
      · exact h.move_of_ne hx hq (by simp) (by simp) ok
      · exact h.move_of_ne hx hq (by simp) (by simp) ok

theorem restTest (h : KeptByReconcile v.tab I) (hx : I x) (hq : (x.pump p).state ≠ .queued) :
    I (restTest v p x) := by
  have hr := h.restTest_setPump (q := x.pump p) hx hq hq id
  have e : x.setPump p (x.pump p) = x := by simp [Plant.setPump, Plant.pump]
  rwa [e] at hr

theorem stopDecision (h : KeptByReconcile v.tab I) (hx : I x) (hq : (x.pump p).state ≠ .queued) :
    I (stopDecision v p x) := by
  unfold Machine.stopDecision
  dsimp only
  rw [Plant.setPump_makePending, leaveStarting_nextId_comm, handCommitted_nextId_comm]
  exact h.nextId _ (h.leave_of_ne hx hq (by simp) (by simp) id)

theorem withdraw (h : KeptByReconcile v.tab I) (hx : I x) : I (withdraw v p x) := by
  unfold Machine.withdraw
  split
  · next hq =>
    have hm := h.move (p := p) (q' := (x.pump p).goto .off) hx (by simp) (by simp) id
    rwa [Plant.leaveQueue, if_pos hq] at hm
  · exact hx

theorem clearAwaitingRun (h : KeptByReconcile v.tab I) (hx : I x) : I (clearAwaitingRun v p x) := by
  unfold Machine.clearAwaitingRun
  split
  · next hq => exact h.leave_of_ne hx (by simp [hq.2]) (by simp) (by simp) id
  · exact hx

theorem clearAwaitingStop (h : KeptByReconcile v.tab I) (hx : I x) : I (clearAwaitingStop v p x) := by
  unfold Machine.clearAwaitingStop
  dsimp only
  split
  · split
    · next hq =>
      split
      · exact h.move_of_ne hx (by simp [hq]) (by simp) (by simp) id
      · exact h.restTest_setPump hx (by simp [hq]) (by simp [hq]) id
    · exact h.quiet hx ⟨rfl, rfl, fun _ => id⟩
  · exact hx

theorem clearAwaiting (h : KeptByReconcile v.tab I) (hx : I x) : I (clearAwaiting v p x) :=
  h.clearAwaitingStop (h.clearAwaitingRun hx)

theorem takeTrip (h : KeptByReconcile v.tab I) (c : TripCause) (hx : I x) : I (takeTrip v p c x) := by
  unfold Machine.takeTrip
  dsimp only
  split
  · exact h.quiet hx ⟨rfl, rfl, fun _ => id⟩
  · split
    · refine h.raise (h.leave hx (by simp) (by simp) fun ok => ?_) _
      split <;> exact ok
    · next hlt =>
      refine h.raise (h.leave hx (by simp) (by simp) fun ok => ?_) _
      refine ⟨?_, Nat.lt_of_not_le hlt, ?_⟩ <;> split
      exacts [ok.1, ok.1, ok.2.2, ok.2.2]

/-- A command made pending without a change of state. -/
theorem makePending (h : KeptByReconcile v.tab I) (hx : I x) (a : Action) (g : Progress) :
    I (x.makePending p a g) :=
  h.nextId _ (h.quiet hx ⟨rfl, rfl, fun _ => id⟩)

theorem noFeedbackTrip (h : KeptByReconcile v.tab I) (hx : I x) : I (noFeedbackTrip v p x) := by
  have hy : I (x.setPump p (x.pump p).dropCmd) := h.quiet hx ⟨rfl, rfl, fun _ => id⟩
  unfold Machine.noFeedbackTrip
  dsimp only
  split
  · exact h.takeTrip _ (h.makePending hy _ _)
  · exact h.takeTrip _ hy

theorem tripIfIndicated (h : KeptByReconcile v.tab I) (hx : I x) : I (tripIfIndicated v p x) := by
  unfold Machine.tripIfIndicated
  split
  · exact h.takeTrip _ hx
  · exact hx

theorem setLocalSelect (h : KeptByReconcile v.tab I) (hx : I x) : I (setLocalSelect v p x) :=
  h.clearAwaiting (h.withdraw (h.quiet hx ⟨rfl, rfl, fun _ => id⟩))

theorem changeOwner (h : KeptByReconcile v.tab I) (o : Ownership) (hx : I x) : I (changeOwner v p o x) := by
  have hy : I (x.setPump p { x.pump p with owner := o }) := h.quiet hx ⟨rfl, rfl, fun _ => id⟩
  unfold Machine.changeOwner
  dsimp only
  split
  · exact h.clearAwaiting (h.withdraw hy)
  · split
    · exact h.clearAwaiting hy
    · exact hy

/-! ### Reconciliation -/

theorem enqueueUpTo (h : KeptByReconcile v.tab I) (n : Nat) (hx : I x) : I (enqueueUpTo v k n x) := by
  induction n generalizing x with
  | zero => exact hx
  | succ n ih =>
    unfold Machine.enqueueUpTo
    split
    · exact hx
    · next p hp => exact ih (h.enqueue v rfl hx (state_of_startChoice hp))

theorem withdrawUpTo (h : KeptByReconcile v.tab I) (n : Nat) (hx : I x) : I (withdrawUpTo v k n x) := by
  induction n generalizing x with
  | zero => exact hx
  | succ n ih =>
    unfold Machine.withdrawUpTo
    split
    · exact hx
    · exact ih (h.withdraw hx)

theorem spacedStop (h : KeptByReconcile v.tab I) (on : v.tab.t2[k].enabled = true) (hx : I x)
    (hq : (x.pump p).state ≠ .queued) : I (spacedStop v k p x) := by
  unfold Machine.spacedStop
  dsimp only
  split
  · exact h.stopDecision hx hq
  · exact h.spacing (h.stopDecision hx hq) (.inl on)

theorem dryRunPump (h : KeptByReconcile v.tab I) (hx : I x) : I (dryRunPump v x p) := by
  unfold Machine.dryRunPump
  dsimp only
  split
  · exact h.withdraw hx
  · next hq =>
    split
    · exact h.clearAwaitingRun hx
    · split
      · exact h.stopDecision hx hq
      · exact hx

theorem dryRun (h : KeptByReconcile v.tab I) (hx : I x) : I (dryRun v k x) :=
  List.foldlRecOn (motive := I) _ _ hx fun _ hy _ _ => h.dryRunPump hy

theorem writeShortfall (h : KeptByReconcile v.tab I) (on : v.tab.t2[k].enabled = true) (b : Bool) (hx : I x) :
    I (writeShortfall k b x) := by
  unfold Machine.writeShortfall
  dsimp only
  split
  · exact h.raise (h.shortfall b hx on) _
  · exact h.shortfall b hx on

theorem writeAdvice_none (h : KeptByReconcile v.tab I) (on : v.tab.t2[k].enabled = true) (hx : I x) :
    I (writeAdvice k .none 0 x) := h.advice hx on (fun _ => rfl) (by omega)

theorem ordinaryDecisions (h : KeptByReconcile v.tab I) (on : v.tab.t2[k].enabled = true) (hx : I x) :
    I (ordinaryDecisions v k x).1 := by
  have hw : I (Machine.withdrawUpTo v k (cCount v k x - aCount v k x) x) := h.withdrawUpTo _ hx
  unfold Machine.ordinaryDecisions
  dsimp only
  split
  · exact h.enqueueUpTo _ hx
  · split
    · split
      · exact hw
      · next hs => exact h.spacedStop on hw (by simp [state_of_stopChoice hs])
    · exact hw

theorem reconcileActive (h : KeptByReconcile v.tab I) (on : v.tab.t2[k].enabled = true) (hx : I x) :
    I (reconcileActive v k x).1 := by
  unfold Machine.reconcileActive
  split
  · exact h.writeAdvice_none on (h.writeShortfall on _ (h.dryRun hx))
  · exact h.writeAdvice_none on (h.writeShortfall on _ (h.ordinaryDecisions on hx))

theorem reconcileLoop (h : KeptByReconcile v.tab I) (on : v.tab.t2[k].enabled = true) (n : Nat) (hx : I x) :
    I (reconcileLoop v k n x) := by
  induction n generalizing x with
  | zero => exact hx
  | succ n ih =>
    unfold Machine.reconcileLoop
    dsimp only
    split
    · exact ih (h.reconcileActive on hx)
    · exact h.reconcileActive on hx

theorem reconcileAdvisory (h : KeptByReconcile v.tab I) (on : v.tab.t2[k].enabled = true) (hx : I x) :
    I (reconcileAdvisory v k x) :=
  h.advice (h.writeShortfall on _ hx) on (advise_fits v k x).1 (advise_fits v k x).2

theorem reconcile (h : KeptByReconcile v.tab I) (hx : I x) : I (reconcile v k x) := by
  unfold Machine.reconcile
  split
  · next on =>
    split
    · exact h.reconcileLoop on 5 hx
    · exact h.reconcileAdvisory on hx
    · exact hx
    · exact hx
  · exact hx

theorem reconcileAll (h : KeptByReconcile v.tab I) (ks : List (Fin 8)) (hx : I x) : I (reconcileAll v ks x) :=
  List.foldlRecOn (motive := I) _ _ hx fun _ hy _ _ => h.reconcile hy

theorem minRunExpires (h : KeptByReconcile v.tab I) (hx : I x) : I (minRunExpires v p x) := by
  have hy : I (x.setPump p { x.pump p with minRunT := none, minRunMet := true }) := h.quiet hx ⟨rfl, rfl, fun _ => id⟩
  unfold Machine.minRunExpires
  dsimp only
  split
  · exact h.reconcile hy
  · exact hy

theorem finishPump (h : KeptByReconcile v.tab I) (hx : I x) : I (finishPump v p x) := by
  unfold Machine.finishPump
  dsimp only
  split
  · exact h.minRunExpires (h.reconcile hx)
  · exact h.reconcile hx

end KeptByReconcile

end Sys2Proof.Machine
end

section
/-!
PROOFS. The property that the elementary changes keep (`Kept`) is kept by every event of the scheduling blocks: pump
events, evaluations, grant scans, the judgement of a COMMAND frame and the changes of mode.
-/

namespace Sys2Proof.Machine

/-! ### The elementary changes outside a reconciliation -/

/-- The elementary changes of the scheduling records, each keeping the property `I`: those of a reconciliation, and
those of evaluations, grants, manual commands and the start queue. -/
structure Kept (tab : Settings) (I : Plant → Prop) : Prop extends KeptByReconcile tab I where
  record : ∀ {x : Plant} {k : Fin 8} (v : View) (c : Cause), v.tab = tab → I x → tab.t2[k].enabled = true →
    I (x.setStage k { evaluated v k (x.stage k) with cause := c })
  updateStages : ∀ {x : Plant} (m : Mode), I x → I (updateStages m x)
  manualRun : ∀ {x : Plant} {p : Fin 32} (v : View), v.tab = tab → I x → (x.pump p).state = .off →
    (x.feeder tab.t3[p].feeder).busy = false → I (manualRun v p x)
  grant : ∀ {x : Plant} {f : Feeder} {e : Request} (v : View), v.tab = tab → I x → (x.feeder f).busy = false →
    e ∈ x.queue → I (grant v f e.pump x)
  mapQueue : ∀ {x : Plant} {g : Request → Request}, I x →
    (∀ e, (g e).pump = e.pump ∧ (g e).cls = e.cls ∧ (g e).rank = e.rank) → I { x with queue := x.queue.map g }
  scanDue : ∀ {x : Plant} {f : Feeder} (b : Bool), I x → I (x.setFeeder f { x.feeder f with scanDue := b })
  spacingExpires : ∀ {x : Plant} {f : Feeder}, I x → I (x.setFeeder f (x.feeder f).spacingExpires)
  escalate : ∀ {x : Plant} (v : View) (r : Fin 10), v.tab = tab → I x → I (escalate v r x)

/-! ### Small facts -/

/-- The request that a walk grants stands in the queue it walks. -/
theorem walk_mem {v : View} {f : Feeder} {x : Plant} {q : List Request} {e : Request}
    (h : (walk v f x q).2 = some e) : e ∈ q := by
  induction q with
  | nil => simp [walk] at h
  | cons a q ih =>
    unfold walk at h
    split at h
    · exact List.mem_cons_of_mem a (ih h)
    · split at h
      · exact Option.some.inj h ▸ List.mem_cons_self
      · split at h
        · cases h
        · exact List.mem_cons_of_mem a (ih h)

theorem passOver_same (limit : Nat) (ps : List (Fin 32)) (e : Request) :
    (passOver limit ps e).pump = e.pump ∧ (passOver limit ps e).cls = e.cls ∧ (passOver limit ps e).rank = e.rank := by
  unfold passOver; split <;> exact ⟨rfl, rfl, rfl⟩

/-- A RUN item that no test refuses finds its pump OFF and the slot of its feeder FREE (R155). -/
theorem itemRefusal_run {v : View} {source : Byte} {x : Plant} {p : Fin 32} {action : Byte}
    (h : itemRefusal v source x p action = none) (hr : actionOf? action = some .run) :
    (x.pump p).state = .off ∧ (x.feeder v.tab.t3[p].feeder).busy = false := by
  simp only [itemRefusal, hr, runRefusal] at h
  split_ifs at h with _ _ _ _ _ hoff _ _ hbusy
  exact ⟨not_not.1 hoff, Bool.not_eq_true _ ▸ hbusy⟩

/-- The queue is no part of a feeder record. -/
theorem Plant.feeder_setQueue (x : Plant) (q : List Request) (f : Feeder) :
    ({ x with queue := q } : Plant).feeder f = x.feeder f := by
  cases f <;> rfl

/-- Of the twelve starts kept some may leave (R73). -/
theorem youngStarts_length_le (now : Uptime) (h : List Uptime) : (youngStarts now h).length ≤ h.length :=
  List.length_filter_le ..

namespace Kept

variable {v : View} {I : Plant → Prop} {x : Plant} {p : Fin 32} {k : Fin 8}

theorem markScan (h : Kept v.tab I) (f : Feeder) (hx : I x) : I (x.markScan f) := h.scanDue true hx

/-! ### Run feedback and status reports -/

theorem feedbackRunning (h : Kept v.tab I) (hx : I x) : I (feedbackRunning v p x) := by
  unfold Machine.feedbackRunning
  dsimp only
  split <;> rename_i hs
  · exact h.tripIfIndicated (h.move_of_ne hx (by simp [hs]) (by simp) (by simp) id)
  · exact h.uncommandedRun hx
  · exact h.uncommandedRun hx
  · exact h.uncommandedRun hx
  · refine h.leave_of_ne hx (by simp [hs]) (by simp) (by simp) fun ok => ?_
    exact ⟨recordStart_history_length _ _, ok.2⟩
  · exact h.report hx rfl id
  · exact h.report hx rfl id
  · exact h.report hx rfl id
  · split
    · exact h.report hx rfl id
    · refine h.raise (h.report hx ?_ ?_) _
      exacts [rfl, id]
  · split
    · exact h.report hx rfl id
    · refine h.raise (h.report hx ?_ ?_) _
      exacts [rfl, id]

theorem feedbackStopped (h : Kept v.tab I) (hx : I x) : I (feedbackStopped v p x) := by
  unfold Machine.feedbackStopped
  dsimp only
  split <;> rename_i hs
  · exact h.tripIfIndicated (h.move_of_ne hx (by simp [hs]) (by simp) (by simp) id)
  · exact h.report hx rfl id
  · exact h.report hx rfl id
  · exact h.report hx rfl id
  · exact h.report hx rfl id
  · have hy : I (handCommitted v.tab p (x.setPump p
        ({ x.pump p with feedback := .stopped, uncommanded := false }.recordStop v.now))) := h.report hx rfl id
    split
    · exact h.takeTrip _ hy
    · exact h.restTest hy (by simp; simp [hs])
  · exact h.restTest_setPump hx (by simp [hs]) (by simp; simp [hs]) id
  · exact h.restTest_setPump hx (by simp [hs]) (by simp; simp [hs]) id
  all_goals
    refine h.report hx ?_ fun ok => ?_
    · split <;> split <;> rfl
    · split <;> split <;> exact ok

theorem runFeedback (h : Kept v.tab I) (b : Bool) (hx : I x) : I (runFeedback v p b x) := by
  unfold Machine.runFeedback
  have hy : I (if b then Machine.feedbackRunning v p x else Machine.feedbackStopped v p x) := by
    split
    · exact h.feedbackRunning hx
    · exact h.feedbackStopped hx
  generalize (if b then Machine.feedbackRunning v p x else Machine.feedbackStopped v p x) = y at hy
  dsimp only
  split
  · split
    · exact hy
    · exact h.finishPump hy
  · exact hx

theorem leaveTripped (h : Kept v.tab I) (hx : I x) (hq : (x.pump p).state ≠ .queued) : I (leaveTripped v p x) :=
  h.finishPump (h.restTest hx hq)

theorem tripZero (h : Kept v.tab I) (hx : I x) : I (tripZero v p x) := by
  have hy : I (x.setPump p { x.pump p with tripCount := 0, tripInd := false }) :=
    h.quiet hx ⟨rfl, rfl, fun _ ok => ⟨ok.1, ok.2.1, Nat.zero_le _⟩⟩
  unfold Machine.tripZero
  dsimp only
  split
  · next hs => exact h.leaveTripped hy (by simp [hs.1])
  · exact hy

theorem tripNonZero (h : Kept v.tab I) (hx : I x) : I (tripNonZero v p x) := by
  have hy : I (x.setPump p { x.pump p with tripCount := v.tab.t3[p].tripConfirm, tripInd := true }) :=
    h.quiet hx ⟨rfl, rfl, fun limit ok => ⟨ok.1, ok.2.1, limit⟩⟩
  unfold Machine.tripNonZero
  dsimp only
  split
  · exact hx
  · split
    · next hlt => exact h.quiet hx ⟨rfl, rfl, fun limit ok => ⟨ok.1, ok.2.1, by dsimp only; omega⟩⟩
    · split
      · exact hy
      · split
        · exact h.takeTrip _ hy
        · exact h.finishPump (h.takeTrip _ hy)

theorem tripReport (h : Kept v.tab I) (b : Bool) (hx : I x) : I (tripReport v p b x) := by
  unfold Machine.tripReport
  split
  · split
    · exact h.tripNonZero hx
    · exact h.tripZero hx
  · exact hx

theorem warnReport (h : Kept v.tab I) (b : Bool) (hx : I x) : I (warnReport v p b x) := by
  unfold Machine.warnReport
  split
  · exact h.quiet hx ⟨rfl, rfl, fun _ => id⟩
  · exact hx

theorem localReport (h : Kept v.tab I) (b : Bool) (hx : I x) : I (localReport v p b x) := by
  unfold Machine.localReport
  split
  · split
    · split
      · exact hx
      · exact h.finishPump (h.setLocalSelect hx)
    · unfold Machine.clearLocalSelect
      split
      · exact h.finishPump (h.quiet hx ⟨rfl, rfl, fun _ => id⟩)
      · exact hx
  · exact hx

theorem pumpReport (h : Kept v.tab I) (kind : Nat) (b : Bool) (hx : I x) : I (pumpReport kind p b v x) := by
  unfold Machine.pumpReport
  split
  · exact h.runFeedback b hx
  · exact h.tripReport b hx
  · exact h.warnReport b hx
  · exact h.localReport b hx
  · exact hx

theorem refusedReport (h : Kept v.tab I) (hx : I x) : I (refusedReport v p x) := by
  unfold Machine.refusedReport
  dsimp only
  split
  · exact h.finishPump (h.takeTrip _ (h.quiet hx ⟨rfl, rfl, fun _ => id⟩))
  · exact hx

/-! ### Timer expiries -/

theorem minRunEvent (h : Kept v.tab I) (hx : I x) : I (minRunEvent v p x) := by
  unfold Machine.minRunEvent
  split
  · exact h.minRunExpires hx
  · exact hx

theorem minRestEvent (h : Kept v.tab I) (hx : I x) : I (minRestEvent v p x) := by
  unfold Machine.minRestEvent
  dsimp only
  split
  · split
    · next hs => exact h.finishPump (h.move_of_ne hx (by simp [hs]) (by simp) (by simp) id)
    · exact h.quiet hx ⟨rfl, rfl, fun _ => id⟩
  · exact hx

theorem startConfirmEvent (h : Kept v.tab I) (hx : I x) : I (startConfirmEvent v p x) := by
  unfold Machine.startConfirmEvent
  split
  · exact h.finishPump (h.noFeedbackTrip hx)
  · exact hx

theorem stopConfirmEvent (h : Kept v.tab I) (hx : I x) : I (stopConfirmEvent v p x) := by
  have hy : I (x.setPump p (x.pump p).dropCmd) := h.quiet hx ⟨rfl, rfl, fun _ => id⟩
  unfold Machine.stopConfirmEvent
  dsimp only
  split
  · split
    · next hs =>
      split
      · refine h.finishPump (h.raise (h.move_of_ne hx (by simp [hs]) (by simp) (by simp) ?_) _)
        exact id
      · exact h.finishPump (h.restTest hy (by simp [hs]))
    · split
      · exact h.raise hy _
      · exact hy
  · exact hx

theorem retryEvent (h : Kept v.tab I) (hx : I x) : I (retryEvent v p x) := by
  have hy : I (x.setPump p { x.pump p with retryT := none }) := h.quiet hx ⟨rfl, rfl, fun _ => id⟩
  unfold Machine.retryEvent
  dsimp only
  split
  · split
    · next hs => exact h.leaveTripped hy (by simp [hs.1])
    · exact hy
  · exact hx

theorem provingEvent (h : Kept v.tab I) (hx : I x) : I (provingEvent v p x) := by
  unfold Machine.provingEvent
  dsimp only
  split
  · exact h.quiet hx ⟨rfl, rfl, fun _ ok => ⟨ok.1, Nat.zero_le _, ok.2.2⟩⟩
  · exact hx

theorem stopSpacingEvent (h : Kept v.tab I) (hx : I x) : I (stopSpacingEvent v k x) := by
  unfold Machine.stopSpacingEvent
  split
  · exact h.reconcile (h.spacing hx (.inr rfl))
  · exact hx

theorem feederSpacingEvent (h : Kept v.tab I) (f : Feeder) (hx : I x) : I (feederSpacingEvent v f x) := by
  unfold Machine.feederSpacingEvent
  split
  · exact h.spacingExpires hx
  · exact hx

theorem ageingEvent (h : Kept v.tab I) (hx : I x) : I (ageingEvent v k x) := by
  have hy : I ((stageSlots k).foldl
      (fun z p => z.setPump p { z.pump p with history := youngStarts v.now (z.pump p).history }) x) :=
    List.foldlRecOn (motive := I) _ _ hx fun y hy p _ => h.quiet hy
      ⟨rfl, rfl, fun _ ok => ⟨(youngStarts_length_le _ _).trans ok.1, ok.2⟩⟩
  unfold Machine.ageingEvent
  dsimp only
  split
  · exact h.reconcile hy
  · exact hy

theorem tripResetEvent (h : Kept v.tab I) (hx : I x) (hq : (x.pump p).state ≠ .queued) :
    I (tripResetEvent v p x) :=
  h.leaveTripped (h.quiet hx ⟨rfl, rfl, fun _ ok => ⟨ok.1, Nat.zero_le _, Nat.zero_le _⟩⟩) (by simpa using hq)

theorem ownerEvent (h : Kept v.tab I) (o : Ownership) (hx : I x) : I (ownerEvent v p o x) := by
  unfold Machine.ownerEvent
  split
  · exact hx
  · exact h.finishPump (h.changeOwner o hx)

theorem becomeAuto (h : Kept v.tab I) (ps : List (Fin 32)) (hx : I x) : I (becomeAuto ps v x) :=
  h.reconcileAll _ (List.foldlRecOn (motive := I) _ _ hx fun _ hy _ _ => h.changeOwner .auto hy)

theorem fallback (h : Kept v.tab I) (hx : I x) : I (fallback v x) := h.becomeAuto _ hx

/-! ### Evaluations -/

theorem raiseOverride (h : Kept v.tab I) (old new : Override) (hx : I x) : I (raiseOverride old new x) := by
  unfold Machine.raiseOverride
  split
  · exact h.raise hx _
  · split
    · exact h.raise hx _
    · exact hx

theorem evaluate (h : Kept v.tab I) (c : Cause) (hx : I x) : I (evaluate v c x k) := by
  unfold Machine.evaluate
  split
  · next on =>
    have hy := h.raiseOverride (x.stage k).override (evaluated v k (x.stage k)).override (h.record v c rfl hx on)
    dsimp only
    split
    · exact h.reconcile hy
    · exact hy
  · exact hx

theorem evaluateAll (h : Kept v.tab I) (c : Cause) (hx : I x) : I (evaluateAll v c x) :=
  List.foldlRecOn (motive := I) _ _ hx fun _ hy _ _ => h.evaluate c hy

theorem notify (h : Kept v.tab I) (r : Fin 10) (changed : Bool) (hx : I x) : I (notify v r changed x) := by
  refine List.foldlRecOn (motive := I) _ _ hx fun y hy k _ => ?_
  unfold notifyStage
  split
  · exact h.evaluate _ hy
  · split
    · exact h.evaluate _ hy
    · exact hy

/-! ### Grant scans -/

theorem scan (h : Kept v.tab I) (f : Feeder) (hx : I x) : I (scan v f x) := by
  have hy : I (x.setFeeder f { x.feeder f with scanDue := false }) := h.scanDue false hx
  unfold Machine.scan
  dsimp only
  split
  · exact hy
  · next free =>
    split
    · exact hy
    · next passed e hw =>
      have he : e ∈ (x.setFeeder f { x.feeder f with scanDue := false }).queue :=
        walk_mem (congrArg Prod.snd hw)
      have hp := (passOver_same v.tab.t9.bypassLimit passed e).1
      rw [← hp]
      exact h.finishPump (h.grant v rfl (h.mapQueue hy fun e => passOver_same _ _ e)
        (by rw [Plant.feeder_setQueue]; simpa using free) (List.mem_map_of_mem he))

theorem settleScans (h : Kept v.tab I) (n : Nat) (hx : I x) : I (settleScans v n x) := by
  induction n generalizing x with
  | zero => exact hx
  | succ n ih =>
    unfold Machine.settleScans
    split
    · exact ih (h.scan .a hx)
    · split
      · exact ih (h.scan .b hx)
      · exact hx

theorem settle (h : Kept v.tab I) (hx : I x) : I (settle v x) := h.settleScans 16 hx

/-! ### Upline commands -/

theorem manualStop (h : Kept v.tab I) (hx : I x) : I (manualStop v p x) := by
  unfold Machine.manualStop
  dsimp only
  split <;> rename_i hs
  case h_4 =>
    rw [Plant.setPump_makePending, leaveStarting_nextId_comm, handCommitted_nextId_comm]
    exact h.nextId _ (h.leave_of_ne hx (by simp [hs]) (by simp) (by simp) id)
  case h_5 | h_6 => exact h.makePending hx _ _
  case h_7 | h_8 | h_9 | h_10 => exact hx
  all_goals
    rw [Plant.setPump_makePending, handCommitted_nextId_comm]
    exact h.nextId _ (h.move_of_ne hx (by simp [hs]) (by simp) (by simp) id)

theorem itemEffect (h : Kept v.tab I) {source action : Byte} (hx : I x)
    (hr : itemRefusal v source x p action = none) : I (itemEffect v p action x).1 := by
  unfold Machine.itemEffect
  dsimp only
  split
  · next run =>
    obtain ⟨off, free⟩ := itemRefusal_run hr run
    exact h.manualRun v rfl hx off free
  · exact h.manualStop hx

theorem judgeItems (h : Kept v.tab I) {f : Frame} {i : Nat} {items : List (Byte × Byte)}
    {carried carried' : List (Fin 32 × Nat)} {y : Plant} (hx : I x)
    (hj : judgeItems v f i items x carried = .passed y carried') : I y := by
  induction items generalizing i x carried with
  | nil => cases hj; exact hx
  | cons item items ih =>
    obtain ⟨point, action⟩ := item
    unfold Machine.judgeItems at hj
    split at hj
    · exact ih hx hj
    · split at hj
      · cases hj
      · next hr => exact ih (h.itemEffect hx hr) hj

theorem judgeFrame (h : Kept v.tab I) {f : Frame} {carried : List (Fin 32 × Nat)} {y : Plant} (hx : I x)
    (hj : judgeFrame v f x = .passed y carried) : I y := by
  unfold Machine.judgeFrame at hj
  split at hj
  · cases hj; exact hx
  · split at hj
    · cases hj
    · exact h.judgeItems hx hj

theorem stopFallback (h : Kept v.tab I) (carried : List (Fin 32 × Nat)) (hx : I x) :
    I (stopFallback carried v x) := h.becomeAuto _ hx

/-! ### Transmitted commands -/

theorem toTransit (h : Kept v.tab I) (hx : I x) : I (toTransit x p) := h.quiet hx ⟨rfl, rfl, fun _ => id⟩

theorem commandSent (h : Kept v.tab I) (c : Fin 32 × Nat) (hx : I x) : I (commandSent v x c) := by
  unfold Machine.commandSent
  dsimp only
  split
  · exact hx
  · split
    · refine h.quiet hx ?_
      split <;> exact ⟨rfl, rfl, fun _ => id⟩
    · exact hx

/-! ### Changes of mode -/

theorem leaveActive (h : Kept v.tab I) (hx : I x) : I (leaveActive v x) :=
  List.foldlRecOn (motive := I) _ _
    (h.markScan .b (h.markScan .a (List.foldlRecOn (motive := I) _ _ hx fun _ hy _ _ => h.withdraw hy)))
    fun _ hy _ _ => h.clearAwaiting hy

end Kept

end Sys2Proof.Machine
end

section
/-!
PROOFS. A property of the part that the elementary changes keep (`KeptByEvents`) is kept by every event of the running
part, and so by every command but those of power and of the RESET input.
-/

namespace Sys2Proof.Machine

/-- The elementary changes of the part that the events of the running part are made of, each keeping the property `P`:
those of the scheduling records, of the line, of a reservoir record, of the clock, of the Management Unit, of the
conditions and pins, a step of the timebase, a TABLE_WRITE that its judgement passes and a management restart. -/
structure KeptByEvents (P : Part → Prop) : Prop where
  plant : ∀ s : Part, Kept s.tab fun x => P { s with plant := x }
  line : ∀ {s : Part} {l : Line}, P s → (QueuesFit s.line → QueuesFit l) → P { s with line := l }
  level : ∀ {s : Part} {r : Fin 10} {l : ResLive}, P s → (s.levels[r].ok s.tab.t1[r] → l.ok s.tab.t1[r]) →
    P (s.setLevel r l)
  clock : ∀ {s : Part} {c : Calendar}, P s →
    (s.cal.minute < 1440 ∧ s.cal.second < 60 → c.minute < 1440 ∧ c.second < 60) → P { s with cal := c }
  mgmt : ∀ {s : Part} {m : Mgmt}, P s → (s.SettingsKept → ({ s with mgmt := m } : Part).SettingsKept) →
    P { s with mgmt := m }
  pins : ∀ {s : Part} (w : Word) (f a : Bool), P s → P { s with conditions := w, fault := f, alert := a }
  free : ∀ {s : Part} (n : Nat), P s → P { s with free := n }
  advance : ∀ {s : Part}, P s → P (advance s)
  write : ∀ {s : Part} {rows : List Row} {new : Settings} {clamped : Bool}, P s →
    judge s rows = .passed new clamped → P (applyWrite rows new s)
  restart : ∀ {s : Part} (straps : Straps), P s → P (managementRestart straps s)

/-! ### Small facts -/

/-- A scaled level is within the range of its reservoir (R146). -/
theorem scaleLevel_le (e : PointEntry) (fs raw : Nat) : scaleLevel e fs raw ≤ fs := by
  unfold scaleLevel
  split
  · exact Nat.zero_le _
  · exact Nat.min_le_left ..

theorem clampInt_bounds {lo hi : Int} (h : lo ≤ hi) (v : Int) : lo ≤ clampInt lo hi v ∧ clampInt lo hi v ≤ hi := by
  unfold clampInt; split_ifs <;> omega

/-- An arriving level gives a record within its ranges (R4, R6, R11). -/
theorem arrivalRecord_ok {e : ResEntry} {now : Uptime} {l : Nat} {rec : ResLive} (hl : l ≤ e.fs)
    (he : e.enabled = true) (hk : e.kind = .metered) (h : rec.ok e) : (arrivalRecord e now l rec).ok e := by
  obtain ⟨_, hsample, hlo, hhi, _, _, _⟩ := h
  have hstate : (arrivalRecord e now l rec).state ≠ .unknown ∧ (arrivalRecord e now l rec).state ≠ .stale := by
    simp only [arrivalRecord, arrivalState, bareState, hystState]
    split
    · split_ifs <;> simp
    · split <;> split_ifs <;> simp
  have hrate : (rateStep e now l rec).sampleLevel ≤ e.fs ∧ -500 ≤ (rateStep e now l rec).rate ∧
      (rateStep e now l rec).rate ≤ 500 := by
    unfold rateStep
    split
    · exact ⟨hl, by simp, by simp⟩
    · split
      · exact ⟨hl, clampInt_bounds (by decide) _⟩
      · exact ⟨hsample, hlo, hhi⟩
  refine ⟨hl, hrate.1, hrate.2.1, hrate.2.2, fun hs => (hs.elim hstate.1 hstate.2).elim, fun _ hu => ?_, fun hd => ?_⟩
  · rw [hk] at hu; cases hu
  · rw [he] at hd; cases hd

/-- A reservoir that enters STALE keeps its record within its ranges (R9, R11). -/
theorem stale_ok {e : ResEntry} {l : ResLive} (he : e.enabled = true) (hk : e.kind = .metered) (h : l.ok e) :
    ({ l with state := .stale, rate := 0, staleDue := false } : ResLive).ok e := by
  obtain ⟨hl, hs, _⟩ := h
  refine ⟨hl, hs, by simp, by simp, fun _ => rfl, fun _ hu => ?_, fun hd => ?_⟩
  · rw [hk] at hu; cases hu
  · rw [he] at hd; cases hd

/-- Enabled notices fit whatever waits. -/
theorem noticeFits_enable {v : Events} (h : NoticeFits v) : NoticeFits v.enable := by
  unfold Events.enable
  split
  · exact h
  · exact fun _ => rfl

namespace KeptByEvents

variable {P : Part → Prop} {s : Part}

/-! ### Changes of one kind -/

/-- An operation of the scheduling blocks that keeps every kept property. -/
theorem onPlant {f : View → Plant → Plant} (h : KeptByEvents P) (hs : P s)
    (hf : ∀ {I : Plant → Prop}, Kept s.view.tab I → I s.plant → I (f s.view s.plant)) : P (s.onPlant f) :=
  hf (h.plant s) hs

theorem raise (h : KeptByEvents P) (hs : P s) (e : Event) : P (s.raise e) := (h.plant s).events hs fun hn => hn.raise e

theorem settlePart (h : KeptByEvents P) (hs : P s) : P (settlePart s) := h.onPlant hs fun k hx => k.settle hx

theorem finish (h : KeptByEvents P) (hs : P s) : P (finish s) := h.pins _ _ _ (h.settlePart hs)

/-- A change of the Management Unit that leaves the store. -/
theorem mgmtSameStore {m : Mgmt} (h : KeptByEvents P) (hs : P s) (hm : m.store = s.mgmt.store) :
    P { s with mgmt := m } :=
  h.mgmt hs fun hk => ⟨hk.1, hm ▸ hk.2.1, hm ▸ hk.2.2⟩

/-! ### The calendar, the reservoirs and the modes -/

theorem boundaryEvent (h : KeptByEvents P) (hs : P s) : P (boundaryEvent s) := by
  unfold Machine.boundaryEvent
  split
  · have ht : P { s with cal := { s.cal with cls := classAt s.tab s.cal, boundaryDue := false } } := h.clock hs id
    dsimp only
    split
    · exact ht
    · exact h.onPlant ht fun k hx => k.evaluateAll _ hx
  · exact hs

theorem setClock (h : KeptByEvents P) {day : Fin 7} {minute second : Nat} (hs : P s) (hm : minute < 1440)
    (hsec : second < 60) : P (setClock day minute second s) := by
  refine h.onPlant (f := fun v => evaluateAll v .clockSet) ?_ fun k hx => k.evaluateAll _ hx
  have ht : P { s with cal := { s.cal with clockSet := true, day := day, minute := minute, second := second } } :=
    h.clock hs fun _ => ⟨hm, hsec⟩
  exact h.clock ht id

theorem handState (h : KeptByEvents P) (r : Fin 10) (old new : ResState) (hs : P s) : P (handState r old new s) := by
  unfold Machine.handState
  have ht : P (if new = .lowAlarm ∧ old ≠ .lowAlarm then s.onPlant fun v => escalate v r else s) := by
    split
    · exact h.onPlant hs fun k hx => k.escalate _ r rfl hx
    · exact hs
  dsimp only
  split
  · exact h.raise ht _
  · exact ht

theorem levelArrival (h : KeptByEvents P) {r : Fin 10} {l : Nat} (hl : l ≤ s.tab.t1[r].fs) (hs : P s) :
    P (levelArrival r l s) := by
  unfold Machine.levelArrival
  dsimp only
  split
  · rename_i he
    simp only [Bool.and_eq_true, beq_iff_eq] at he
    exact h.onPlant (h.handState r _ _ (h.level hs (arrivalRecord_ok hl he.1 he.2))) fun k hx => k.notify r _ hx
  · exact hs

theorem staleEvent (h : KeptByEvents P) (r : Fin 10) (hs : P s) : P (staleEvent r s) := by
  obtain ⟨e, _, ht⟩ | ⟨e, _⟩ := staleEvent_cases r s
  · simp only [staleTested, Bool.and_eq_true, beq_iff_eq] at ht
    rw [e]
    refine h.onPlant (f := fun v => notify v r true) ?_ fun k hx => k.notify r _ hx
    exact h.raise (h.level hs (stale_ok ht.1.1 ht.1.2)) _
  · rwa [e]

theorem quietEvent (h : KeptByEvents P) (hs : P s) : P (quietEvent s) := by
  unfold Machine.quietEvent
  split
  · refine h.onPlant ?_ fun k hx => k.fallback hx
    exact h.raise (h.line (l := { s.line with quietT := none, uplineLost := true }) hs id) _
  · exact hs

theorem changeMode (h : KeptByEvents P) (m : Mode) (hs : P s) : P (changeMode m s) := by
  unfold Machine.changeMode
  have hleft : P (if s.mgmt.mode = .active then s.onPlant leaveActive else s) := by
    split
    · exact h.onPlant hs fun k hx => k.leaveActive hx
    · exact hs
  have htold := h.onPlant (h.mgmtSameStore (m := { (if s.mgmt.mode = .active then s.onPlant leaveActive else s).mgmt with
      mode := m, settleT := none }) (h.onPlant (f := fun _ x => updateStages m x) hleft fun k hx => k.updateStages m hx)
      rfl) (f := fun v x => reconcileAll v (stagesOf (if s.mgmt.mode = .active then
        slots.filter fun p => (s.plant.pump p).heldByActive else [])) x) fun k hx => k.reconcileAll _ hx
  dsimp only
  split
  · exact h.onPlant htold fun k hx => k.evaluateAll _ hx
  · exact htold

theorem toMode (h : KeptByEvents P) (m : Mode) (hs : P s) : P (toMode m s) := by
  unfold Machine.toMode
  split
  · exact hs
  · exact h.changeMode m hs

theorem keepCheck (h : KeptByEvents P) (c : ModeCheck) (hs : P s) : P (keepCheck c s) := h.mgmtSameStore hs rfl

theorem settleEvent (h : KeptByEvents P) (hs : P s) : P (settleEvent s) := by
  unfold Machine.settleEvent
  split
  · have ht : P { s with mgmt := { s.mgmt with settleT := none } } := h.mgmtSameStore hs rfl
    dsimp only
    split
    · exact h.changeMode _ (h.keepCheck _ ht)
    · exact ht
  · exact hs

/-! ### The timebase -/

theorem pumpExpiries (h : KeptByEvents P) {p : Fin 32} {f : View → Plant → Plant} (hf : f ∈ pumpExpiries p)
    (hs : P s) : P (takeExpiry s f) := by
  simp only [Machine.pumpExpiries, List.mem_cons, List.not_mem_nil, or_false] at hf
  refine h.settlePart ?_
  rcases hf with rfl | rfl | rfl | rfl | rfl | rfl
  · exact h.onPlant hs fun k hx => k.minRunEvent hx
  · exact h.onPlant hs fun k hx => k.minRestEvent hx
  · exact h.onPlant hs fun k hx => k.startConfirmEvent hx
  · exact h.onPlant hs fun k hx => k.stopConfirmEvent hx
  · exact h.onPlant hs fun k hx => k.retryEvent hx
  · exact h.onPlant hs fun k hx => k.provingEvent hx

theorem plantExpiries (h : KeptByEvents P) {f : View → Plant → Plant} (hf : f ∈ plantExpiries) (hs : P s) :
    P (takeExpiry s f) := by
  simp only [Machine.plantExpiries, List.mem_append, List.mem_map, List.mem_flatMap, List.mem_cons, List.not_mem_nil,
    or_false] at hf
  rcases hf with ((⟨k, _, rfl⟩ | ⟨p, _, hp⟩) | ⟨k, _, rfl⟩) | rfl | rfl
  · exact h.settlePart (h.onPlant hs fun k hx => k.ageingEvent hx)
  · exact h.pumpExpiries hp hs
  · exact h.settlePart (h.onPlant hs fun k hx => k.stopSpacingEvent hx)
  · exact h.settlePart (h.onPlant hs fun k hx => k.feederSpacingEvent .a hx)
  · exact h.settlePart (h.onPlant hs fun k hx => k.feederSpacingEvent .b hx)

theorem secondsEvent (h : KeptByEvents P) (hs : P s) : P (secondsEvent s) := by
  have ha := h.settlePart (h.boundaryEvent hs)
  have hb := List.foldlRecOn (motive := P) reservoirList (fun t r => Machine.settlePart (Machine.staleEvent r t)) ha
    fun t ht r _ => h.settlePart (h.staleEvent r ht)
  have hc := List.foldlRecOn (motive := P) Machine.plantExpiries takeExpiry hb fun t ht f hf => h.plantExpiries hf ht
  exact h.advance (h.settlePart (h.settleEvent (h.settlePart (h.quietEvent hc))))

/-! ### The line -/

theorem setRx (h : KeptByEvents P) (port : Port) (r : Rx) (hs : P s) : P (s.setRx port r) := by
  cases port
  · exact h.line hs id
  · exact h.line hs id
  · exact hs

theorem enterU (h : KeptByEvents P) (f : Frame) (hs : P s) : P (enterU f s) := by
  unfold Machine.enterU
  split
  · rename_i hr
    exact h.line hs fun ⟨_, hd, hm, hq⟩ => ⟨by simpa using hr, hd, hm, hq⟩
  · exact h.raise hs _

theorem enterD (h : KeptByEvents P) (f : DFrame) (hs : P s) : P (enterD f s) := by
  unfold Machine.enterD
  split
  · rename_i hr
    exact h.line hs fun ⟨hu, _, hm, hq⟩ => ⟨hu, by simpa using hr, hm, hq⟩
  · exact h.raise hs _

theorem enterMirror (h : KeptByEvents P) (f : Frame) (hs : P s) : P (enterMirror f s) := by
  unfold Machine.enterMirror
  split
  · rename_i hr
    exact h.line hs fun ⟨hu, hd, _, hq⟩ => ⟨hu, hd, by simpa using hr, hq⟩
  · exact h.raise hs _

theorem enterReply (h : KeptByEvents P) (r : Reply) (hs : P s) : P (enterReply r s) := by
  unfold Machine.enterReply
  split
  · exact hs
  · rename_i hr
    exact h.line hs fun ⟨hu, hd, hm, _⟩ => ⟨hu, hd, hm, by simpa [replyFull] using hr⟩

theorem mirror (h : KeptByEvents P) (d : Direction) (f : Frame) (hs : P s) : P (mirror d f s) := by
  unfold Machine.mirror
  split
  · exact hs
  · split
    · exact h.raise hs _
    · exact h.enterMirror _ hs

theorem checkErrorEvent (h : KeptByEvents P) (port : Port) (dest : Option Byte) (hs : P s) :
    P (checkErrorEvent port dest s) := by
  unfold Machine.checkErrorEvent
  split
  · exact hs
  · exact h.raise (h.setRx .d .hunt hs) _
  · have ht := h.raise (h.setRx .u .hunt hs) .lineCheck
    dsimp only
    split
    · exact h.line ht id
    · exact ht

theorem abandonFrame (h : KeptByEvents P) (port : Port) (hs : P s) : P (abandonFrame port s) := by
  unfold Machine.abandonFrame
  split
  · exact hs
  · exact h.checkErrorEvent _ _ hs

theorem checkHoldQuietEvent (h : KeptByEvents P) (hs : P s) : P (checkHoldQuietEvent s) :=
  h.line (h.abandonFrame .u hs) id

theorem heard (h : KeptByEvents P) (hs : P s) : P s.heard := h.line hs id

/-! ### The transmitters -/

theorem takeForwardU (h : KeptByEvents P) {f : Frame} {rest : List Frame} (hq : s.line.uQueue = f :: rest)
    (hs : P s) : P (takeForwardU f rest s) := by
  refine h.line hs fun ⟨hu, hd, hm, hr⟩ => ⟨?_, hd, hm, hr⟩
  rw [hq] at hu
  exact Nat.le_of_succ_le hu

theorem takeOwn (h : KeptByEvents P) (hs : P s) : P (takeOwn s) := by
  unfold Machine.takeOwn
  split
  · rename_i hq
    refine h.line hs fun ⟨hu, hd, hm, hr⟩ => ⟨hu, hd, hm, ?_⟩
    rw [hq] at hr
    exact Nat.le_of_succ_le hr
  · unfold takeNotice
    have ht : P { s with line := { s.line with uTx := some (.notice (noticeFrame s)), uTurn := .forward } } :=
      h.line hs id
    exact (h.plant { s with line := { s.line with uTx := some (.notice (noticeFrame s)), uTurn := .forward } }).events
      ht (by simp [NoticeFits])

theorem uStartEvent (h : KeptByEvents P) (hs : P s) : P (uStartEvent s) := by
  unfold Machine.uStartEvent
  split
  · exact hs
  · split
    · rename_i hq
      split
      · exact h.takeOwn hs
      · exact h.takeForwardU hq hs
    · split
      · exact h.takeOwn hs
      · exact hs

theorem uCompleteEvent (h : KeptByEvents P) (straps : Straps) (hs : P s) : P (uCompleteEvent straps s) := by
  unfold Machine.uCompleteEvent
  split
  · exact h.restart straps hs
  · exact h.line hs id

theorem takeForwardD (h : KeptByEvents P) {f : DFrame} {rest : List DFrame} (hq : s.line.dQueue = f :: rest)
    (hs : P s) : P (takeForwardD f rest s) := by
  refine h.line hs fun ⟨hu, hd, hm, hr⟩ => ⟨hu, ?_, hm, hr⟩
  rw [hq] at hd
  exact Nat.le_of_succ_le hd

theorem takeCommand (h : KeptByEvents P) (p : Fin 32) (hs : P s) : P (takeCommand p s) := by
  have ht : P { s with line := { s.line with
      dTx := some (commandFrame s.address s.tab s.plant s.tab.t3[p].station
        (includedSlots s.tab s.plant s.tab.t3[p].station))
      dTurn := .forward
      pointer := (includedSlots s.tab s.plant s.tab.t3[p].station).getLastD s.line.pointer } } := h.line hs id
  exact h.onPlant ht (f := fun _ x => (includedSlots s.tab s.plant s.tab.t3[p].station).foldl toTransit x)
    fun k hx => List.foldlRecOn _ toTransit hx fun _ hy _ _ => k.toTransit hy

theorem dStartEvent (h : KeptByEvents P) (hs : P s) : P (dStartEvent s) := by
  unfold Machine.dStartEvent
  split
  · exact hs
  · split
    · rename_i hq _
      split
      · exact h.takeCommand _ hs
      · exact h.takeForwardD hq hs
    · rename_i hq _
      exact h.takeForwardD hq hs
    · exact h.takeCommand _ hs
    · exact hs

theorem dCompleteEvent (h : KeptByEvents P) (hs : P s) : P (dCompleteEvent s) := by
  unfold Machine.dCompleteEvent
  split
  · exact hs
  · exact h.onPlant (h.line hs id) fun k hx => List.foldlRecOn _ _ hx fun _ hy c _ => k.commandSent c hy

theorem mStartEvent (h : KeptByEvents P) (hs : P s) : P (mStartEvent s) := by
  unfold Machine.mStartEvent
  split
  · rename_i hq
    refine h.line hs fun ⟨hu, hd, hm, hr⟩ => ⟨hu, hd, ?_, hr⟩
    rw [hq] at hm
    exact Nat.le_of_succ_le hm
  · exact hs

/-! ### Frames -/

theorem filterFrame (h : KeptByEvents P) (met : Bool) (f : Frame) (hs : P s) : P (filterFrame met f s) := by
  unfold Machine.filterFrame
  split
  · split
    · exact h.raise (h.enterReply _ hs) _
    · rename_i x carried hj
      have hx : P { s with plant := x } := (h.plant s).judgeFrame (v := s.view) hs hj
      have ht := h.onPlant (h.enterD { frame := f, carried := carried } hx)
        (f := fun v y => reconcileAll v (stagesOf (carried.map Prod.fst)) y) fun k hy => k.reconcileAll _ hy
      dsimp only
      split
      · exact h.onPlant (h.onPlant ht fun k hy => k.settle hy) fun k hy => k.stopFallback _ hy
      · exact ht
  · exact h.raise hs _

theorem handReport (h : KeptByEvents P) (e : PointEntry) (raw : Nat) (hs : P s) : P (handReport e raw s) := by
  unfold Machine.handReport
  split
  · split
    · exact h.levelArrival (scaleLevel_le ..) hs
    · exact hs
  · split
    · exact h.onPlant hs fun k hx => k.pumpReport _ _ hx
    · exact hs

theorem takeReport (h : KeptByEvents P) (source : Byte) (r : Report) (hs : P s) : P (takeReport source s r) := by
  unfold Machine.takeReport
  split
  · exact hs
  · split
    · exact h.settlePart (h.handReport _ _ hs)
    · exact hs

theorem takeReports (h : KeptByEvents P) (f : Frame) (hs : P s) : P (takeReports f s) := by
  unfold Machine.takeReports
  split
  · exact List.foldlRecOn _ _ hs fun _ ht r _ => h.takeReport _ r ht
  · exact hs

theorem intakeFrame (h : KeptByEvents P) (f : Frame) (hs : P s) : P (intakeFrame f s) := by
  unfold Machine.intakeFrame
  split
  · exact h.mirror _ _ (h.enterU f (h.takeReports f hs))
  · have ht := h.raise hs .foreignSource
    refine h.mirror _ _ ?_
    split
    · exact ht
    · exact h.enterU f ht

theorem inspectPair (h : KeptByEvents P) (source : Byte) (pair : Byte × Byte) (hs : P s) :
    P (inspectPair source s pair) := by
  unfold Machine.inspectPair
  split
  · split
    · exact h.settlePart (h.onPlant hs fun k hx => k.refusedReport hx)
    · exact hs
  · exact hs

theorem disposeD (h : KeptByEvents P) (f : Frame) (hs : P s) : P (disposeD f s) := by
  unfold Machine.disposeD
  split
  · exact h.mirror _ _ (List.foldlRecOn _ _ hs fun _ ht pair _ => h.inspectPair _ pair ht)
  · split
    · exact hs
    · exact h.intakeFrame f hs

/-! ### Management requests -/

theorem modeSetRequest (h : KeptByEvents P) (b : Byte) (hs : P s) : P (modeSetRequest b s).1 := by
  unfold Machine.modeSetRequest
  split
  · exact hs
  · exact hs
  · exact h.toMode _ hs
  · exact h.toMode _ hs
  · split
    · exact hs
    · split
      · exact hs
      · dsimp only
        split
        · exact h.keepCheck _ hs
        · exact h.changeMode .active (h.keepCheck (modeCheck s.tab) hs)
        · exact h.changeMode .active (h.keepCheck (modeCheck s.tab) hs)

theorem writeSegments (h : KeptByEvents P) (segs : List Segment) (hs : P s) : P (writeSegments segs s).1 := by
  unfold Machine.writeSegments
  dsimp only
  split
  · exact hs
  · split
    · exact hs
    · split
      · exact hs
      · exact h.write hs ‹_›

theorem ownerSetRequest (h : KeptByEvents P) (slot owner : Byte) (hs : P s) : P (ownerSetRequest slot owner s).1 := by
  unfold Machine.ownerSetRequest
  split
  · exact hs
  · split
    · exact hs
    · exact h.onPlant (f := fun v => ownerEvent v _ _) hs fun k hx => k.ownerEvent _ hx

theorem clockSetRequest (h : KeptByEvents P) (day : Byte) (minute : Word) (second : Byte) (hs : P s) :
    P (clockSetRequest day minute second s).1 := by
  unfold Machine.clockSetRequest
  split
  · rename_i hr
    exact h.setClock (h.settlePart (h.boundaryEvent hs)) hr.2.1 hr.2.2
  · exact hs

theorem tripResetRequest (h : KeptByEvents P) (slot : Byte) (hs : P s) : P (tripResetRequest slot s).1 := by
  unfold Machine.tripResetRequest
  split
  · exact hs
  · split
    · rename_i hq
      exact h.onPlant (f := fun v => tripResetEvent v _) hs fun k hx =>
        k.tripResetEvent hx (by rcases hq with hq | hq <;> simp [hq])
    · exact hs

theorem carryOut (h : KeptByEvents P) (r : ManageRequest) (hs : P s) : P (carryOut r s).1 := by
  cases r with
  | statusRead => exact hs
  | tableRead => exact hs
  | tableWrite form =>
    cases form with
    | refused => exact hs
    | segments segs => exact h.writeSegments segs hs
  | modeSet m => exact h.modeSetRequest m hs
  | ownerSet p o => exact h.ownerSetRequest p o hs
  | clockSet d m sec => exact h.clockSetRequest d m sec hs
  | noticeOn c => simp only [Machine.carryOut, noticeOnRequest]; split <;> exact hs
  | noticeOff c => simp only [Machine.carryOut, noticeOffRequest]; split <;> exact hs
  | eventClear keep => exact (h.plant s).events hs id
  | tripReset p => exact h.tripResetRequest p hs
  | addressTake =>
    simp only [Machine.carryOut, addressTakeRequest]
    split
    · exact hs
    · exact h.mgmtSameStore hs rfl
  | addressRelease =>
    have ht := h.toMode .passive hs
    exact h.line (h.mgmtSameStore (m := { (Machine.toMode .passive s).mgmt with addrMode := .commissioning }) ht rfl) id
  | settingsSave =>
    simp only [Machine.carryOut, settingsSaveRequest]
    split
    · exact hs
    · exact h.mgmt hs fun ⟨htab, hcopy, _⟩ => ⟨htab, hcopy, fun t ht => Option.some.inj ht ▸ htab⟩
  | restart =>
    simp only [Machine.carryOut, restartRequest]
    split
    · exact hs
    · exact h.mgmtSameStore hs rfl

theorem afterReply (h : KeptByEvents P) (r : ManageRequest) (hs : P s) : P (afterReply r s) := by
  cases r with
  | noticeOn => exact (h.plant s).events hs noticeFits_enable
  | noticeOff => exact (h.plant s).events hs fun _ hw => nomatch hw
  | addressRelease => exact (h.plant s).events hs fun _ hw => nomatch hw
  | _ => exact hs

theorem completeRequest (h : KeptByEvents P) (directed : Bool) (source tag : Byte) (r : ManageRequest) (hs : P s) :
    P (completeRequest directed source tag r s) := by
  unfold Machine.completeRequest
  have hc := h.settlePart (h.carryOut r hs)
  have ht : P (if directed then Machine.enterReply (replyOf source tag (Machine.carryOut r s).2)
      (Machine.settlePart (Machine.carryOut r s).1) else Machine.settlePart (Machine.carryOut r s).1) := by
    split
    · exact h.enterReply _ hc
    · exact hc
  dsimp only
  split
  · exact ht
  · exact h.afterReply r ht

theorem refuseHeld (h : KeptByEvents P) (source : Byte) (p : Parsed) (hs : P s) : P (refuseHeld source p s) := by
  unfold Machine.refuseHeld
  split
  · exact h.enterReply _ hs
  · exact h.enterReply _ (h.free _ hs)

theorem takeManage (h : KeptByEvents P) (dest source : Byte) (p : Parsed) (hs : P s) :
    P (takeManage dest source p s) := by
  unfold Machine.takeManage
  split
  · unfold takeDirected
    split
    · exact h.refuseHeld _ _ hs
    · split
      · exact hs
      · split
        · exact hs
        · exact h.enterReply _ hs
        · exact h.enterReply _ hs
        · exact h.completeRequest _ _ _ _ hs
  · split
    · unfold takeBroadcast
      split
      · exact hs
      · split
        · exact hs
        · exact hs
        · exact hs
        · split
          · exact h.completeRequest _ _ _ _ hs
          · exact hs
    · exact hs

/-! ### Reception -/

theorem goodFrameU (h : KeptByEvents P) (f : Frame) (p : Parsed) (hs : P s) : P (goodFrameU f p s) := by
  rw [goodFrameU_heard]
  refine h.mirror _ _ (h.settlePart ?_)
  unfold disposeU
  split
  · exact h.takeManage _ _ _ (h.heard hs)
  · split
    · exact h.filterFrame _ f (h.heard hs)
    · exact h.enterD _ (h.heard hs)

theorem goodFrameD (h : KeptByEvents P) (f : Frame) (hs : P s) : P (goodFrameD f s) :=
  h.disposeD f (h.setRx .d .hunt hs)

theorem arriveU (h : KeptByEvents P) (f : Frame) (hs : P s) : P (arriveU f s) := by
  unfold Machine.arriveU
  split
  · exact h.goodFrameU f _ hs
  · exact h.checkErrorEvent _ _ hs

theorem arriveD (h : KeptByEvents P) (f : Frame) (hs : P s) : P (arriveD f s) := by
  unfold Machine.arriveD
  split
  · exact h.goodFrameD f hs
  · exact h.checkErrorEvent _ _ hs

theorem requestFrame (h : KeptByEvents P) (hd : ReqHead) (code : Byte) (args : List Byte) (p : Parsed) (hs : P s) :
    P (requestFrame hd code args p s) := by
  unfold Machine.requestFrame
  split
  · exact h.goodFrameU _ p hs
  · exact h.checkErrorEvent _ _ hs

theorem goodFrame (h : KeptByEvents P) (port : Port) (f : Frame) (hs : P s) : P (goodFrame port f s) := by
  cases port
  · exact h.goodFrameU f _ hs
  · exact h.goodFrameD f hs
  · exact hs

theorem characterEvent (h : KeptByEvents P) (port : Port) (ch : Byte) (stopOk : Bool) (hs : P s) :
    P (characterEvent port ch stopOk s) := by
  unfold Machine.characterEvent
  split
  · exact hs
  · split
    · unfold takeCharacter
      split
      · split
        · exact h.setRx _ _ hs
        · exact hs
      · split
        · exact h.setRx _ _ hs
        · exact h.checkErrorEvent _ _ hs
      · exact h.setRx _ _ hs
      · split
        · exact h.setRx _ _ hs
        · exact h.setRx _ _ hs
      · unfold frameComplete
        split
        · exact h.goodFrame port _ hs
        · exact h.checkErrorEvent _ _ hs
    · exact h.abandonFrame port hs

theorem saveComplete (h : KeptByEvents P) (done : Bool) (hs : P s) : P (saveComplete done s) := by
  unfold Machine.saveComplete
  split
  · exact hs
  · rename_i tab hsave
    refine h.raise ?_ .settings
    refine h.mgmt hs fun ⟨htab, hcopy, hsaving⟩ => ⟨htab, ?_, ?_⟩
    · cases done
      · exact hcopy
      · exact hsaving tab hsave
    · cases done <;> exact fun _ ht => nomatch ht

end KeptByEvents

end Sys2Proof.Machine
end

section
/-!
PROOFS. The commands by their events: every command but those of power and of the RESET input is `act` of one event of
the running part, so that it has no effect on a part that does not run, and keeps what the events keep.
-/

namespace Sys2Proof.Machine

/-- The event of the running part that a command stands for; a command of power or of the RESET input has none. -/
def eventOf : Instr → Part → Part
  | .powerOn _ | .resetInput _ | .powerLoss => id
  | .secondsStep => secondsEvent
  | .minuteBoundary => boundaryEvent
  | .staleEntry r => staleEvent r
  | .startHistoryAgeing k => fun t => t.onPlant fun v => ageingEvent v k
  | .minRunExpiry p => fun t => t.onPlant fun v => minRunEvent v p
  | .minRestExpiry p => fun t => t.onPlant fun v => minRestEvent v p
  | .startConfirmExpiry p => fun t => t.onPlant fun v => startConfirmEvent v p
  | .stopConfirmExpiry p => fun t => t.onPlant fun v => stopConfirmEvent v p
  | .stopSpacingExpiry k => fun t => t.onPlant fun v => stopSpacingEvent v k
  | .feederSpacingExpiry f => fun t => t.onPlant fun v => feederSpacingEvent v f
  | .retryTimerExpiry p => fun t => t.onPlant fun v => retryEvent v p
  | .provingExpiry p => fun t => t.onPlant fun v => provingEvent v p
  | .uplineQuietExpiry => quietEvent
  | .settleExpiry => settleEvent
  | .checkHoldQuiet => checkHoldQuietEvent
  | .characterGapTimeout port => abandonFrame port
  | .checkError port dest => checkErrorEvent port dest
  | .goodFrameOnU f => arriveU f
  | .goodFrameOnD f => arriveD f
  | .uTransmitStart => uStartEvent
  | .uTransmitComplete straps => uCompleteEvent straps
  | .dTransmitStart => dStartEvent
  | .dTransmitComplete => dCompleteEvent
  | .mTransmitStart => mStartEvent
  | .mTransmitComplete => mCompleteEvent
  | .settingsSaveComplete done => saveComplete done
  | .statusRead h => requestFrame h 0x01 [] (.request h.tag .statusRead)
  | .tableRead h t i n o => requestFrame h 0x02 (t :: i :: n :: wordBytes o) (.request h.tag (.tableRead t i n o))
  | .tableWrite h segs => requestFrame h 0x03 (segmentsBytes segs) (parseArguments 0x03 h.tag (segmentsBytes segs))
  | .modeSet h m => requestFrame h 0x04 [m] (.request h.tag (.modeSet m))
  | .ownerSet h p o => requestFrame h 0x05 [p, o] (.request h.tag (.ownerSet p o))
  | .clockSet h d m sec => requestFrame h 0x06 (d :: (wordBytes m ++ [sec])) (.request h.tag (.clockSet d m sec))
  | .noticeOn h c => requestFrame h 0x07 [c] (.request h.tag (.noticeOn c))
  | .noticeOff h c => requestFrame h 0x08 [c] (.request h.tag (.noticeOff c))
  | .eventClear h keep => requestFrame h 0x09 (wordBytes keep) (.request h.tag (.eventClear keep))
  | .tripReset h p => requestFrame h 0x0A [p] (.request h.tag (.tripReset p))
  | .addressTake h => requestFrame h 0x0B [] (.request h.tag .addressTake)
  | .addressRelease h => requestFrame h 0x0C [] (.request h.tag .addressRelease)
  | .settingsSave h => requestFrame h 0x0D [] (.request h.tag .settingsSave)
  | .restart h => requestFrame h 0x0E [] (.request h.tag .restart)
  | .unknownRequest h code args => requestFrame h code args (parseManage (code :: h.tag :: args))
  | .characterReceived port ch stopOk => characterEvent port ch stopOk

/-- A command but one of power or of the RESET input is `act` of its event. -/
theorem exec_eq_act {c : Instr} (hc : ofPower c = false) (s : State) : exec c s = act (eventOf c) s := by
  cases c
  case powerOn | resetInput | powerLoss => cases hc
  all_goals rfl

/-- A command but one of power or of the RESET input on a part that runs. -/
theorem exec_running {c : Instr} (hc : ofPower c = false) {s : State} (hp : s.part.power = .on) :
    exec c s = .next (s.endingAt (eventOf c s.part)) := by
  rw [exec_eq_act hc, act_ending hp rfl]

/-- A command but one of power or of the RESET input on a part that does not run (R171, log 4). -/
theorem exec_down {c : Instr} (hc : ofPower c = false) {s : State} (hp : s.part.power ≠ .on) :
    exec c s = .next s := by
  rw [exec_eq_act hc, act_eq, Part.act_down hp]

/-! ### What every command and every step keeps -/

/-- A property of the part that the events of the running part keep, and the commands of power and of the RESET
input. -/
structure KeptByStep (P : Part → Prop) : Prop extends KeptByEvents P where
  powerOn : ∀ {s : Part} (straps : Straps), P s → P (powerOnEvent straps s)
  resetInput : ∀ {s : Part} (phase : ResetPhase), P s → P (resetInputEvent phase s)
  powerLoss : ∀ {s : Part}, P s → P (powerLossEvent s)

namespace KeptByEvents

variable {P : Part → Prop}

/-- What the events keep is kept by the event of every command. -/
theorem eventOf (h : KeptByEvents P) (c : Instr) {s : Part} (hs : P s) : P (eventOf c s) := by
  cases c
  case powerOn | resetInput | powerLoss => exact hs
  case secondsStep => exact h.secondsEvent hs
  case minuteBoundary => exact h.boundaryEvent hs
  case staleEntry r => exact h.staleEvent r hs
  case startHistoryAgeing k => exact h.onPlant (f := fun v => ageingEvent v k) hs fun k hx => k.ageingEvent hx
  case minRunExpiry p => exact h.onPlant (f := fun v => minRunEvent v p) hs fun k hx => k.minRunEvent hx
  case minRestExpiry p => exact h.onPlant (f := fun v => minRestEvent v p) hs fun k hx => k.minRestEvent hx
  case startConfirmExpiry p =>
    exact h.onPlant (f := fun v => startConfirmEvent v p) hs fun k hx => k.startConfirmEvent hx
  case stopConfirmExpiry p =>
    exact h.onPlant (f := fun v => stopConfirmEvent v p) hs fun k hx => k.stopConfirmEvent hx
  case stopSpacingExpiry k =>
    exact h.onPlant (f := fun v => stopSpacingEvent v k) hs fun k hx => k.stopSpacingEvent hx
  case feederSpacingExpiry f =>
    exact h.onPlant (f := fun v => feederSpacingEvent v f) hs fun k hx => k.feederSpacingEvent f hx
  case retryTimerExpiry p => exact h.onPlant (f := fun v => retryEvent v p) hs fun k hx => k.retryEvent hx
  case provingExpiry p => exact h.onPlant (f := fun v => provingEvent v p) hs fun k hx => k.provingEvent hx
  case uplineQuietExpiry => exact h.quietEvent hs
  case settleExpiry => exact h.settleEvent hs
  case checkHoldQuiet => exact h.checkHoldQuietEvent hs
  case characterGapTimeout port => exact h.abandonFrame port hs
  case checkError port dest => exact h.checkErrorEvent port dest hs
  case goodFrameOnU f => exact h.arriveU f hs
  case goodFrameOnD f => exact h.arriveD f hs
  case uTransmitStart => exact h.uStartEvent hs
  case uTransmitComplete straps => exact h.uCompleteEvent straps hs
  case dTransmitStart => exact h.dStartEvent hs
  case dTransmitComplete => exact h.dCompleteEvent hs
  case mTransmitStart => exact h.mStartEvent hs
  case mTransmitComplete => exact h.line hs id
  case settingsSaveComplete done => exact h.saveComplete done hs
  case characterReceived port ch stopOk => exact h.characterEvent port ch stopOk hs
  all_goals exact h.requestFrame _ _ _ _ hs

/-- A command but one of power or of the RESET input keeps what the events keep. -/
theorem exec (h : KeptByEvents P) {c : Instr} (hc : ofPower c = false) {s t : State} (hs : P s.part)
    (ht : exec c s = .next t) : P t.part := by
  rw [exec_eq_act hc, act_eq, Host.Outcome.next.injEq] at ht
  subst ht
  by_cases hp : s.part.power = .on
  · rw [Part.act_up hp]
    exact h.finish (h.eventOf c hs)
  · rwa [Part.act_down hp]

end KeptByEvents

namespace KeptByStep

variable {P : Part → Prop}

theorem exec (h : KeptByStep P) {c : Instr} {s t : State} (hs : P s.part) (ht : exec c s = .next t) : P t.part := by
  cases c
  case powerOn straps => cases ht; exact h.powerOn straps hs
  case resetInput phase => cases ht; exact h.resetInput phase hs
  case powerLoss => cases ht; exact h.powerLoss hs
  all_goals exact h.toKeptByEvents.exec rfl hs ht

/-- Every step keeps the property. -/
theorem step (h : KeptByStep P) {s t : State} (hs : P s.part) (ht : step s = .next t) : P t.part := by
  unfold Machine.step at ht
  split at ht
  · cases ht; exact hs
  · rename_i c rest _
    exact h.exec (s := { s with pending := rest }) hs ht

end KeptByStep

/-! ### Commands without effect -/

/-- With no start of its age the start histories stay as they are. -/
theorem youngStarts_eq_self {now : Uptime} {l : List Uptime} (h : ∀ u ∈ l, age now u < 3600) :
    youngStarts now l = l :=
  List.filter_eq_self.2 fun u hu => decide_eq_true (h u hu)

@[simp] theorem Plant.setPump_pump (x : Plant) (p : Fin 32) : x.setPump p (x.pump p) = x := by
  simp [Plant.setPump, Plant.pump]

/-- Without a start of its age in the stage its ageing changes nothing. -/
theorem ageingEvent_young {v : View} {k : Fin 8} {x : Plant}
    (h : ∀ p ∈ stageSlots k, ∀ u ∈ (x.pump p).history, age v.now u < 3600) : ageingEvent v k x = x := by
  have hy : (stageSlots k).foldl
      (fun z p => z.setPump p { z.pump p with history := youngStarts v.now (z.pump p).history }) x = x := by
    generalize hl : stageSlots k = l at h
    clear hl
    induction l with
    | nil => rfl
    | cons p l ih =>
      have hp : ({ x.pump p with history := youngStarts v.now (x.pump p).history } : Pump) = x.pump p := by
        rw [youngStarts_eq_self (h p List.mem_cons_self)]
      rw [List.foldl_cons, hp, Plant.setPump_pump]
      exact ih fun q hq => h q (List.mem_cons_of_mem p hq)
  unfold ageingEvent
  rw [hy]
  simp

/-- The event of an expiry or entry command that is not due changes nothing (log 3). -/
theorem eventOf_not_due {c : Instr} {s : Part} (h : dueAt s c = some false) : eventOf c s = s := by
  cases c <;> simp only [dueAt, Option.some.injEq, reduceCtorEq] at h
  case minuteBoundary => simp [eventOf, boundaryEvent, h]
  case staleEntry r =>
    rcases staleEvent_cases r s with ⟨_, hd, _⟩ | ⟨e, _⟩
    · rw [h] at hd; cases hd
    · exact e
  case startHistoryAgeing k =>
    simp only [List.any_eq_false, decide_eq_true_eq, Nat.not_le, Bool.not_eq_true] at h
    have hy := ageingEvent_young (v := s.view) (k := k) (x := s.plant) h
    simp only [eventOf, Part.onPlant, hy]
  case settleExpiry => simp [eventOf, settleEvent, h]
  case uplineQuietExpiry => simp [eventOf, quietEvent, h]
  case minRunExpiry p => simp [eventOf, Part.onPlant, minRunEvent, Part.view, h]
  case minRestExpiry p => simp [eventOf, Part.onPlant, minRestEvent, Part.view, h]
  case startConfirmExpiry p => simp [eventOf, Part.onPlant, startConfirmEvent, Part.view, h]
  case stopConfirmExpiry p => simp [eventOf, Part.onPlant, stopConfirmEvent, Part.view, h]
  case stopSpacingExpiry k => simp [eventOf, Part.onPlant, stopSpacingEvent, Part.view, h]
  case feederSpacingExpiry f => simp [eventOf, Part.onPlant, feederSpacingEvent, Part.view, h]
  case retryTimerExpiry p => simp [eventOf, Part.onPlant, retryEvent, Part.view, h]
  case provingExpiry p => simp [eventOf, Part.onPlant, provingEvent, Part.view, h]

/-- A command that names something due is none of power. -/
theorem ofPower_of_dueAt {c : Instr} {s : Part} {b : Bool} (h : dueAt s c = some b) : ofPower c = false := by
  cases c
  case powerOn | resetInput | powerLoss => cases h
  all_goals rfl

/-- Settles O7. -/
theorem commandsWithoutEffect : Obligations.CommandsWithoutEffect := by
  refine ⟨fun c s hs hd => ?_, fun c s hp hc => exec_down hc hp⟩
  rw [exec_eq_act (ofPower_of_dueAt hd)]
  exact act_unchanged hs (eventOf_not_due hd)

/-- Settles O1: the two branches of `step`. -/
theorem stepTakesFront : Obligations.StepTakesFront := ⟨fun _ _ _ => rfl, fun _ => rfl⟩

end Sys2Proof.Machine
end

section
/-!
PROOFS. The start slots: what leaves them as they are (`SlotsFrom`), the completion of a TABLE_WRITE on the scheduling
records in its phases, and that every step keeps each STARTING pump the holder of a BUSY slot (R103).
-/

namespace Sys2Proof.Machine

/-! ### What leaves the start slots -/

namespace SlotsFrom

theorem refl (x : Plant) : SlotsFrom x x := fun _ => ⟨rfl, rfl, rfl, rfl, id⟩

theorem trans {x y z : Plant} (h : SlotsFrom x y) (h' : SlotsFrom y z) : SlotsFrom x z := fun f =>
  let ⟨b, o, r, t, d⟩ := h f
  let ⟨b', o', r', t', d'⟩ := h' f
  ⟨b'.trans b, o'.trans o, r'.trans r, t'.trans t, d' ∘ d⟩

/-- Equal feeder records are equal slots. -/
theorem of_eq {x y : Plant} (h : ∀ f, y.feeder f = x.feeder f) : SlotsFrom x y := fun f => by
  rw [h f]; exact ⟨rfl, rfl, rfl, rfl, id⟩

/-- A feeder record with its slot kept and its scan still asked for. -/
theorem setFeeder {x : Plant} {f : Feeder} {l : FeederLive} (hb : l.busy = (x.feeder f).busy)
    (ho : l.holder = (x.feeder f).holder) (hr : l.released = (x.feeder f).released)
    (ht : l.spacingT = (x.feeder f).spacingT) (hd : (x.feeder f).scanDue = true → l.scanDue = true) :
    SlotsFrom x (x.setFeeder f l) := fun g => by
  by_cases hg : g = f
  · subst hg
    rw [Plant.feeder_setFeeder_same]
    exact ⟨hb, ho, hr, ht, hd⟩
  · rw [Plant.feeder_setFeeder_ne x hg]
    exact ⟨rfl, rfl, rfl, rfl, id⟩

theorem recommit (tab : Settings) (f : Feeder) (x : Plant) : SlotsFrom x (recommit tab f x) :=
  setFeeder rfl rfl rfl rfl fun h => by simp [h]

theorem handCommitted (tab : Settings) (p : Fin 32) (x : Plant) : SlotsFrom x (handCommitted tab p x) := recommit _ _ x

theorem markScan (f : Feeder) (x : Plant) : SlotsFrom x (x.markScan f) := setFeeder rfl rfl rfl rfl fun _ => rfl

theorem setPump (p : Fin 32) (q : Pump) (x : Plant) : SlotsFrom x (x.setPump p q) := of_eq fun f => by cases f <;> rfl

theorem setQueue (q : List Request) (x : Plant) : SlotsFrom x { x with queue := q } := of_eq fun f => by cases f <;> rfl

theorem dequeue (p : Fin 32) (x : Plant) : SlotsFrom x (dequeue p x) := by
  unfold Machine.dequeue
  split
  · exact refl x
  · exact (setQueue _ x).trans (markScan _ _)

theorem enterRequest (v : View) (p : Fin 32) (x : Plant) : SlotsFrom x (enterRequest v p x) :=
  (setQueue _ x).trans (markScan _ _)

theorem foldl_markScan (l : List Request) (x : Plant) :
    SlotsFrom x (l.foldl (fun z e => z.markScan e.feeder) x) :=
  List.foldlRecOn _ _ (refl x) fun _ hy _ _ => hy.trans (markScan _ _)

theorem escalate (v : View) (r : Fin 10) (x : Plant) : SlotsFrom x (escalate v r x) :=
  (setQueue _ x).trans (foldl_markScan _ _)

end SlotsFrom

/-- The escalation leaves every pump record. -/
@[simp] theorem escalate_pumps (v : View) (r : Fin 10) (x : Plant) : (escalate v r x).pumps = x.pumps := by
  unfold escalate
  exact List.foldlRecOn (motive := fun z : Plant => z.pumps = x.pumps) _ _ rfl fun z hz e _ => by simp [hz]

@[simp] theorem escalate_pump (v : View) (r : Fin 10) (x : Plant) (p : Fin 32) :
    (escalate v r x).pump p = x.pump p := Plant.pump_congr (escalate_pumps v r x) p

@[simp] theorem updateStages_pump (m : Mode) (x : Plant) (p : Fin 32) : (updateStages m x).pump p = x.pump p := rfl

/-! ### Slots held (R103) -/

/-- The slots of a pump other than the one that leaves are kept. -/
theorem holderLeaves_of_ne {l : FeederLive} {p : Fin 32} (h : l.holder ≠ p) : l.holderLeaves p = l := by
  simp [FeederLive.holderLeaves, h]

namespace SlotsHeld

variable {x y : Plant} {p : Fin 32}

/-- Where every pump that is STARTING after a change was so before it and keeps the slots that it holds. -/
theorem of_holders (hx : SlotsHeld x) (h : ∀ p : Fin 32, (y.pump p).state = .starting →
    (x.pump p).state = .starting ∧ ∀ f : Feeder, (x.feeder f).busy = true → (x.feeder f).holder = p →
      (x.feeder f).released = false →
        (y.feeder f).busy = true ∧ (y.feeder f).holder = p ∧ (y.feeder f).released = false) : SlotsHeld y := by
  intro p hp
  obtain ⟨hs, hk⟩ := h p hp
  obtain ⟨f, hb, ho, hr⟩ := hx p hs
  exact ⟨f, hk f hb ho hr⟩

/-- Where the slots are kept and no pump becomes STARTING. -/
theorem of_slotsFrom (hx : SlotsHeld x) (hf : SlotsFrom x y)
    (h : ∀ p : Fin 32, (y.pump p).state = .starting → (x.pump p).state = .starting) : SlotsHeld y :=
  hx.of_holders fun p hp => ⟨h p hp, fun f hb ho hr => by
    obtain ⟨b, o, r, _⟩ := hf f
    exact ⟨b.trans hb, o.trans ho, r.trans hr⟩⟩

/-- A pump record written that is not newly STARTING. -/
theorem setPump (hx : SlotsHeld x) {q : Pump} (hq : q.state = .starting → (x.pump p).state = .starting) :
    SlotsHeld (x.setPump p q) :=
  hx.of_slotsFrom (.setPump p q x) fun p' h => by
    rw [Plant.pump_setPump] at h
    split at h
    · next e => exact e ▸ hq h
    · exact h

theorem handCommitted (hx : SlotsHeld x) (tab : Settings) (p : Fin 32) : SlotsHeld (handCommitted tab p x) :=
  hx.of_slotsFrom (.handCommitted tab p x) fun p' h => by rwa [handCommitted_pump] at h

theorem dequeue (hx : SlotsHeld x) (p : Fin 32) : SlotsHeld (dequeue p x) :=
  hx.of_slotsFrom (.dequeue p x) fun p' h => by rwa [dequeue_pump] at h

/-- A pump that is not STARTING leaves its slot. -/
theorem leaveStarting (hx : SlotsHeld x) (hp : (x.pump p).state ≠ .starting) : SlotsHeld (leaveStarting p x) :=
  hx.of_holders fun p' h => ⟨h, fun f hb ho hr => by
    have hne : (x.feeder f).holder ≠ p := fun e => hp (e ▸ ho ▸ h)
    have e : (Machine.leaveStarting p x).feeder f = x.feeder f := by
      cases f <;> exact holderLeaves_of_ne hne
    rw [e]
    exact ⟨hb, ho, hr⟩⟩

/-- A free slot is taken by a pump that becomes STARTING. -/
theorem take {f : Feeder} (hx : SlotsHeld x) (hfree : (x.feeder f).busy = false)
    (hp : ∀ p' : Fin 32, p' ≠ p → (y.pump p').state = .starting → (x.pump p').state = .starting)
    (hf : (y.feeder f).busy = true ∧ (y.feeder f).holder = p ∧ (y.feeder f).released = false)
    (hg : ∀ g : Feeder, g ≠ f → (y.feeder g).busy = (x.feeder g).busy ∧ (y.feeder g).holder = (x.feeder g).holder ∧
      (y.feeder g).released = (x.feeder g).released) : SlotsHeld y := by
  intro p' h
  by_cases e : p' = p
  · exact ⟨f, e ▸ hf⟩
  · obtain ⟨g, hb, ho, hr⟩ := hx p' (hp p' e h)
    have hne : g ≠ f := fun e => by rw [e, hfree] at hb; cases hb
    obtain ⟨b, o, r⟩ := hg g hne
    exact ⟨g, b.trans hb, o.trans ho, r.trans hr⟩

end SlotsHeld

/-- A RUN made pending on a pump that becomes STARTING, with the slot that it takes. -/
def startedOn (v : View) (f : Feeder) (p : Fin 32) (g : Progress) (x : Plant) : Plant :=
  let y := (x.setPump p { (x.pump p).goto .starting with uncommanded := false }).makePending p .run g
  y.setFeeder f ((y.feeder f).take p v.now (v.tab.feeder f).spacing)

theorem grant_eq (v : View) (f : Feeder) (p : Fin 32) (x : Plant) :
    grant v f p x = handCommitted v.tab p (startedOn v f p .awaiting { x with queue := removeRequest p x.queue }) :=
  rfl

theorem manualRun_eq (v : View) (p : Fin 32) (x : Plant) :
    manualRun v p x = handCommitted v.tab p (startedOn v v.tab.t3[p].feeder p .inTransit x) := rfl

@[simp] theorem startedOn_feeder_same (v : View) (f : Feeder) (p : Fin 32) (g : Progress) (x : Plant) :
    (startedOn v f p g x).feeder f = (x.feeder f).take p v.now (v.tab.feeder f).spacing := by
  cases f <;> rfl

theorem startedOn_feeder_ne (v : View) {f f' : Feeder} (h : f' ≠ f) (p : Fin 32) (g : Progress) (x : Plant) :
    (startedOn v f p g x).feeder f' = x.feeder f' := by
  unfold startedOn
  rw [Plant.feeder_setFeeder_ne _ h]
  cases f' <;> rfl

@[simp] theorem startedOn_pump_same (v : View) (f : Feeder) (p : Fin 32) (g : Progress) (x : Plant) :
    (startedOn v f p g x).pump p = { ({ (x.pump p).goto .starting with uncommanded := false } : Pump).dropCmd with
      cmd := some ⟨.run, g, x.nextId⟩ } := by
  simp only [startedOn, Plant.pump_setFeeder, Plant.setPump_makePending]
  exact Plant.pump_setPump_same x p _

theorem startedOn_pump_ne (v : View) (f : Feeder) {p p' : Fin 32} (h : p' ≠ p) (g : Progress) (x : Plant) :
    (startedOn v f p g x).pump p' = x.pump p' := by
  simp only [startedOn, Plant.pump_setFeeder, Plant.setPump_makePending]
  exact Plant.pump_setPump_ne x h _

theorem SlotsHeld.startedOn {x : Plant} {f : Feeder} (hx : SlotsHeld x) (v : View) (p : Fin 32) (g : Progress)
    (hfree : (x.feeder f).busy = false) : SlotsHeld (startedOn v f p g x) :=
  hx.take (p := p) hfree (fun p' hp' h => by rwa [startedOn_pump_ne v f hp'] at h) (by simp [FeederLive.take])
    fun g' hg' => by rw [startedOn_feeder_ne v hg']; exact ⟨rfl, rfl, rfl⟩

/-- The elementary changes keep every STARTING pump its slot (R103). -/
theorem slotsHeld_kept (tab : Settings) : Kept tab SlotsHeld where
  events hx _ := hx.of_slotsFrom (.of_eq fun f => by cases f <;> rfl) fun _ => id
  nextId _ hx := hx.of_slotsFrom (.of_eq fun f => by cases f <;> rfl) fun _ => id
  shortfall _ hx _ := hx.of_slotsFrom (.of_eq fun f => by cases f <;> rfl) fun _ => id
  advice hx _ _ _ := hx.of_slotsFrom (.of_eq fun f => by cases f <;> rfl) fun _ => id
  spacing hx _ := hx.of_slotsFrom (.of_eq fun f => by cases f <;> rfl) fun _ => id
  quiet hx hq := hx.setPump fun h => hq.state ▸ h
  report hx hs _ := (hx.setPump fun h => hs ▸ h).handCommitted tab _
  move {x p q'} hx _ hs _ := by
    have hl : SlotsHeld (x.leaveQueue p) := by
      unfold Plant.leaveQueue
      split
      · exact hx.dequeue p
      · exact hx
    exact (hl.setPump fun h => absurd h hs).handCommitted tab p
  leave {x p q'} hx _ hs _ := by
    have hl : SlotsHeld (x.leaveQueue p) := by
      unfold Plant.leaveQueue
      split
      · exact hx.dequeue p
      · exact hx
    exact ((hl.setPump fun h => absurd h hs).leaveStarting (by simpa using hs)).handCommitted tab p
  enqueue {x p} v hv hx _ := by
    have hy : SlotsHeld (x.setPump p ((x.pump p).goto .queued)) := hx.setPump fun h => nomatch h
    have hz := hy.of_slotsFrom (.enterRequest v p _) fun p' h => by rwa [enterRequest_pump] at h
    exact hz.handCommitted v.tab p
  record _ _ _ hx _ := hx.of_slotsFrom (.of_eq fun f => by cases f <;> rfl) fun _ => id
  updateStages _ hx := hx.of_slotsFrom (.of_eq fun f => by cases f <;> rfl) fun _ => id
  manualRun v hv hx _ hf := by
    subst hv
    rw [manualRun_eq]
    exact (hx.startedOn v _ _ hf).handCommitted v.tab _
  grant {x f e} v hv hx hf _ := by
    rw [grant_eq]
    have hy : SlotsHeld { x with queue := removeRequest e.pump x.queue } := hx.of_slotsFrom (.setQueue _ _) fun _ => id
    exact (hy.startedOn v e.pump _ ((Plant.feeder_setQueue ..).symm ▸ hf)).handCommitted v.tab _
  mapQueue hx _ := hx.of_slotsFrom (.setQueue _ _) fun _ => id
  scanDue {x f} b hx := hx.of_holders fun p h => ⟨by simpa using h, fun g hb ho hr => by
    by_cases hg : g = f
    · subst hg; simpa using ⟨hb, ho, hr⟩
    · rw [Plant.feeder_setFeeder_ne x hg]; exact ⟨hb, ho, hr⟩⟩
  spacingExpires {x f} hx := hx.of_holders fun p h => ⟨by simpa using h, fun g hb ho hr => by
    by_cases hg : g = f
    · subst hg
      rw [Plant.feeder_setFeeder_same]
      simpa [FeederLive.spacingExpires, hr] using ⟨hb, ho⟩
    · rw [Plant.feeder_setFeeder_ne x hg]; exact ⟨hb, ho, hr⟩⟩
  escalate v r _ hx := hx.of_slotsFrom (.escalate v r _) fun p h => by rwa [escalate_pump] at h

/-! ### The completion of a TABLE_WRITE in its phases (R165 step 5) -/

/-- The pump records and the committed power as the Pump Sequencer's completion of a write leaves them, before its
reconciliations. -/
def pumpsWritten (old : Settings) (rows : List Row) (v : View) (x : Plant) : Plant :=
  let z := (writtenSlots rows).foldl (rescan old v.tab)
    ((writtenSlots rows).foldl (lowerRetries v.tab) (slots.foldl (slotWrite old v.tab) x))
  if touches rows 2 || touches rows 3 then recommit v.tab .b (recommit v.tab .a z) else z

theorem pumpWrite_eq (old : Settings) (rows : List Row) (v : View) (x : Plant) :
    pumpWrite old rows v x = reconcileAll v
      (stagesOf ((writtenSlots rows).filter (limitEnded old v.tab (pumpsWritten old rows v x))))
      (pumpsWritten old rows v x) := rfl

namespace Kept

variable {v : View} {I : Plant → Prop} {x : Plant}

theorem lostPoints (h : Kept v.tab I) (old : Settings) (p : Fin 32) (hx : I x) : I (lostPoints old v x p) := by
  unfold Machine.lostPoints
  have ha : I (if pointLost old v.tab 3 p then Machine.warnReport v p false x else x) := by
    split
    · exact h.warnReport false hx
    · exact hx
  generalize (if pointLost old v.tab 3 p then Machine.warnReport v p false x else x) = a at ha
  have hb : I (if pointLost old v.tab 4 p then Machine.localReport v p false a else a) := by
    split
    · exact h.localReport false ha
    · exact ha
  dsimp only
  split
  · exact h.tripReport false hb
  · exact hb

theorem arbiterWrite (h : Kept v.tab I) (rows : List Row) (hx : I x) : I (arbiterWrite rows v x) := by
  unfold Machine.arbiterWrite
  have ha : I (if touchesEntry rows 4 0 then x.markScan .a else x) := by
    split
    · exact h.markScan .a hx
    · exact hx
  generalize (if touchesEntry rows 4 0 then x.markScan .a else x) = a at ha
  have hb : I (if touchesEntry rows 4 1 then a.markScan .b else a) := by
    split
    · exact h.markScan .b ha
    · exact ha
  dsimp only
  split
  · exact h.markScan .b (h.markScan .a (h.mapQueue hb fun _ => ⟨rfl, rfl, rfl⟩))
  · exact hb

/-- The Demand Unit's completion of a write, where the values of a stage whose enabled flag changes are kept. -/
theorem demandWrite (h : Kept v.tab I) (old : Settings) (rows : List Row)
    (blank : ∀ {x : Plant} (k : Fin 8), I x → old.t2[k].enabled ≠ v.tab.t2[k].enabled →
      I (x.setStage k (blankStage .tableWrite))) (hx : I x) : I (demandWrite old rows v x) := by
  refine List.foldlRecOn _ _ (List.foldlRecOn _ _ hx fun y hy k _ => ?_) fun y hy k _ => h.evaluate _ hy
  unfold stageWrite
  split
  · exact hy
  · exact blank k hy ‹_›

end Kept

section Write

variable {rows : List Row} {new : Settings} {s : Part}

/-- The scheduling records after the calendar's part of a write: a minute boundary that is due is taken first
(log 10). -/
theorem applyWrite_boundary {I : Plant → Prop} (h : Kept s.tab I) (hs : I s.plant) :
    I (if touches rows 5 || touches rows 6 then settlePart (boundaryEvent s) else s).plant := by
  have hb : I (boundaryEvent s).plant ∧ (boundaryEvent s).tab = s.tab := by
    unfold boundaryEvent
    dsimp only
    split_ifs
    · exact ⟨hs, rfl⟩
    · exact ⟨Kept.evaluateAll (v := { s.view with cls := classAt s.tab s.cal }) h _ hs, rfl⟩
    · exact ⟨hs, rfl⟩
  split
  · have hk : Kept (boundaryEvent s).view.tab I := by rw [show (boundaryEvent s).view.tab = s.tab from hb.2]; exact h
    exact hk.settle hb.1
  · exact hs

/-- A property of the scheduling records that escalations and the raising of events keep is kept by the reservoirs'
completion of a write. -/
theorem reservoirWrite_plant {M : Plant → Prop} (old : Settings) (r : Fin 10)
    (esc : ∀ {x : Plant} (v : View) (r : Fin 10), v.tab = s.tab → M x → M (escalate v r x))
    (ev : ∀ {x : Plant} (e : Event), M x → M (x.raise e)) (hs : M s.plant) :
    M (reservoirWrite old s r).plant := by
  have hand : ∀ (a b : ResState) (l : ResLive), M (handState r a b (s.setLevel r l)).plant := by
    intro a b l
    unfold handState
    have ht : M (if b = .lowAlarm ∧ a ≠ .lowAlarm then (s.setLevel r l).onPlant fun v => escalate v r
        else s.setLevel r l).plant := by
      split
      · exact esc _ r rfl hs
      · exact hs
    dsimp only
    split
    · exact ev _ ht
    · exact ht
  unfold reservoirWrite
  dsimp only
  split
  · exact hs
  · split
    · exact hs
    · split
      · exact hand _ _ _
      · exact hs

@[simp] theorem handState_tab (r : Fin 10) (a b : ResState) (t : Part) : (handState r a b t).tab = t.tab := by
  unfold handState; dsimp only; split_ifs <;> rfl

@[simp] theorem reservoirWrite_tab (old : Settings) (t : Part) (r : Fin 10) :
    (reservoirWrite old t r).tab = t.tab := by
  unfold reservoirWrite; dsimp only; split_ifs <;> simp

@[simp] theorem foldl_reservoirWrite_tab (old : Settings) (rs : List (Fin 10)) (t : Part) :
    (rs.foldl (reservoirWrite old) t).tab = t.tab :=
  List.foldlRecOn (motive := fun u : Part => u.tab = t.tab) rs _ rfl fun _ hu _ _ => by simp [hu]

end Write

/-- The completion of a write on the scheduling records, phase by phase: `M` holds once the tables are stored, `N` from
the pump records' completion on, and `K` at the end. -/
theorem applyWrite_plant {rows : List Row} {new : Settings} {s : Part} {M N K : Plant → Prop}
    (hN : Kept new N)
    (store : M (storeTables new
      (if touches rows 5 || touches rows 6 then settlePart (boundaryEvent s) else s)).plant)
    (esc : ∀ {x : Plant} (v : View) (r : Fin 10), v.tab = new → M x → M (escalate v r x))
    (ev : ∀ {x : Plant} (e : Event), M x → M (x.raise e))
    (pump : ∀ {x : Plant} (v : View), v.tab = new → M x → N (pumpsWritten s.tab rows v x))
    (demand : ∀ {x : Plant} (v : View), v.tab = new → N x → K (demandWrite s.tab rows v x)) :
    K (applyWrite rows new s).plant := by
  unfold applyWrite
  dsimp only
  generalize (if touches rows 5 || touches rows 6 then settlePart (boundaryEvent s) else s) = s0 at store ⊢
  have h1 : M ((writtenReservoirs rows).foldl (reservoirWrite s.tab) (storeTables new s0)).plant ∧
      ((writtenReservoirs rows).foldl (reservoirWrite s.tab) (storeTables new s0)).tab = new :=
    List.foldlRecOn (motive := fun t : Part => M t.plant ∧ t.tab = new) _ _ ⟨store, rfl⟩ fun t ht r _ =>
      ⟨reservoirWrite_plant s.tab r (fun v r hv => esc v r (hv.trans ht.2)) ev ht.1, by simp [ht.2]⟩
  generalize (writtenReservoirs rows).foldl (reservoirWrite s.tab) (storeTables new s0) = s1 at h1 ⊢
  obtain ⟨hm, rfl⟩ := h1
  have h2 : N (s1.onPlant (pumpWrite s.tab rows)).plant :=
    hN.toKeptByReconcile.reconcileAll (v := s1.view) _ (pump s1.view rfl hm)
  have h3 : N (if touches rows 0 then (s1.onPlant (pumpWrite s.tab rows)).onPlant fun v x =>
      slots.foldl (lostPoints s.tab v) x else s1.onPlant (pumpWrite s.tab rows)).plant ∧
      (if touches rows 0 then (s1.onPlant (pumpWrite s.tab rows)).onPlant fun v x =>
        slots.foldl (lostPoints s.tab v) x else s1.onPlant (pumpWrite s.tab rows)).tab = s1.tab := by
    split
    · exact ⟨List.foldlRecOn _ _ h2 fun x hx p _ => Kept.lostPoints (v := s1.view) hN s.tab p hx, rfl⟩
    · exact ⟨h2, rfl⟩
  generalize (if touches rows 0 then (s1.onPlant (pumpWrite s.tab rows)).onPlant fun v x =>
      slots.foldl (lostPoints s.tab v) x else s1.onPlant (pumpWrite s.tab rows)) = s3 at h3 ⊢
  have h4 : N (if touches rows 9 then quietWrite s.tab.t9.quietTime s1.tab.t9.quietTime s3 else s3).plant ∧
      (if touches rows 9 then quietWrite s.tab.t9.quietTime s1.tab.t9.quietTime s3 else s3).tab = s1.tab := by
    unfold quietWrite
    split_ifs <;> exact h3
  generalize (if touches rows 9 then quietWrite s.tab.t9.quietTime s1.tab.t9.quietTime s3 else s3) = s4 at h4 ⊢
  have h5 : N (settlePart (s4.onPlant (arbiterWrite rows))).plant := by
    have hN4 : Kept s4.view.tab N := by rw [show s4.view.tab = s1.tab from h4.2]; exact hN
    exact Kept.settle (v := s4.view) hN4 (hN4.arbiterWrite rows h4.1)
  have h5t : (settlePart (s4.onPlant (arbiterWrite rows))).tab = s1.tab := h4.2
  generalize settlePart (s4.onPlant (arbiterWrite rows)) = s5 at h5 h5t ⊢
  split
  · exact demand _ h5t h5
  · exact demand _ h5t h5

/-! ### The records after a reset -/

/-- A pump record after a reset (R56, R59). -/
theorem resetPlant_pump (tab : Settings) (w : Events) (p : Fin 32) :
    (resetPlant tab w).pump p = if assigned tab p then freshPump tab.t3[p] else unassignedPump tab.t3[p] := by
  simp [resetPlant, resetPumps, Plant.pump]

/-- No pump is STARTING or QUEUED after a reset. -/
theorem resetPlant_state (tab : Settings) (w : Events) (p : Fin 32) :
    ((resetPlant tab w).pump p).state = if assigned tab p then .unseen else .off := by
  rw [resetPlant_pump]; split <;> rfl

theorem resetPlant_slotsHeld (tab : Settings) (w : Events) : SlotsHeld (resetPlant tab w) := by
  intro p hp
  rw [resetPlant_state] at hp
  split at hp <;> cases hp

/-- The scheduling records after power-on are those of a reset. -/
theorem powerOnEvent_plant (straps : Straps) (s : Part) :
    ∃ (tab : Settings) (w : Events), (powerOnEvent straps s).plant = resetPlant tab w := by
  unfold powerOnEvent
  dsimp only
  split <;> exact ⟨_, _, rfl⟩

/-- The scheduling records after the RESET input: as they were, or those of a reset. -/
theorem resetInputEvent_plant (phase : ResetPhase) (s : Part) :
    (resetInputEvent phase s).plant = s.plant ∨
      ∃ (tab : Settings) (w : Events), (resetInputEvent phase s).plant = resetPlant tab w := by
  unfold resetInputEvent
  split
  · split <;> exact .inl rfl
  · split
    · exact .inl rfl
    · exact .inr ⟨_, _, rfl⟩
    · exact .inl rfl

/-- The scheduling records after a loss of power: as they were without power, or those of a part without power. -/
theorem powerLossEvent_plant (s : Part) : (powerLossEvent s).plant = s.plant ∨ (powerLossEvent s).plant = {} := by
  unfold powerLossEvent
  split
  · exact .inl rfl
  · exact .inr rfl

/-- The pump records of a part without power. -/
theorem unpowered_pump (p : Fin 32) : ({} : Plant).pump p = {} := by simp [Plant.pump]

theorem unpowered_slotsHeld : SlotsHeld {} := fun p hp => by
  rw [unpowered_pump] at hp
  cases hp

/-! ### Every step keeps the slots held -/

/-- A write's completion on one pump record keeps the slots held. -/
theorem SlotsHeld.slotWrite {x : Plant} (hx : SlotsHeld x) (old new : Settings) (p : Fin 32) :
    SlotsHeld (slotWrite old new x p) := by
  unfold Machine.slotWrite
  split
  · exact hx
  · split
    · exact (hx.dequeue p).setPump fun h => nomatch h
    · have hd := hx.dequeue p
      refine hd.of_holders fun p' h => ?_
      rw [Plant.pump_setPump] at h
      split at h
      · cases h
      · next hne =>
        refine ⟨h, fun f hb ho hr => ?_⟩
        have e : ((Machine.leaveStarting p (Machine.dequeue p x)).setPump p (unassignedPump new.t3[p])).feeder f =
            (Machine.dequeue p x).feeder f := by
          cases f <;> exact holderLeaves_of_ne (ho.trans_ne hne)
        rw [e]
        exact ⟨hb, ho, hr⟩

theorem SlotsHeld.pumpsWritten {x : Plant} (hx : SlotsHeld x) (old : Settings) (rows : List Row) (v : View) :
    SlotsHeld (pumpsWritten old rows v x) := by
  have h1 := List.foldlRecOn (motive := SlotsHeld) slots (Machine.slotWrite old v.tab) hx fun _ hy p _ =>
    hy.slotWrite old v.tab p
  have h2 := List.foldlRecOn (motive := SlotsHeld) (writtenSlots rows) (lowerRetries v.tab) h1 fun _ hy p _ =>
    hy.setPump id
  have h3 := List.foldlRecOn (motive := SlotsHeld) (writtenSlots rows) (rescan old v.tab) h2 fun y hy p _ => by
    unfold rescan
    split
    · split
      · exact (slotsHeld_kept v.tab).markScan _ hy
      · exact hy
    · exact hy
  have recommitted : ∀ (f : Feeder) {y : Plant}, SlotsHeld y → SlotsHeld (recommit v.tab f y) := fun f y hy =>
    hy.of_slotsFrom (.recommit v.tab f y) fun p h => by rwa [recommit_pump] at h
  unfold Machine.pumpsWritten
  dsimp only
  split
  · exact recommitted .b (recommitted .a h3)
  · exact h3

/-- A step of the timebase leaves the scheduling records. -/
theorem advance_plant (s : Part) : (advance s).plant = s.plant := by unfold advance; rfl

theorem slotsHeld_keptByStep : KeptByStep fun s => SlotsHeld s.plant where
  plant s := slotsHeld_kept s.tab
  line hs _ := hs
  level hs _ := hs
  clock hs _ := hs
  mgmt hs _ := hs
  pins _ _ _ hs := hs
  free _ hs := hs
  advance hs := (advance_plant _).symm ▸ hs
  write {s rows new _} hs _ := by
    have hk := slotsHeld_kept new
    refine applyWrite_plant (M := SlotsHeld) (N := SlotsHeld) (K := SlotsHeld) hk ?_ (fun v r hv => hk.escalate v r hv)
      (fun e hx => hk.events hx fun hn => hn.raise e) (fun v _ hx => hx.pumpsWritten _ _ v) fun v hv hx => ?_
    · exact (applyWrite_boundary (slotsHeld_kept s.tab) hs).of_slotsFrom (.setQueue _ _) fun _ => id
    · subst hv
      exact hk.demandWrite _ _ (fun k hy _ => hy.of_slotsFrom (.of_eq fun f => by cases f <;> rfl) fun _ => id) hx
  restart _ _ := resetPlant_slotsHeld _ _
  powerOn {s} straps _ := by
    obtain ⟨tab, w, e⟩ := powerOnEvent_plant straps s
    exact e ▸ resetPlant_slotsHeld tab w
  resetInput {s} phase hs := by
    obtain e | ⟨tab, w, e⟩ := resetInputEvent_plant phase s
    · exact e ▸ hs
    · exact e ▸ resetPlant_slotsHeld tab w
  powerLoss {s} hs := by
    obtain e | e := powerLossEvent_plant s
    · exact e ▸ hs
    · exact e ▸ unpowered_slotsHeld

/-- Settles O35: `SlotsHeld` is kept by the elementary changes, by the completion of a TABLE_WRITE and by resets. -/
theorem stepKeepsSlots : Obligations.StepKeepsSlots := fun _ _ => slotsHeld_keptByStep.step

end Sys2Proof.Machine
end

section
/-!
PROOFS. The judgement of a TABLE_WRITE as its tables' judgements taken in order (R165 step 4): the tables that it
passes, table by table.
-/

namespace Sys2Proof.Machine

/-- A judgement continued passes where both parts pass. -/
theorem Verdict.andThen_eq_passed {α β : Type} {x : Verdict α} {f : α → Bool → Verdict β} {b : β} {c : Bool} :
    x.andThen f = .passed b c ↔ ∃ a d, x = .passed a d ∧ f a d = .passed b c := by
  cases x with
  | refused => simp [Verdict.andThen]
  | passed a d => exact ⟨fun h => ⟨a, d, rfl, h⟩, fun ⟨_, _, he, h⟩ => by cases he; exact h⟩

/-- The judgement of a table that the request may leave unwritten. -/
theorem ite_passed_iff {α : Type} {b : Bool} {v : Verdict α} {old a : α} {c : Bool} :
    (if b then v else .passed old false) = .passed a c ↔ if b then v = .passed a c else a = old ∧ c = false := by
  split
  · rfl
  · simp [eq_comm]

/-- The tables of a judgement that passes: each written table as its own judgement gives it, every other as it
stands. -/
theorem judge_passed {s : Part} {rows : List Row} {new : Settings} {clamped : Bool}
    (h : judge s rows = .passed new clamped) :
    ∃ c0 c1 c2 c3 c4 c5 c6 c7 c8 c9 : Bool,
      clamped = (c0 || c1 || c2 || c3 || c4 || c5 || c6 || c7 || c8 || c9) ∧
      (if touches rows 0 then judgeT0 s.tab rows = .passed new.t0 c0 else new.t0 = s.tab.t0 ∧ c0 = false) ∧
      (if touches rows 1 then judgeT1 s.tab rows = .passed new.t1 c1 else new.t1 = s.tab.t1 ∧ c1 = false) ∧
      (if touches rows 2 then judgeT2 s.tab rows = .passed new.t2 c2 else new.t2 = s.tab.t2 ∧ c2 = false) ∧
      (if touches rows 3 then judgeT3 s rows = .passed new.t3 c3 else new.t3 = s.tab.t3 ∧ c3 = false) ∧
      (if touches rows 4 then judgeT4 s.tab rows = .passed (new.t4a, new.t4b) c4
        else new.t4a = s.tab.t4a ∧ new.t4b = s.tab.t4b ∧ c4 = false) ∧
      (if touches rows 5 || touches rows 6 then judgeT5 s.tab rows = .passed new.t5 c5 ∧
          judgeT6 s.tab new.t5 rows = .passed new.t6 c6
        else new.t5 = s.tab.t5 ∧ c5 = false ∧ new.t6 = s.tab.t6 ∧ c6 = false) ∧
      (if touches rows 7 then judgeT7 s.tab rows = .passed new.t7 c7 else new.t7 = s.tab.t7 ∧ c7 = false) ∧
      (if touches rows 8 then judgeT8 s.tab rows = .passed new.t8 c8 else new.t8 = s.tab.t8 ∧ c8 = false) ∧
      (if touches rows 9 then judgeT9 s rows = .passed new.t9 c9 else new.t9 = s.tab.t9 ∧ c9 = false) ∧
      new.t14 = newT14 s.tab rows := by
  simp only [judge, Verdict.andThen_eq_passed, ite_passed_iff, Verdict.passed.injEq] at h
  obtain ⟨t0, c0, h0, t1, c1, h1, t2, c2, h2, t3, c3, h3, t4, c4, h4, t5, c5, h5, t6, c6, h6, t7, c7, h7, t8, c8, h8,
    t9, c9, h9, rfl, rfl⟩ := h
  refine ⟨c0, c1, c2, c3, c4, c5, c6, c7, c8, c9, rfl, h0, h1, h2, h3, ?_, ?_, h7, h8, h9, rfl⟩
  · split at h4 <;> simp_all
  · split at h5 <;> simp_all

/-- A table that the request does not write stands: T2 and T3 (R165). -/
theorem judge_untouched {s : Part} {rows : List Row} {new : Settings} {clamped : Bool}
    (h : judge s rows = .passed new clamped) :
    (touches rows 2 = false → new.t2 = s.tab.t2) ∧ (touches rows 3 = false → new.t3 = s.tab.t3) := by
  obtain ⟨_, _, c2, c3, _, _, _, _, _, _, _, _, _, h2, h3, _⟩ := judge_passed h
  constructor
  · intro e; simp only [e, Bool.false_eq_true, if_false] at h2; exact h2.1
  · intro e; simp only [e, Bool.false_eq_true, if_false] at h3; exact h3.1

end Sys2Proof.Machine
end

section
/-!
PROOFS. The start queue: the order of the class ranks (R97 to R99), the entry ranks (R96) and the agreement with the
QUEUED pumps, as properties of the list of requests that the queue's own operations keep.
-/

namespace Sys2Proof.Machine

/-! ### The order of the class ranks -/

/-- The requests stand in the order of the class ranks (R98). -/
def ClassSorted (code : Nat) (q : List Request) : Prop :=
  q.Pairwise fun a b => classRank code a.cls ≤ classRank code b.cls

theorem queueSorted_iff (tab : Settings) (x : Plant) : QueueSorted tab x ↔ ClassSorted tab.t9.classOrder x.queue :=
  Iff.rfl

theorem upToRank_append_belowRank (code r : Nat) (q : List Request) : upToRank code r q ++ belowRank code r q = q :=
  List.takeWhile_append_dropWhile

theorem rank_le_of_mem_upToRank {code r : Nat} {q : List Request} {e : Request} (h : e ∈ upToRank code r q) :
    classRank code e.cls ≤ r := by
  simpa using List.mem_takeWhile_imp h

theorem lt_rank_of_mem_belowRank {code r : Nat} {q : List Request} (hq : ClassSorted code q) {e : Request}
    (h : e ∈ belowRank code r q) : r < classRank code e.cls := by
  induction q with
  | nil => cases h
  | cons a q ih =>
    obtain ⟨ha, hq⟩ := List.pairwise_cons.1 hq
    by_cases hr : classRank code a.cls ≤ r
    · rw [belowRank, List.dropWhile_cons_of_pos (by simpa using hr)] at h
      exact ih hq h
    · rw [belowRank, List.dropWhile_cons_of_neg (by simpa using hr)] at h
      rcases List.mem_cons.1 h with rfl | h
      · exact Nat.lt_of_not_le hr
      · exact Nat.lt_of_lt_of_le (Nat.lt_of_not_le hr) (ha e h)

/-- Requests of one class set at the end of their rank keep the order (R97, R99). -/
theorem ClassSorted.placeAtEnd {code : Nat} {c : ReqClass} {new q : List Request} (hq : ClassSorted code q)
    (hn : ∀ e ∈ new, e.cls = c) : ClassSorted code (placeAtEnd code c new q) := by
  unfold ClassSorted Machine.placeAtEnd
  have hsplit := hq
  rw [ClassSorted, ← upToRank_append_belowRank code (classRank code c) q, List.pairwise_append] at hsplit
  obtain ⟨hup, hbelow, _⟩ := hsplit
  refine List.pairwise_append.2 ⟨List.pairwise_append.2 ⟨hup, ?_, ?_⟩, hbelow, ?_⟩
  · exact List.pairwise_of_forall_mem_list fun a ha b hb => by rw [hn a ha, hn b hb]
  · exact fun a ha b hb => hn b hb ▸ rank_le_of_mem_upToRank ha
  · intro a ha b hb
    have hb' := Nat.le_of_lt (lt_rank_of_mem_belowRank hq hb)
    rcases List.mem_append.1 ha with ha | ha
    · exact Nat.le_trans (rank_le_of_mem_upToRank ha) hb'
    · exact hn a ha ▸ hb'

/-- A change of the requests that keeps their classes keeps the order. -/
theorem ClassSorted.map {code : Nat} {q : List Request} {g : Request → Request} (hq : ClassSorted code q)
    (hg : ∀ e, (g e).cls = e.cls) : ClassSorted code (q.map g) :=
  List.pairwise_map.2 (hq.imp fun h => by rwa [hg, hg])

theorem ClassSorted.filter {code : Nat} {q : List Request} (hq : ClassSorted code q) (f : Request → Bool) :
    ClassSorted code (q.filter f) := List.Pairwise.filter f hq

/-- The request that leaves, and what its leaving does to the rest (R96). -/
def lowerRank (r : Request) (e : Request) : Request := if r.rank < e.rank then { e with rank := e.rank - 1 } else e

@[simp] theorem lowerRank_pump (r e : Request) : (lowerRank r e).pump = e.pump := by unfold lowerRank; split <;> rfl
@[simp] theorem lowerRank_cls (r e : Request) : (lowerRank r e).cls = e.cls := by unfold lowerRank; split <;> rfl
@[simp] theorem lowerRank_feeder (r e : Request) : (lowerRank r e).feeder = e.feeder := by
  unfold lowerRank; split <;> rfl

theorem lowerRank_eq (r e : Request) :
    lowerRank r e = { e with rank := if r.rank < e.rank then e.rank - 1 else e.rank } := by
  unfold lowerRank; split <;> rfl

theorem removeRequest_of_none {p : Fin 32} {q : List Request} (h : requestOf p q = none) : removeRequest p q = q := by
  simp [removeRequest, h]

theorem removeRequest_of_some {p : Fin 32} {q : List Request} {r : Request} (h : requestOf p q = some r) :
    removeRequest p q = (q.filter fun e => e.pump != p).map (lowerRank r) := by
  simp only [removeRequest, h]; rfl

theorem ClassSorted.removeRequest {code : Nat} {q : List Request} (hq : ClassSorted code q) (p : Fin 32) :
    ClassSorted code (removeRequest p q) := by
  cases h : requestOf p q with
  | none => rwa [removeRequest_of_none h]
  | some r => rw [removeRequest_of_some h]; exact (hq.filter _).map (lowerRank_cls r)

/-- A re-sort gives the order of the ranks of its code (R98). -/
theorem resort_classSorted (code : Nat) (q : List Request) : ClassSorted code (resort code q) := by
  have part : ∀ n : Nat, ∀ e ∈ q.filter (fun e => classRank code e.cls == n), classRank code e.cls = n :=
    fun n e he => by simpa using List.of_mem_filter he
  have own : ∀ n : Nat, ClassSorted code (q.filter fun e => classRank code e.cls == n) := fun n =>
    List.pairwise_of_forall_mem_list fun a ha b hb => by rw [part n a ha, part n b hb]
  refine List.pairwise_append.2 ⟨List.pairwise_append.2 ⟨own 0, own 1, fun a ha b _ => ?_⟩, own 2, fun a ha b hb => ?_⟩
  · rw [part 0 a ha]; exact Nat.zero_le _
  · rw [part 2 b hb]
    exact Nat.lt_succ_iff.1 (classRank_lt_three code a.cls)

/-- Requests of one class keep their order at a re-sort (R98). -/
theorem resort_filter_cls (code : Nat) (q : List Request) (c : ReqClass) :
    (resort code q).filter (fun e => e.cls == c) = q.filter fun e => e.cls == c := by
  have part : ∀ n : Nat, (q.filter fun e => classRank code e.cls == n).filter (fun e => e.cls == c) =
      if classRank code c = n then q.filter fun e => e.cls == c else [] := by
    intro n
    rw [List.filter_filter]
    split
    · next h => exact List.filter_congr fun e _ => by by_cases hc : e.cls = c <;> simp [hc, h]
    · next h => exact List.filter_eq_nil_iff.2 fun e _ => by by_cases hc : e.cls = c <;> simp [hc, h]
  have h3 := classRank_lt_three code c
  simp only [resort, List.filter_append, part]
  obtain h | h | h : classRank code c = 0 ∨ classRank code c = 1 ∨ classRank code c = 2 := by omega
  all_goals simp [h]

/-! ### Entry, removal and escalation -/

theorem enterRequest_queue (v : View) (p : Fin 32) (x : Plant) :
    (enterRequest v p x).queue = placeAtEnd v.tab.t9.classOrder (newRequest v p x).cls [newRequest v p x] x.queue := by
  simp [enterRequest]

theorem dequeue_queue (p : Fin 32) (x : Plant) : (dequeue p x).queue = removeRequest p x.queue := by
  cases h : requestOf p x.queue with
  | none => simp [dequeue, h, removeRequest_of_none h]
  | some r => simp [dequeue, h]

/-- The request of a pump, where its pump is in the queue once (R96). -/
theorem requestOf_eq_some {p : Fin 32} {q : List Request} {r : Request} (hr : r ∈ q) (hp : r.pump = p)
    (hn : (q.map Request.pump).Nodup) : requestOf p q = some r := by
  cases h : requestOf p q with
  | none => simpa [hp] using List.find?_eq_none.1 h r hr
  | some r' =>
    have hp' : r'.pump = p := by simpa using List.find?_some h
    exact congrArg some (List.inj_on_of_nodup_map hn (List.mem_of_find?_eq_some h) hr (hp'.trans hp.symm))

theorem requestOf_eq_none {p : Fin 32} {q : List Request} (h : ∀ e ∈ q, e.pump ≠ p) : requestOf p q = none :=
  List.find?_eq_none.2 fun e he => by simpa using h e he

theorem dequeue_of_some {p : Fin 32} {x : Plant} {r : Request} (h : requestOf p x.queue = some r) :
    dequeue p x = { x with queue := (x.queue.filter fun e : Request => e.pump != p).map (lowerRank r) }.markScan r.feeder := by
  unfold dequeue
  simp only [h, removeRequest_of_some h]

theorem dequeue_of_none {p : Fin 32} {x : Plant} (h : requestOf p x.queue = none) : dequeue p x = x := by
  simp [dequeue, h]

/-- The scans that a run of requests asks for (R99, R100). -/
theorem foldl_markScan_eq (l : List Request) (x : Plant) : l.foldl (fun z e => z.markScan e.feeder) x =
    { x with
      feedA := { x.feedA with scanDue := x.feedA.scanDue || l.any fun e => e.feeder == .a }
      feedB := { x.feedB with scanDue := x.feedB.scanDue || l.any fun e => e.feeder == .b } } := by
  induction l generalizing x with
  | nil => simp
  | cons e l ih =>
    rw [List.foldl_cons, ih]
    have hab : (Feeder.a == Feeder.b) = false := rfl
    have hba : (Feeder.b == Feeder.a) = false := rfl
    cases hf : e.feeder <;> simp [Plant.markScan, Plant.setFeeder, Plant.feeder, hf, hab, hba]

theorem escalate_queue (v : View) (r : Fin 10) (x : Plant) : (escalate v r x).queue =
    placeAtEnd v.tab.t9.classOrder .recover ((x.queue.filter (escalates v.tab r)).map fun e => { e with cls := .recover })
      (x.queue.filter fun e => !escalates v.tab r e) := by
  simp only [escalate, foldl_markScan_eq]

theorem ClassSorted.escalate {v : View} {r : Fin 10} {x : Plant} (h : ClassSorted v.tab.t9.classOrder x.queue) :
    ClassSorted v.tab.t9.classOrder (escalate v r x).queue := by
  rw [escalate_queue]
  refine (h.filter _).placeAtEnd fun e he => ?_
  obtain ⟨_, _, rfl⟩ := List.mem_map.1 he
  rfl

/-- Settles O33, from the placing of requests at the end of their rank, the removal of one and the re-sort. -/
theorem queueStaysSorted : Obligations.QueueStaysSorted := by
  refine ⟨fun v p x h => ⟨?_, ?_⟩, fun v r x h => ClassSorted.escalate h, fun code q =>
    ⟨resort_classSorted code q, resort_filter_cls code q⟩, by decide, ?_, fun p x => ⟨?_, ?_⟩, ?_⟩
  · rw [queueSorted_iff, enterRequest_queue]
    exact ClassSorted.placeAtEnd h fun e he => by rw [List.mem_singleton.1 he]
  · rw [queueSorted_iff, dequeue_queue]
    exact ClassSorted.removeRequest h p
  · intro v p x d new h hd hnew
    obtain rfl : new = newRequest v p x := by subst hd; exact hnew
    refine ⟨_, _, (upToRank_append_belowRank v.tab.t9.classOrder (classRank v.tab.t9.classOrder
      (newRequest v p x).cls) x.queue).symm, fun e he => rank_le_of_mem_upToRank he,
      fun e he => lt_rank_of_mem_belowRank h he, ?_⟩
    simp only [enterRequest, placeAtEnd, List.append_assoc, List.singleton_append]
  · exact fun h => dequeue_of_none (requestOf_eq_none h)
  · intro r hr hp hn
    rw [dequeue_of_some (requestOf_eq_some hr hp hn)]
    simp only [funext (lowerRank_eq r)]
  · intro v r x y moves h hm hy
    obtain rfl : escalates v.tab r = moves := funext fun e => by
      rw [Bool.eq_iff_iff, hm]
      simp [escalates, and_assoc]
    subst hy
    refine ⟨escalate_pumps v r x, ?_, ?_, ?_, fun f => ?_, _, _, (upToRank_append_belowRank v.tab.t9.classOrder
      (classRank v.tab.t9.classOrder .recover) _).symm, fun e he => rank_le_of_mem_upToRank he,
      fun e he => lt_rank_of_mem_belowRank (ClassSorted.filter h _) he, escalate_queue v r x⟩
    · simp only [escalate, foldl_markScan_eq]
    · simp only [escalate, foldl_markScan_eq]
    · simp only [escalate, foldl_markScan_eq]
    · cases f <;> simp [escalate, foldl_markScan_eq, List.any_filter, Function.comp_def]

/-! ### The queue and the QUEUED pumps -/

/-- A queue of requests in order that holds the QUEUED pumps, each once, with the entry ranks 1 to their number. -/
structure QueueOf (code : Nat) (queued : Fin 32 → Prop) (q : List Request) : Prop where
  mem : ∀ p, (∃ e ∈ q, e.pump = p) ↔ queued p
  once : (q.map Request.pump).Nodup
  sorted : ClassSorted code q
  ranks : (q.map Request.rank).Nodup
  bound : ∀ e ∈ q, 1 ≤ e.rank ∧ e.rank ≤ q.length

/-- What every step keeps of the start queue, as a property of the list. -/
theorem queueOf_iff (tab : Settings) (x : Plant) :
    QueueOf tab.t9.classOrder (fun p => (x.pump p).state = .queued) x.queue ↔
      QueueAgrees x ∧ QueueSorted tab x ∧ QueueRanked x :=
  ⟨fun h => ⟨⟨h.mem, h.once⟩, h.sorted, h.ranks, h.bound⟩,
    fun ⟨⟨mem, once⟩, sorted, ranks, bound⟩ => ⟨mem, once, sorted, ranks, bound⟩⟩

namespace QueueOf

variable {code : Nat} {queued queued' : Fin 32 → Prop} {q q' : List Request}

theorem congr (h : QueueOf code queued q) (hq : ∀ p, queued' p ↔ queued p) : QueueOf code queued' q :=
  { h with mem := fun p => (h.mem p).trans (hq p).symm }

/-- A queue with the same pumps and ranks in another order. -/
theorem of_perm {code' : Nat} (h : QueueOf code queued q) (hs : ClassSorted code' q')
    (hp : (q'.map fun e => (e.pump, e.rank)).Perm (q.map fun e => (e.pump, e.rank))) : QueueOf code' queued q' := by
  have pumps : (q'.map Request.pump).Perm (q.map Request.pump) := by simpa [Function.comp_def] using hp.map Prod.fst
  have ranks : (q'.map Request.rank).Perm (q.map Request.rank) := by simpa [Function.comp_def] using hp.map Prod.snd
  have len : q'.length = q.length := by simpa using hp.length_eq
  refine ⟨fun p => ?_, pumps.nodup_iff.2 h.once, hs, ranks.nodup_iff.2 h.ranks, fun e he => ?_⟩
  · rw [← h.mem]
    simpa using pumps.mem_iff (a := p)
  · obtain ⟨e', he', hr⟩ := List.mem_map.1 (ranks.mem_iff.1 (List.mem_map_of_mem he))
    rw [← hr, len]
    exact h.bound e' he'

theorem map {g : Request → Request} (h : QueueOf code queued q)
    (hg : ∀ e, (g e).pump = e.pump ∧ (g e).cls = e.cls ∧ (g e).rank = e.rank) : QueueOf code queued (q.map g) :=
  h.of_perm (h.sorted.map fun e => (hg e).2.1) (by simp [Function.comp_def, fun e => (hg e).1, fun e => (hg e).2.2])

theorem resort (h : QueueOf code queued q) (code' : Nat) : QueueOf code' queued (resort code' q) := by
  refine h.of_perm (resort_classSorted code' q) (List.Perm.map _ ?_)
  have part : ∀ n : Nat, ∀ a : Request, (q.filter fun e => classRank code' e.cls == n).count a =
      if classRank code' a.cls = n then q.count a else 0 := by
    intro n a
    split
    · next h => exact List.count_filter (by simpa using h)
    · next h => exact List.count_eq_zero.2 fun hm => h (by simpa using List.of_mem_filter hm)
  refine List.perm_iff_count.2 fun a => ?_
  have h3 := classRank_lt_three code' a.cls
  simp only [Machine.resort, List.count_append, part]
  obtain h | h | h : classRank code' a.cls = 0 ∨ classRank code' a.cls = 1 ∨ classRank code' a.cls = 2 := by omega
  all_goals simp [h]

theorem placeAtEnd_perm (code : Nat) (c : ReqClass) (new q : List Request) :
    (placeAtEnd code c new q).Perm (new ++ q) := by
  have h : (upToRank code (classRank code c) q ++ new ++ belowRank code (classRank code c) q).Perm
      (new ++ upToRank code (classRank code c) q ++ belowRank code (classRank code c) q) :=
    List.Perm.append_right _ List.perm_append_comm
  rwa [List.append_assoc new, upToRank_append_belowRank] at h

theorem escalate {v : View} {x : Plant} (h : QueueOf v.tab.t9.classOrder queued x.queue) (r : Fin 10) :
    QueueOf v.tab.t9.classOrder queued (escalate v r x).queue := by
  refine h.of_perm (ClassSorted.escalate h.sorted) ?_
  rw [escalate_queue]
  refine ((placeAtEnd_perm _ _ _ _).map _).trans ?_
  simp only [List.map_append, List.map_map, Function.comp_def]
  rw [← List.map_append]
  exact (List.filter_append_perm _ _).map _

/-- The request of a pump leaves the queue (R96, R106). -/
theorem remove (h : QueueOf code queued q) (p : Fin 32) :
    QueueOf code (fun p' => p' ≠ p ∧ queued p') (removeRequest p q) := by
  cases hr : requestOf p q with
  | none =>
    rw [removeRequest_of_none hr]
    refine h.congr fun p' => ⟨fun h' => h'.2, fun hq => ⟨?_, hq⟩⟩
    rintro rfl
    obtain ⟨e, he, hp⟩ := (h.mem p').2 hq
    simpa [hp] using List.find?_eq_none.1 hr e he
  | some r =>
    have hmem := List.mem_of_find?_eq_some hr
    have hp : r.pump = p := by simpa using List.find?_some hr
    have other : ∀ e ∈ q, e.pump ≠ p → e.rank ≠ r.rank := fun e he hne heq =>
      hne (hp ▸ congrArg Request.pump (List.inj_on_of_nodup_map h.ranks he hmem heq))
    have len : (q.filter fun e => e.pump != p).length + 1 = q.length := by
      have hc : (q.map Request.pump).count p = 1 :=
        List.count_eq_one_of_mem h.once (List.mem_map.2 ⟨r, hmem, hp⟩)
      have hcp : q.countP (fun e => e.pump == p) = 1 := by
        rwa [List.count, List.countP_map] at hc
      have hs := List.length_eq_countP_add_countP (fun e : Request => e.pump == p) (l := q)
      rw [hcp] at hs
      rw [← List.countP_eq_length_filter, hs, Nat.add_comm]
      congr 1
      exact List.countP_congr fun e _ => by simp
    rw [removeRequest_of_some hr]
    refine ⟨fun p' => ?_, ?_, (h.sorted.filter _).map (lowerRank_cls r), ?_, fun e he => ?_⟩
    · rw [← h.mem p']
      constructor
      · rintro ⟨e, he, rfl⟩
        obtain ⟨e', he', rfl⟩ := List.mem_map.1 he
        rw [lowerRank_pump]
        exact ⟨by simpa using List.of_mem_filter he', e', List.mem_of_mem_filter he', rfl⟩
      · rintro ⟨hne, e, he, rfl⟩
        exact ⟨lowerRank r e, List.mem_map_of_mem (List.mem_filter.2 ⟨he, by simpa using hne⟩), by simp⟩
    · have e : ((q.filter fun e => e.pump != p).map (lowerRank r)).map Request.pump =
          (q.filter fun e => e.pump != p).map Request.pump := by simp [Function.comp_def]
      rw [e]
      exact h.once.sublist (List.filter_sublist.map _)
    · rw [List.map_map]
      refine List.Nodup.map_on (fun a ha b hb hab => ?_) ((h.ranks.of_map).filter _)
      have ha' := List.mem_filter.1 ha
      have hb' := List.mem_filter.1 hb
      have na := other a ha'.1 (by simpa using ha'.2)
      have nb := other b hb'.1 (by simpa using hb'.2)
      refine List.inj_on_of_nodup_map h.ranks ha'.1 hb'.1 ?_
      simp only [Function.comp_apply, lowerRank_eq] at hab
      split_ifs at hab <;> omega
    · obtain ⟨e', he', rfl⟩ := List.mem_map.1 he
      have hf := List.mem_filter.1 he'
      have hn := other e' hf.1 (by simpa using hf.2)
      have hb := h.bound e' hf.1
      have hbr := h.bound r hmem
      rw [List.length_map, lowerRank_eq]
      dsimp only
      split_ifs <;> omega

/-- A request enters the queue with the last rank (R97). -/
theorem enter {r : Request} (h : QueueOf code queued q) (hr : r.rank = q.length + 1) (hq : ¬queued r.pump) :
    QueueOf code (fun p => p = r.pump ∨ queued p) (placeAtEnd code r.cls [r] q) := by
  have hperm : (placeAtEnd code r.cls [r] q).Perm (r :: q) := placeAtEnd_perm code r.cls [r] q
  have hnew : ∀ e ∈ q, e.pump ≠ r.pump := fun e he hp => hq ((h.mem r.pump).1 ⟨e, he, hp⟩)
  refine ⟨fun p => ?_, (hperm.map Request.pump).nodup_iff.2 ?_, h.sorted.placeAtEnd ?_,
    (hperm.map Request.rank).nodup_iff.2 ?_, fun e he => ?_⟩
  · simp only [hperm.mem_iff, List.mem_cons, exists_eq_or_imp, ← h.mem p]
    exact or_congr_left eq_comm
  · exact List.nodup_cons.2 ⟨fun hm => by
      obtain ⟨e, he, hp⟩ := List.mem_map.1 hm
      exact hnew e he hp, h.once⟩
  · exact fun e he => by rw [List.mem_singleton.1 he]
  · refine List.nodup_cons.2 ⟨fun hm => ?_, h.ranks⟩
    obtain ⟨e, he, hp⟩ := List.mem_map.1 hm
    have := h.bound e he
    omega
  · rw [hperm.length_eq, List.length_cons]
    rcases List.mem_cons.1 (hperm.mem_iff.1 he) with rfl | he
    · omega
    · have := h.bound e he
      omega

end QueueOf

end Sys2Proof.Machine
end

section
/-!
PROOFS. Every step keeps the start queue in agreement with the QUEUED pumps and the committed power equal to the sum of
R95.
-/

namespace Sys2Proof.Machine

/-! ### Two kept properties at once -/

theorem KeptByReconcile.and {tab : Settings} {I J : Plant → Prop} (h : KeptByReconcile tab I)
    (k : KeptByReconcile tab J) : KeptByReconcile tab fun x => I x ∧ J x where
  events hx hw := ⟨h.events hx.1 hw, k.events hx.2 hw⟩
  nextId n hx := ⟨h.nextId n hx.1, k.nextId n hx.2⟩
  shortfall b hx on := ⟨h.shortfall b hx.1 on, k.shortfall b hx.2 on⟩
  advice hx on ha hn := ⟨h.advice hx.1 on ha hn, k.advice hx.2 on ha hn⟩
  spacing hx on := ⟨h.spacing hx.1 on, k.spacing hx.2 on⟩
  quiet hx hq := ⟨h.quiet hx.1 hq, k.quiet hx.2 hq⟩
  report hx hs ok := ⟨h.report hx.1 hs ok, k.report hx.2 hs ok⟩
  move hx h1 h2 ok := ⟨h.move hx.1 h1 h2 ok, k.move hx.2 h1 h2 ok⟩
  leave hx h1 h2 ok := ⟨h.leave hx.1 h1 h2 ok, k.leave hx.2 h1 h2 ok⟩
  enqueue v hv hx ho := ⟨h.enqueue v hv hx.1 ho, k.enqueue v hv hx.2 ho⟩

theorem Kept.and {tab : Settings} {I J : Plant → Prop} (h : Kept tab I) (k : Kept tab J) :
    Kept tab fun x => I x ∧ J x where
  toKeptByReconcile := h.toKeptByReconcile.and k.toKeptByReconcile
  record v c hv hx on := ⟨h.record v c hv hx.1 on, k.record v c hv hx.2 on⟩
  updateStages m hx := ⟨h.updateStages m hx.1, k.updateStages m hx.2⟩
  manualRun v hv hx ho hf := ⟨h.manualRun v hv hx.1 ho hf, k.manualRun v hv hx.2 ho hf⟩
  grant v hv hx hf he := ⟨h.grant v hv hx.1 hf he, k.grant v hv hx.2 hf he⟩
  mapQueue hx hg := ⟨h.mapQueue hx.1 hg, k.mapQueue hx.2 hg⟩
  scanDue b hx := ⟨h.scanDue b hx.1, k.scanDue b hx.2⟩
  spacingExpires hx := ⟨h.spacingExpires hx.1, k.spacingExpires hx.2⟩
  escalate v r hv hx := ⟨h.escalate v r hv hx.1, k.escalate v r hv hx.2⟩

/-! ### The start queue -/

/-- The start queue as every step keeps it. -/
def QueueFine (tab : Settings) (x : Plant) : Prop :=
  QueueOf tab.t9.classOrder (fun p => (x.pump p).state = .queued) x.queue

namespace QueueFine

variable {tab : Settings} {x y : Plant} {p : Fin 32}

/-- Where the queue and the QUEUED pumps are the same. -/
theorem of_eq (h : QueueFine tab x) (hq : y.queue = x.queue)
    (hp : ∀ p, (y.pump p).state = .queued ↔ (x.pump p).state = .queued) : QueueFine tab y := by
  unfold QueueFine
  rw [hq]
  exact h.congr hp

/-- Where the request of a pump leaves, and that pump is then not QUEUED. -/
theorem of_remove (h : QueueFine tab x) (hq : y.queue = removeRequest p x.queue) (hp : (y.pump p).state ≠ .queued)
    (ho : ∀ p', p' ≠ p → y.pump p' = x.pump p') : QueueFine tab y := by
  unfold QueueFine
  rw [hq]
  refine (h.remove p).congr fun p' => ?_
  by_cases e : p' = p
  · subst e; simp [hp]
  · simp [e, ho p' e]

/-- A pump that is not QUEUED has no request. -/
theorem leaveQueue_queue (h : QueueFine tab x) (p : Fin 32) : (x.leaveQueue p).queue = removeRequest p x.queue := by
  unfold Plant.leaveQueue
  split
  · exact dequeue_queue p x
  · next hp =>
    exact (removeRequest_of_none (requestOf_eq_none fun e he hep => hp ((h.mem p).1 ⟨e, he, hep⟩))).symm

/-- A pump record written that leaves its pump QUEUED or not. -/
theorem setPump (h : QueueFine tab x) {q : Pump} (hq : q.state = (x.pump p).state) : QueueFine tab (x.setPump p q) :=
  h.of_eq rfl fun p' => by
    rw [Plant.pump_setPump]
    split
    · next e => rw [e, hq]
    · rfl

end QueueFine

theorem queueFine_kept (tab : Settings) : Kept tab (QueueFine tab) where
  events hx _ := hx.of_eq rfl fun _ => Iff.rfl
  nextId _ hx := hx.of_eq rfl fun _ => Iff.rfl
  shortfall _ hx _ := hx.of_eq rfl fun _ => Iff.rfl
  advice hx _ _ _ := hx.of_eq rfl fun _ => Iff.rfl
  spacing hx _ := hx.of_eq rfl fun _ => Iff.rfl
  quiet hx hq := hx.setPump hq.state
  report hx hs _ := (hx.setPump hs).of_eq (by simp) fun _ => by simp
  move {x p q'} hx h1 _ _ := hx.of_remove (p := p) (by simpa using hx.leaveQueue_queue p) (by simpa using h1)
    fun p' hp' => by simp [Plant.pump_setPump_ne _ hp']
  leave {x p q'} hx h1 _ _ := hx.of_remove (p := p) (by simpa using hx.leaveQueue_queue p) (by simpa using h1)
    fun p' hp' => by simp [Plant.pump_setPump_ne _ hp']
  enqueue {x p} v hv hx hoff := by
    subst hv
    have hnot : (x.pump p).state ≠ .queued := by simp [hoff]
    have he : QueueOf v.tab.t9.classOrder (fun p' => p' = p ∨ (x.pump p').state = .queued)
        (placeAtEnd v.tab.t9.classOrder (newRequest v p x).cls [newRequest v p x] x.queue) :=
      QueueOf.enter (r := newRequest v p x) hx rfl hnot
    have hq : (enqueue v p x).queue =
        placeAtEnd v.tab.t9.classOrder (newRequest v p x).cls [newRequest v p x] x.queue := by
      unfold enqueue
      rw [handCommitted_queue, enterRequest_queue]
      rfl
    unfold QueueFine
    rw [hq]
    refine he.congr fun p' => ?_
    unfold enqueue
    rw [handCommitted_pump, enterRequest_pump, Plant.pump_setPump]
    split
    · next e => simp [e]
    · next e => simp [e]
  record _ _ _ hx _ := hx.of_eq rfl fun _ => Iff.rfl
  updateStages _ hx := hx.of_eq rfl fun _ => Iff.rfl
  manualRun {x p} v _ hx hoff _ := hx.of_eq (by rw [manualRun_eq]; simp [startedOn, Plant.makePending]) fun p' => by
    rw [manualRun_eq, handCommitted_pump]
    by_cases e : p' = p
    · subst e; simp [hoff]
    · rw [startedOn_pump_ne _ _ e]
  grant {x f e} v _ hx _ he := by
    have hq : (grant v f e.pump x).queue = removeRequest e.pump x.queue := by
      rw [grant_eq]; simp [startedOn, Plant.makePending]
    refine hx.of_remove hq (by rw [grant_eq]; simp) fun p' hp' => ?_
    rw [grant_eq, handCommitted_pump, startedOn_pump_ne _ _ hp']
    rfl
  mapQueue hx hg := hx.map hg
  scanDue _ hx := hx.of_eq (by simp) fun _ => by simp
  spacingExpires hx := hx.of_eq (by simp) fun _ => by simp
  escalate {x} v r hv hx := by
    subst hv
    exact (QueueOf.escalate hx r).congr fun p => by simp

/-! ### The committed power -/

/-- The sum of R95 turns on the pumps that count alone. -/
theorem committedPower_congr {tab : Settings} {x y : Plant} {f : Feeder}
    (h : ∀ p, countsOn tab y f p = countsOn tab x f p) : committedPower tab y f = committedPower tab x f := by
  simp only [committedPower, funext h]

theorem committedPower_congr_pumps {tab : Settings} {x y : Plant} (f : Feeder) (h : ∀ p, y.pump p = x.pump p) :
    committedPower tab y f = committedPower tab x f := committedPower_congr fun p => by simp only [countsOn, h p]

theorem recommit_feeder_ne (tab : Settings) {f g : Feeder} (h : g ≠ f) (x : Plant) :
    (recommit tab f x).feeder g = x.feeder g := Plant.feeder_setFeeder_ne x h _

theorem powerAgrees_iff {tab : Settings} {x : Plant} :
    PowerAgrees tab x ↔ ∀ f, (x.feeder f).committed = committedPower tab x f :=
  ⟨fun h f => by cases f; exacts [h.1, h.2], fun h => ⟨h .a, h .b⟩⟩

namespace PowerAgrees

variable {tab : Settings} {x y : Plant} {p : Fin 32}

theorem of_eq (h : PowerAgrees tab x) (hc : ∀ f, (y.feeder f).committed = (x.feeder f).committed)
    (hp : ∀ p, (y.pump p).committed = (x.pump p).committed) : PowerAgrees tab y := by
  rw [powerAgrees_iff] at h ⊢
  intro f
  rw [hc, h]
  exact (committedPower_congr fun p => by simp only [countsOn, hp p]).symm

/-- The hand-on of a pump whose record alone has changed (R60). -/
theorem handCommitted (h : PowerAgrees tab x) (hc : ∀ f, (y.feeder f).committed = (x.feeder f).committed)
    (ho : ∀ p', p' ≠ p → y.pump p' = x.pump p') : PowerAgrees tab (handCommitted tab p y) := by
  rw [powerAgrees_iff] at h ⊢
  intro f
  have hy : committedPower tab (Machine.handCommitted tab p y) f = committedPower tab y f :=
    committedPower_congr_pumps f fun p' => handCommitted_pump ..
  by_cases e : f = tab.t3[p].feeder
  · rw [hy, e]
    exact recommit_committed ..
  · rw [hy, Machine.handCommitted, recommit_feeder_ne tab e, hc, h]
    refine (committedPower_congr fun p' => ?_).symm
    by_cases hp : p' = p
    · subst hp
      have hne : (tab.t3[p'].feeder == f) = false := beq_false_of_ne (Ne.symm e)
      simp only [countsOn, hne, Bool.and_false, Bool.false_and]
    · simp only [countsOn, ho p' hp]

/-- Both feeders recomputed. -/
theorem recommit (tab : Settings) (x : Plant) : PowerAgrees tab (recommit tab .b (recommit tab .a x)) := by
  have e : ∀ f, committedPower tab (Machine.recommit tab .b (Machine.recommit tab .a x)) f = committedPower tab x f :=
    fun f => committedPower_congr_pumps f fun p => by simp
  refine powerAgrees_iff.2 fun f => ?_
  rw [e]
  cases f
  · rw [recommit_feeder_ne tab (by decide)]
    exact recommit_committed ..
  · rw [recommit_committed]
    exact committedPower_congr_pumps _ fun p => by simp

end PowerAgrees

@[simp] theorem leaveStarting_committed (p : Fin 32) (x : Plant) (f : Feeder) :
    ((leaveStarting p x).feeder f).committed = (x.feeder f).committed := by
  have h : ∀ l : FeederLive, (l.holderLeaves p).committed = l.committed := fun l => by
    unfold FeederLive.holderLeaves FeederLive.release; split_ifs <;> rfl
  cases f <;> exact h _

@[simp] theorem markScan_committed (g : Feeder) (x : Plant) (f : Feeder) :
    ((x.markScan g).feeder f).committed = (x.feeder f).committed := by
  cases f <;> cases g <;> rfl

@[simp] theorem dequeue_committed (p : Fin 32) (x : Plant) (f : Feeder) :
    ((dequeue p x).feeder f).committed = (x.feeder f).committed := by
  unfold dequeue
  split
  · rfl
  · rw [markScan_committed, Plant.feeder_setQueue]

@[simp] theorem enterRequest_committed (v : View) (p : Fin 32) (x : Plant) (f : Feeder) :
    ((enterRequest v p x).feeder f).committed = (x.feeder f).committed := by
  unfold enterRequest
  rw [markScan_committed, Plant.feeder_setQueue]

@[simp] theorem leaveQueue_committed (p : Fin 32) (x : Plant) (f : Feeder) :
    ((x.leaveQueue p).feeder f).committed = (x.feeder f).committed := by
  unfold Plant.leaveQueue; split <;> simp

@[simp] theorem startedOn_committed (v : View) (g : Feeder) (p : Fin 32) (pr : Progress) (x : Plant) (f : Feeder) :
    ((startedOn v g p pr x).feeder f).committed = (x.feeder f).committed := by
  by_cases e : f = g
  · subst e; rw [startedOn_feeder_same]; rfl
  · rw [startedOn_feeder_ne v e]

theorem escalate_committed (v : View) (r : Fin 10) (x : Plant) (f : Feeder) :
    ((escalate v r x).feeder f).committed = (x.feeder f).committed := by
  cases f <;> simp only [escalate, foldl_markScan_eq, Plant.feeder]

theorem setFeeder_committed {x : Plant} {f : Feeder} {l : FeederLive} (h : l.committed = (x.feeder f).committed)
    (g : Feeder) : ((x.setFeeder f l).feeder g).committed = (x.feeder g).committed := by
  by_cases e : g = f
  · subst e; rwa [Plant.feeder_setFeeder_same]
  · rw [Plant.feeder_setFeeder_ne x e]

theorem powerAgrees_kept (tab : Settings) : Kept tab (PowerAgrees tab) where
  events hx _ := hx.of_eq (fun f => by cases f <;> rfl) fun _ => rfl
  nextId _ hx := hx.of_eq (fun f => by cases f <;> rfl) fun _ => rfl
  shortfall _ hx _ := hx.of_eq (fun f => by cases f <;> rfl) fun _ => rfl
  advice hx _ _ _ := hx.of_eq (fun f => by cases f <;> rfl) fun _ => rfl
  spacing hx _ := hx.of_eq (fun f => by cases f <;> rfl) fun _ => rfl
  quiet {x p q'} hx hq := hx.of_eq (fun f => by simp) fun p' => by
    rw [Plant.pump_setPump]
    split
    · next e => subst e; simp only [Pump.committed, hq.state, hq.feedback]
    · rfl
  report hx _ _ := hx.handCommitted (fun f => by simp) fun p' hp' => Plant.pump_setPump_ne _ hp' _
  move hx _ _ _ := hx.handCommitted (fun f => by simp) fun p' hp' => by simp [Plant.pump_setPump_ne _ hp']
  leave hx _ _ _ := hx.handCommitted (fun f => by simp) fun p' hp' => by simp [Plant.pump_setPump_ne _ hp']
  enqueue {x p} v hv hx _ := by
    subst hv
    exact hx.handCommitted (fun f => by rw [enterRequest_committed, Plant.feeder_setPump]) fun p' hp' => by
      simp [Plant.pump_setPump_ne _ hp']
  record _ _ _ hx _ := hx.of_eq (fun f => by cases f <;> rfl) fun _ => rfl
  updateStages _ hx := hx.of_eq (fun f => by cases f <;> rfl) fun _ => rfl
  manualRun v hv hx _ _ := by
    subst hv
    rw [manualRun_eq]
    exact hx.handCommitted (fun f => by simp) fun p' hp' => startedOn_pump_ne _ _ hp' _ _
  grant {x f e} v hv hx _ _ := by
    subst hv
    rw [grant_eq]
    refine hx.handCommitted (fun f => ?_) fun p' hp' => startedOn_pump_ne _ _ hp' _ _
    rw [startedOn_committed, Plant.feeder_setQueue]
  mapQueue hx _ := hx.of_eq (fun f => by rw [Plant.feeder_setQueue]) fun _ => rfl
  scanDue _ hx := hx.of_eq (setFeeder_committed rfl) fun _ => by simp
  spacingExpires {x f} hx := hx.of_eq (setFeeder_committed (by
    unfold FeederLive.spacingExpires FeederLive.release; split <;> rfl)) fun _ => by simp
  escalate v r _ hx := hx.of_eq (escalate_committed v r _) fun _ => by simp

/-! ### The completion of a write -/

/-- What the writing of the tables leaves for the pump records' completion to restore: the committed power, where T2
or T3 is written. -/
def QueueWritten (rows : List Row) (new : Settings) (x : Plant) : Prop :=
  QueueFine new x ∧ (touches rows 2 = false → touches rows 3 = false → PowerAgrees new x)

theorem storeTables_queueFine {new : Settings} {s : Part} (h : QueueFine s.tab s.plant) :
    QueueFine new (storeTables new s).plant := by
  unfold QueueFine storeTables resortWritten
  dsimp only
  split
  · next e => rw [e]; exact h
  · exact h.resort _

/-- The sum of R95 turns on T2 and T3 alone of the tables. -/
theorem committedPower_tables {tab new : Settings} (h2 : new.t2 = tab.t2) (h3 : new.t3 = tab.t3) (x : Plant)
    (f : Feeder) : committedPower new x f = committedPower tab x f := by
  simp only [committedPower, funext fun p => show countsOn new x f p = countsOn tab x f p by
    simp only [countsOn, assigned, h2, h3], h3]

theorem QueueFine.slotWrite {tab : Settings} {x : Plant} (h : QueueFine tab x) (old new : Settings) (p : Fin 32) :
    QueueFine tab (slotWrite old new x p) := by
  unfold Machine.slotWrite
  split
  · exact h
  · split
    · exact h.of_remove (p := p) (dequeue_queue p x) (by simp [freshPump]) fun p' hp' => by
        simp [Plant.pump_setPump_ne _ hp']
    · exact h.of_remove (p := p) (dequeue_queue p x) (by simp [unassignedPump]) fun p' hp' => by
        simp [Plant.pump_setPump_ne _ hp']

/-- A row of a table is a row of the table that writes it. -/
theorem touches_of_touchesEntry {rows : List Row} {t i : Nat} (h : touchesEntry rows t i = true) :
    touches rows t = true := by
  simp only [touchesEntry, touches, List.any_eq_true, Bool.and_eq_true] at h ⊢
  obtain ⟨r, hr, ht, _⟩ := h
  exact ⟨r, hr, ht⟩

/-- Where neither T2 nor T3 is written no pump record is touched. -/
theorem pumpsWritten_untouched {old : Settings} {rows : List Row} {v : View} (h2 : touches rows 2 = false)
    (h3 : touches rows 3 = false) (e2 : v.tab.t2 = old.t2) (x : Plant) : pumpsWritten old rows v x = x := by
  have hw : writtenSlots rows = [] := List.filter_eq_nil_iff.2 fun p _ hp => by
    rw [touches_of_touchesEntry hp] at h3; cases h3
  have hs : slots.foldl (slotWrite old v.tab) x = x :=
    List.foldlRecOn (motive := fun y => y = x) slots _ rfl fun y hy p _ => by
      rw [hy, slotWrite, if_pos]
      simp only [assigned, e2]
  simp [pumpsWritten, h2, h3, hw, hs]

theorem pumpsWritten_agrees {old : Settings} {rows : List Row} {v : View} {x : Plant}
    (e2 : touches rows 2 = false → v.tab.t2 = old.t2) (h : QueueWritten rows v.tab x) :
    QueueFine v.tab (pumpsWritten old rows v x) ∧ PowerAgrees v.tab (pumpsWritten old rows v x) := by
  by_cases ht : (touches rows 2 || touches rows 3) = true
  · have h1 := List.foldlRecOn (motive := QueueFine v.tab) slots (slotWrite old v.tab) h.1 fun _ hy p _ =>
      hy.slotWrite old v.tab p
    have h2 := List.foldlRecOn (motive := QueueFine v.tab) (writtenSlots rows) (lowerRetries v.tab) h1
      fun _ hy p _ => hy.setPump rfl
    have h3 := List.foldlRecOn (motive := QueueFine v.tab) (writtenSlots rows) (rescan old v.tab) h2 fun y hy p _ => by
      unfold rescan
      split
      · split
        · exact (queueFine_kept v.tab).markScan _ hy
        · exact hy
      · exact hy
    unfold pumpsWritten
    dsimp only
    rw [if_pos ht]
    exact ⟨h3.of_eq (by simp) fun _ => by simp, PowerAgrees.recommit _ _⟩
  · simp only [Bool.or_eq_true, not_or, Bool.not_eq_true] at ht
    rw [pumpsWritten_untouched ht.1 ht.2 (e2 ht.1)]
    exact ⟨h.1, h.2 ht.1 ht.2⟩

/-! ### Every step -/

theorem agrees_iff (s : Part) : s.Agrees ↔ QueueFine s.tab s.plant ∧ PowerAgrees s.tab s.plant := by
  rw [QueueFine, queueOf_iff]
  unfold Part.Agrees
  tauto

@[simp] theorem boundaryEvent_tab (s : Part) : (boundaryEvent s).tab = s.tab := by
  unfold boundaryEvent; dsimp only; split_ifs <;> rfl

theorem applyWrite_tab (rows : List Row) (new : Settings) (s : Part) : (applyWrite rows new s).tab = new := by
  unfold applyWrite recomputeClass quietWrite
  dsimp only
  split_ifs <;> simp

/-- A step of the timebase writes no table but the run seconds (R57). -/
theorem advance_tables (s : Part) :
    (advance s).tab.t2 = s.tab.t2 ∧ (advance s).tab.t3 = s.tab.t3 ∧ (advance s).tab.t9 = s.tab.t9 := by
  unfold advance
  exact ⟨rfl, rfl, rfl⟩

theorem resetPlant_agrees (tab : Settings) (w : Events) :
    QueueFine tab (resetPlant tab w) ∧ PowerAgrees tab (resetPlant tab w) := by
  refine ⟨⟨fun p => ?_, List.nodup_nil, List.Pairwise.nil, List.nodup_nil, fun _ h => nomatch h⟩, ?_⟩
  · have hs : ((resetPlant tab w).pump p).state ≠ .queued := by rw [resetPlant_state]; split <;> simp
    exact ⟨fun ⟨_, he, _⟩ => (nomatch he), fun h => absurd h hs⟩
  · exact ⟨committedPower_congr_pumps .a fun _ => rfl, committedPower_congr_pumps .b fun _ => rfl⟩

/-- A part without power holds no request and commits nothing. -/
theorem unpowered_agrees : QueueFine {} {} ∧ PowerAgrees {} {} := by
  refine ⟨⟨fun p => ?_, List.nodup_nil, List.Pairwise.nil, List.nodup_nil, fun _ h => nomatch h⟩, ?_⟩
  · rw [unpowered_pump]
    exact ⟨fun ⟨_, he, _⟩ => (nomatch he), fun h => nomatch h⟩
  · refine powerAgrees_iff.2 fun f => ?_
    have h : slots.filter (countsOn {} {} f) = [] := List.filter_eq_nil_iff.2 fun p _ => by
      rw [countsOn, unpowered_pump]
      simp [Pump.committed]
    rw [committedPower, h]
    cases f <;> rfl

theorem agrees_keptByStep : KeptByStep fun s => QueueFine s.tab s.plant ∧ PowerAgrees s.tab s.plant where
  plant s := (queueFine_kept s.tab).and (powerAgrees_kept s.tab)
  line hs _ := hs
  level hs _ := hs
  clock hs _ := hs
  mgmt hs _ := hs
  pins _ _ _ hs := hs
  free _ hs := hs
  advance {s} hs := by
    rw [advance_plant]
    obtain ⟨e2, e3, e9⟩ := advance_tables s
    refine ⟨?_, powerAgrees_iff.2 fun f => ?_⟩
    · unfold QueueFine
      rw [e9]
      exact hs.1
    · rw [powerAgrees_iff.1 hs.2 f]
      exact (committedPower_tables e2 e3 _ f).symm
  write {s rows new _} hs hj := by
    obtain ⟨u2, u3⟩ := judge_untouched hj
    have h0 := applyWrite_boundary (rows := rows) ((queueFine_kept s.tab).and (powerAgrees_kept s.tab)) hs
    rw [applyWrite_tab]
    refine applyWrite_plant (M := QueueWritten rows new) (N := fun x => QueueFine new x ∧ PowerAgrees new x)
      (K := fun x => QueueFine new x ∧ PowerAgrees new x) ((queueFine_kept new).and (powerAgrees_kept new)) ⟨?_, ?_⟩
      (fun v r hv hx => ⟨(queueFine_kept new).escalate v r hv hx.1, fun a b =>
        (powerAgrees_kept new).escalate v r hv (hx.2 a b)⟩)
      (fun e hx => ⟨(queueFine_kept new).events hx.1 fun hn => hn.raise e, fun a b =>
        (powerAgrees_kept new).events (hx.2 a b) fun hn => hn.raise e⟩)
      (fun v hv hx => ?_) (fun v hv hx => ?_)
    · refine storeTables_queueFine ?_
      rw [show (if touches rows 5 || touches rows 6 then settlePart (boundaryEvent s) else s).tab = s.tab by
        split <;> simp]
      exact h0.1
    · intro a b
      refine powerAgrees_iff.2 fun f => ?_
      rw [committedPower_tables (u2 a) (u3 b)]
      generalize (if touches rows 5 || touches rows 6 then settlePart (boundaryEvent s) else s) = s0 at h0
      have hc : committedPower s.tab (storeTables new s0).plant f = committedPower s.tab s0.plant f :=
        committedPower_congr_pumps f fun _ => rfl
      rw [hc, ← powerAgrees_iff.1 h0.2 f]
      exact congrArg FeederLive.committed (Plant.feeder_setQueue ..)
    · subst hv
      exact pumpsWritten_agrees u2 hx
    · subst hv
      exact ((queueFine_kept v.tab).and (powerAgrees_kept v.tab)).demandWrite _ _
        (fun k hy _ => ⟨hy.1.of_eq rfl fun _ => Iff.rfl, hy.2.of_eq (fun f => by cases f <;> rfl) fun _ => rfl⟩) hx
  restart {s} straps _ := resetPlant_agrees s.tab {}
  powerOn {s} straps _ := by
    unfold powerOnEvent
    dsimp only
    split <;> exact resetPlant_agrees _ _
  resetInput {s} phase hs := by
    unfold resetInputEvent
    split
    · split <;> exact hs
    · split
      · exact hs
      · exact resetPlant_agrees _ _
      · exact hs
  powerLoss {s} hs := by
    unfold powerLossEvent
    split
    · exact hs
    · exact unpowered_agrees

/-- Settles O5: the queue and the committed power are kept by the elementary changes, by the completion of a
TABLE_WRITE, which recomputes the power where it writes T2 or T3, and by resets. -/
theorem stepKeepsQueueAndPower : Obligations.StepKeepsQueueAndPower := fun s t hs ht =>
  (agrees_iff t.part).2 (agrees_keptByStep.step ((agrees_iff s.part).1 hs) ht)

end Sys2Proof.Machine
end

section
/-!
PROOFS. Every step keeps the queues of the Line Interface within their capacities, the lines as the standing conditions
give them and the notice slot EMPTY while notices are disabled; and the standing conditions flag by flag (R122, R123).
-/

namespace Sys2Proof.Machine

/-! ### The queues and the notice slot -/

/-- The notice slot turns on the events alone. -/
theorem noticeFits_kept (tab : Settings) : Kept tab fun x => NoticeFits x.events where
  events hx hw := hw hx
  nextId _ hx := hx
  shortfall _ hx _ := hx
  advice hx _ _ _ := hx
  spacing hx _ := hx
  quiet hx _ := hx
  report hx _ _ := by simpa using hx
  move {x p _} hx _ _ _ := by
    have h : (x.leaveQueue p).events = x.events := by unfold Plant.leaveQueue; split <;> simp
    simpa [h] using hx
  leave {x p _} hx _ _ _ := by
    have h : (x.leaveQueue p).events = x.events := by unfold Plant.leaveQueue; split <;> simp
    simpa [h] using hx
  enqueue v _ hx _ := by simpa [enqueue, enterRequest] using hx
  record _ _ _ hx _ := hx
  updateStages _ hx := hx
  manualRun v _ hx _ _ := by simpa [manualRun, Plant.makePending] using hx
  grant v _ hx _ _ := by simpa [grant, Plant.makePending] using hx
  mapQueue hx _ := hx
  scanDue _ hx := by simpa using hx
  spacingExpires hx := by simpa using hx
  escalate v r _ hx := by simpa [escalate, foldl_markScan_eq] using hx

/-- A property that does not turn on the scheduling records. -/
theorem kept_const (tab : Settings) (c : Prop) : Kept tab fun _ => c where
  events hx _ := hx
  nextId _ hx := hx
  shortfall _ hx _ := hx
  advice hx _ _ _ := hx
  spacing hx _ := hx
  quiet hx _ := hx
  report hx _ _ := hx
  move hx _ _ _ := hx
  leave hx _ _ _ := hx
  enqueue _ _ hx _ := hx
  record _ _ _ hx _ := hx
  updateStages _ hx := hx
  manualRun _ _ hx _ _ := hx
  grant _ _ hx _ _ := hx
  mapQueue hx _ := hx
  scanDue _ hx := hx
  spacingExpires hx := hx
  escalate _ _ _ hx := hx

theorem slotWrite_events (old new : Settings) (x : Plant) (p : Fin 32) : (slotWrite old new x p).events = x.events := by
  unfold slotWrite; split_ifs <;> simp

theorem pumpsWritten_events (old : Settings) (rows : List Row) (v : View) (x : Plant) :
    (pumpsWritten old rows v x).events = x.events := by
  have h1 := List.foldlRecOn (motive := fun y : Plant => y.events = x.events) slots (slotWrite old v.tab) rfl
    fun _ hy p _ => (slotWrite_events ..).trans hy
  have h2 := List.foldlRecOn (motive := fun y : Plant => y.events = x.events) (writtenSlots rows) (lowerRetries v.tab)
    h1 fun _ hy p _ => hy
  have h3 := List.foldlRecOn (motive := fun y : Plant => y.events = x.events) (writtenSlots rows) (rescan old v.tab)
    h2 fun y hy p _ => by
      unfold rescan
      split
      · split
        · simpa using hy
        · exact hy
      · exact hy
  unfold pumpsWritten
  dsimp only
  split <;> simpa using h3

@[simp] theorem handState_line (r : Fin 10) (a b : ResState) (s : Part) : (handState r a b s).line = s.line := by
  unfold handState; dsimp only; split_ifs <;> rfl

@[simp] theorem handState_power (r : Fin 10) (a b : ResState) (s : Part) : (handState r a b s).power = s.power := by
  unfold handState; dsimp only; split_ifs <;> rfl

@[simp] theorem reservoirWrite_line (old : Settings) (s : Part) (r : Fin 10) :
    (reservoirWrite old s r).line = s.line := by
  unfold reservoirWrite; dsimp only; split_ifs <;> simp

@[simp] theorem reservoirWrite_power (old : Settings) (s : Part) (r : Fin 10) :
    (reservoirWrite old s r).power = s.power := by
  unfold reservoirWrite; dsimp only; split_ifs <;> simp

@[simp] theorem foldl_reservoirWrite_line (old : Settings) (rs : List (Fin 10)) (s : Part) :
    (rs.foldl (reservoirWrite old) s).line = s.line :=
  List.foldlRecOn (motive := fun u : Part => u.line = s.line) rs _ rfl fun _ hu _ _ => by simp [hu]

@[simp] theorem foldl_reservoirWrite_power (old : Settings) (rs : List (Fin 10)) (s : Part) :
    (rs.foldl (reservoirWrite old) s).power = s.power :=
  List.foldlRecOn (motive := fun u : Part => u.power = s.power) rs _ rfl fun _ hu _ _ => by simp [hu]

@[simp] theorem boundaryEvent_line (s : Part) : (boundaryEvent s).line = s.line := by
  unfold boundaryEvent; dsimp only; split_ifs <;> rfl

@[simp] theorem boundaryEvent_power (s : Part) : (boundaryEvent s).power = s.power := by
  unfold boundaryEvent; dsimp only; split_ifs <;> rfl

@[simp] theorem storeTables_power (new : Settings) (s : Part) : (storeTables new s).power = s.power := rfl

/-- A TABLE_WRITE leaves the queues of the Line Interface. -/
theorem applyWrite_queues (rows : List Row) (new : Settings) (s : Part) :
    (applyWrite rows new s).line.uQueue = s.line.uQueue ∧ (applyWrite rows new s).line.dQueue = s.line.dQueue ∧
      (applyWrite rows new s).line.mirrorQueue = s.line.mirrorQueue ∧
      (applyWrite rows new s).line.replyQueue = s.line.replyQueue := by
  unfold applyWrite recomputeClass quietWrite
  dsimp only
  split_ifs <;> simp

theorem applyWrite_power (rows : List Row) (new : Settings) (s : Part) : (applyWrite rows new s).power = s.power := by
  unfold applyWrite recomputeClass quietWrite
  dsimp only
  split_ifs <;> simp

theorem noEvents_fits : NoticeFits {} := by simp [NoticeFits]

theorem resetEvents_fits (store : Store) : NoticeFits (resetEvents store) := by
  unfold resetEvents
  split
  · exact noEvents_fits
  · exact noEvents_fits.raise _

/-- The queues of the Line Interface within their capacities, and the notice slot EMPTY while notices are disabled. -/
theorem queuesAndNotice_keptByStep : KeptByStep fun s => QueuesFit s.line ∧ NoticeFits s.plant.events where
  plant s := (kept_const s.tab (QueuesFit s.line)).and (noticeFits_kept s.tab)
  line hs hl := ⟨hl hs.1, hs.2⟩
  level hs _ := hs
  clock hs _ := hs
  mgmt hs _ := hs
  pins _ _ _ hs := hs
  free _ hs := hs
  advance {s} hs := by
    rw [advance_plant]
    exact ⟨by unfold advance; exact hs.1, hs.2⟩
  write {s rows new _} hs _ := by
    refine ⟨?_, ?_⟩
    · obtain ⟨e1, e2, e3, e4⟩ := applyWrite_queues rows new s
      rw [QueuesFit, e1, e2, e3, e4]
      exact hs.1
    · refine applyWrite_plant (M := fun x => NoticeFits x.events) (N := fun x => NoticeFits x.events)
        (K := fun x => NoticeFits x.events) (noticeFits_kept new)
        (applyWrite_boundary (rows := rows) (noticeFits_kept s.tab) hs.2)
        (fun v r hv hx => (noticeFits_kept new).escalate v r hv hx) (fun e hx => hx.raise e)
        (fun v _ hx => by rwa [pumpsWritten_events]) fun v hv hx => ?_
      subst hv
      exact (noticeFits_kept v.tab).demandWrite _ _ (fun _ hy _ => hy) hx
  restart {s} straps _ := ⟨by simp [managementRestart, resetLine, QueuesFit], noEvents_fits⟩
  powerOn {s} straps _ := by
    have hn := resetEvents_fits (breakSave s).mgmt.store
    unfold powerOnEvent
    dsimp only
    split
    · exact ⟨by simp [resetAssertEvent, QueuesFit], hn⟩
    · exact ⟨by simp [fullReset, resetLine, QueuesFit], hn⟩
  resetInput {s} phase hs := by
    unfold resetInputEvent
    split
    · split
      · exact ⟨by simp [resetAssertEvent, QueuesFit], hs.2⟩
      · exact hs
    · split
      · exact hs
      · exact ⟨by simp [fullReset, resetLine, QueuesFit], resetEvents_fits s.mgmt.store⟩
      · exact hs
  powerLoss {s} hs := by
    unfold powerLossEvent
    split
    · exact hs
    · exact ⟨by simp [QueuesFit], noEvents_fits⟩

/-! ### The lines -/

/-- The events of the running part leave it running. -/
theorem running_keptByEvents : KeptByEvents fun s => s.power = .on where
  plant s := kept_const s.tab (s.power = .on)
  line hs _ := hs
  level hs _ := hs
  clock hs _ := hs
  mgmt hs _ := hs
  pins _ _ _ hs := hs
  free _ hs := hs
  advance hs := by unfold advance; exact hs
  write hs _ := (applyWrite_power ..).trans hs
  restart _ hs := hs

theorem eventOf_power (c : Instr) {s : Part} (hs : s.power = .on) : (eventOf c s).power = .on :=
  running_keptByEvents.eventOf c hs

theorem resetAssertEvent_lines (s : Part) : LinesFollow (resetAssertEvent s) :=
  ⟨fun h => (nomatch h), fun _ => ⟨rfl, rfl⟩⟩

theorem off_lines {s : Part} {b : Bool} (h : s.power = .off b) : LinesFollow s :=
  ⟨fun h' => (by rw [h] at h'; cases h'), fun h' => (by rw [h] at h'; cases h')⟩

/-- Every command leaves lines that follow the conditions so. -/
theorem exec_lines {c : Instr} {s t : State} (hs : LinesFollow s.part) (ht : exec c s = .next t) :
    LinesFollow t.part := by
  by_cases hc : ofPower c = false
  · by_cases hp : s.part.power = .on
    · rw [exec_running hc hp] at ht
      cases ht
      exact driveLines_lines _ (eventOf_power c hp)
    · rw [exec_down hc hp] at ht
      cases ht
      exact hs
  · cases c
    case powerOn straps =>
      cases ht
      show LinesFollow (powerOnEvent straps s.part)
      unfold powerOnEvent
      dsimp only
      split
      · exact resetAssertEvent_lines _
      · exact driveLines_lines _ rfl
    case resetInput phase =>
      cases ht
      show LinesFollow (resetInputEvent phase s.part)
      unfold resetInputEvent
      split
      · split
        · exact resetAssertEvent_lines _
        · exact off_lines rfl
      · split
        · exact off_lines rfl
        · exact driveLines_lines _ rfl
        · exact hs
    case powerLoss =>
      cases ht
      show LinesFollow (powerLossEvent s.part)
      unfold powerLossEvent
      split
      · exact hs
      · exact off_lines rfl
    all_goals exact absurd rfl hc

/-! ### The standing conditions, flag by flag (R122) -/

theorem flagBit_getLsbD (b : Bool) {m : Nat} (hm : m < 16) (n : Nat) :
    (flagBit b m).getLsbD n = (b && decide (n = m)) := by
  unfold flagBit
  cases b
  · simp
  · rw [if_pos rfl, BitVec.getLsbD_shiftLeft]
    by_cases h : n = m
    · subst h; simp [hm]
    · by_cases hlt : n < m
      · simp [hlt, h]
      · have h0 : n - m ≠ 0 := by omega
        simp [h0, h]

/-- The nine conditions by their numbers. -/
def conditionStands (s : Part) : Nat → Bool
  | 0 => condPumpFault s
  | 1 => condStageOverride s
  | 2 => condReservoirAlarm s
  | 3 => condStoreInvalid s
  | 4 => condReservoirStale s
  | 5 => condPumpWarned s
  | 6 => condUplineLost s
  | 7 => condShortfall s
  | 8 => condOverBudget s
  | _ => false

theorem conditionSummary_getLsbD (s : Part) (n : Nat) : (conditionSummary s).getLsbD n = conditionStands s n := by
  unfold conditionSummary
  simp only [BitVec.getLsbD_or]
  rw [flagBit_getLsbD _ (by decide), flagBit_getLsbD _ (by decide), flagBit_getLsbD _ (by decide),
    flagBit_getLsbD _ (by decide), flagBit_getLsbD _ (by decide), flagBit_getLsbD _ (by decide),
    flagBit_getLsbD _ (by decide), flagBit_getLsbD _ (by decide), flagBit_getLsbD _ (by decide)]
  match n with
  | 0 | 1 | 2 | 3 | 4 | 5 | 6 | 7 | 8 => simp [conditionStands]
  | n + 9 => simp [conditionStands]

theorem actionable_iff (s : Part) : actionable s = true ↔ ∃ n, n ≤ 3 ∧ conditionStands s n = true := by
  simp only [actionable, Bool.or_eq_true]
  constructor
  · rintro (((h | h) | h) | h)
    exacts [⟨0, by decide, h⟩, ⟨1, by decide, h⟩, ⟨2, by decide, h⟩, ⟨3, by decide, h⟩]
  · rintro ⟨n, hn, h⟩
    match n, hn with
    | 0, _ | 1, _ | 2, _ | 3, _ => simp_all [conditionStands]

theorem reportOnly_iff (s : Part) : reportOnly s = true ↔ ∃ n, 4 ≤ n ∧ conditionStands s n = true := by
  simp only [reportOnly, Bool.or_eq_true]
  constructor
  · rintro ((((h | h) | h) | h) | h)
    exacts [⟨4, by decide, h⟩, ⟨5, by decide, h⟩, ⟨6, by decide, h⟩, ⟨7, by decide, h⟩, ⟨8, by decide, h⟩]
  · rintro ⟨n, hn, h⟩
    match n, hn with
    | 4, _ | 5, _ | 6, _ | 7, _ | 8, _ => simp_all [conditionStands]
    | n + 9, _ => cases h

theorem anyCondition_iff (s : Part) :
    (actionable s || reportOnly s) = true ↔ ∃ n, conditionStands s n = true := by
  rw [Bool.or_eq_true, actionable_iff, reportOnly_iff]
  constructor
  · rintro (⟨n, _, h⟩ | ⟨n, _, h⟩) <;> exact ⟨n, h⟩
  · rintro ⟨n, h⟩
    by_cases hn : n ≤ 3
    · exact .inl ⟨n, hn, h⟩
    · exact .inr ⟨n, by omega, h⟩

theorem exists_feeder {P : Feeder → Prop} : (∃ f, P f) ↔ P .a ∨ P .b :=
  ⟨fun ⟨f, h⟩ => by cases f; exacts [.inl h, .inr h], fun h => h.elim (⟨.a, ·⟩) (⟨.b, ·⟩)⟩

/-- Settles O3: the queues and the notice slot are kept by every elementary change, and every event ends with the
driving of the lines. -/
theorem stepKeepsSound : Obligations.StepKeepsSound := by
  refine ⟨fun s t hs ht => ?_, fun s stands hstands => ?_⟩
  · obtain ⟨hq, hl, hn⟩ := hs
    obtain ⟨hq', hn'⟩ := queuesAndNotice_keptByStep.step ⟨hq, hn⟩ ht
    refine ⟨hq', ?_, hn'⟩
    unfold step at ht
    split at ht
    · cases ht; exact hl
    · next c rest _ => exact exec_lines (s := { s with pending := rest }) hl ht
  · have hc : ∀ n, stands n ↔ conditionStands s n = true := by
      intro n
      rw [hstands n]
      match n with
      | 0 => simp [conditionStands, condPumpFault, slots, or_assoc]
      | 1 => simp [conditionStands, condStageOverride, stageList]
      | 2 => simp [conditionStands, condReservoirAlarm, reservoirList, and_assoc]
      | 3 => simp [conditionStands, condStoreInvalid]
      | 4 => simp [conditionStands, condReservoirStale, reservoirList, and_assoc]
      | 5 => simp [conditionStands, condPumpWarned, slots]
      | 6 => simp [conditionStands, condUplineLost]
      | 7 => simp [conditionStands, condShortfall, stageList]
      | 8 => simp [conditionStands, condOverBudget, exists_feeder, Settings.feeder]
      | n + 9 => simp [conditionStands]
    refine ⟨fun n => by rw [conditionSummary_getLsbD, hc], ?_, ?_⟩
    · unfold faultLevel
      cases ha : s.tab.t9.alertEnabled
      · simp only [Bool.false_eq_true, if_false, anyCondition_iff, hc, false_implies, and_true]
      · simp only [if_true, actionable_iff, hc, forall_const]
        exact exists_congr fun n => and_comm
    · unfold alertLevel
      rw [Bool.and_eq_true, anyCondition_iff]
      simp only [hc]

end Sys2Proof.Machine
end

section
/-!
PROOFS. The judgement of the tables that a TABLE_WRITE writes: each table's tests in order, what passes them, and
whether a value was clamped (R165 step 4).
-/

namespace Sys2Proof.Machine

/-! ### Tests made one after another -/

theorem firstFailure_eq_some {n : Nat} {bad : Fin n → Bool} {i : Fin n} :
    firstFailure bad = some i ↔ FirstOf (fun i => bad i = true) i := by
  rw [firstFailure, ← List.ofFn_id]
  exact List.find?_ofFn_eq_some_of_injective (f := id) Function.injective_id

theorem firstFailure_eq_none {n : Nat} {bad : Fin n → Bool} : firstFailure bad = none ↔ ∀ i, bad i = false := by
  simp [firstFailure]

theorem FirstOf.unique {n : Nat} {bad : Fin n → Prop} {i j : Fin n} (hi : FirstOf bad i) (hj : FirstOf bad j) :
    i = j := by
  rcases lt_trichotomy i j with h | h | h
  · exact absurd hi.1 (hj.2 i h)
  · exact h
  · exact absurd hj.1 (hi.2 j h)

section
variable {α : Type} {n : Nat} {v : Verdict α} {table : Nat} {pass : α → Bool → Prop} {r : Reason} {P : Fin n → Prop}
  {rest : List (Reason × (Fin n → Prop))} {bad : Fin n → Bool} {i : Fin n}

/-- A judgement whose first test fails names the first index that fails it. -/
theorem JudgedBy.refused (hi : firstFailure bad = some i) (hP : ∀ i, bad i = true ↔ P i) :
    JudgedBy (.refused r table i.val) table pass ((r, P) :: rest) := by
  have hi : FirstOf P i := by simpa only [hP] using firstFailure_eq_some.1 hi
  exact ⟨fun j hj => by rw [hi.unique hj], fun hno => absurd hi.1 (hno i)⟩

/-- A judgement whose first test no index fails goes on with the next. -/
theorem JudgedBy.next (hi : firstFailure bad = none) (hP : ∀ i, bad i = true ↔ P i)
    (h : JudgedBy v table pass rest) : JudgedBy v table pass ((r, P) :: rest) := by
  have hno : ∀ i, ¬P i := fun i hp => by
    have hb := firstFailure_eq_none.1 hi i
    rw [(hP i).2 hp] at hb
    cases hb
  exact ⟨fun j hj => absurd hj.1 (hno j), fun _ => h⟩

/-- A stronger account of what passes, given that every test is passed. -/
theorem JudgedBy.imp {pass' : α → Bool → Prop} {tests : List (Reason × (Fin n → Prop))}
    (h : JudgedBy v table pass tests) (hp : (∀ t ∈ tests, ∀ i, ¬t.2 i) → ∀ a c, pass a c → pass' a c) :
    JudgedBy v table pass' tests := by
  induction tests with
  | nil => exact let ⟨a, c, hv, ha⟩ := h; ⟨a, c, hv, hp (by simp) a c ha⟩
  | cons t tests ih =>
    refine ⟨h.1, fun hno => ih (h.2 hno) fun hrest => hp fun u hu => ?_⟩
    rcases List.mem_cons.1 hu with rfl | hu
    exacts [hno, hrest u hu]

end

/-- What a judgement that passes tells: no index fails a test, and what passes is as `pass` says. -/
theorem JudgedBy.of_passed {α : Type} {n : Nat} {v : Verdict α} {table : Nat} {pass : α → Bool → Prop}
    {tests : List (Reason × (Fin n → Prop))} {a : α} {c : Bool} (h : JudgedBy v table pass tests)
    (hv : v = .passed a c) : (∀ t ∈ tests, ∀ i, ¬t.2 i) ∧ pass a c := by
  induction tests with
  | nil =>
    obtain ⟨a', c', hv', hp⟩ := h
    cases hv.symm.trans hv'
    exact ⟨by simp, hp⟩
  | cons t tests ih =>
    obtain ⟨hrefuse, hpass⟩ := h
    have none : ∀ i, ¬t.2 i := by
      classical
      by_contra hex
      simp only [not_forall, not_not] at hex
      let good : Fin n → Bool := fun i => decide (t.2 i)
      cases hf : firstFailure good with
      | none => exact hex.elim fun i hi => by simpa [good, hi] using firstFailure_eq_none.1 hf i
      | some i =>
        have hi := firstFailure_eq_some.1 hf
        simp only [good, decide_eq_true_eq] at hi
        cases hv.symm.trans (hrefuse i hi)
    obtain ⟨hrest, hp⟩ := ih (hpass none)
    refine ⟨fun u hu => ?_, hp⟩
    rcases List.mem_cons.1 hu with rfl | hu
    exacts [none, hrest u hu]

/-! ### The written entries -/

/-- The entries of a table as they would stand after the write. -/
def writtenTable {α : Type} {n : Nat} (rows : List Row) (table : Nat) (of : List Word → α) (old : Vector α n) :
    Vector α n := Vector.ofFn fun i => asWritten rows table i.val of old[i]

@[simp] theorem writtenTable_get {α : Type} {n : Nat} (rows : List Row) (table : Nat) (of : List Word → α)
    (old : Vector α n) (i : Fin n) : (writtenTable rows table of old)[i] = asWritten rows table i.val of old[i] := by
  simp [writtenTable]

/-- An entry for which the request has a row fails a test of its words. -/
def rowFails (rows : List Row) (table index : Nat) (bad : List Word → Bool) : Bool :=
  match rowFor rows table index with
  | some ws => bad ws
  | none => false

theorem rowFails_iff {rows : List Row} {table index : Nat} {bad : List Word → Bool} :
    rowFails rows table index bad = true ↔ ∃ ws, rowFor rows table index = some ws ∧ bad ws = true := by
  unfold rowFails
  cases rowFor rows table index <;> simp

/-- The words written for an entry are those of a row of the request. -/
theorem rowFor_fits {rows : List Row} (hr : RowsFit rows) {table index : Nat} {ws : List Word}
    (h : rowFor rows table index = some ws) : ws.length = entryWords table ∧ takeFlags table ws = ws := by
  simp only [rowFor, Option.map_eq_some_iff] at h
  obtain ⟨r, hf, rfl⟩ := h
  have hm := List.mem_reverse.1 (List.mem_of_find?_eq_some hf)
  have ht := List.find?_some hf
  simp only [Bool.and_eq_true, beq_iff_eq] at ht
  rw [← ht.1]
  exact hr r hm

/-- A clamped value is told by the words that the entry as written gives back. -/
theorem clampedIn_iff {rows : List Row} {table : Nat} (n : Nat) (hn : n = tableSize table) (hr : RowsFit rows)
    {words : List Word → List Word} {out : List Word → Prop} {good : List Word → Prop}
    (hgood : ∀ (i : Fin n) (ws : List Word), rowFor rows table i.val = some ws → good ws)
    (hout : ∀ ws : List Word, ws.length = entryWords table → takeFlags table ws = ws → good ws →
      (words ws ≠ ws ↔ out ws)) :
    ((List.finRange n).any fun i => rowFails rows table i.val fun ws => words ws != ws) = true ↔
      ClampedIn rows table out := by
  simp only [List.any_eq_true, List.mem_finRange, true_and, rowFails_iff, bne_iff_ne, ClampedIn, ← hn]
  constructor
  · rintro ⟨i, ws, hrow, hne⟩
    obtain ⟨hl, hf⟩ := rowFor_fits hr hrow
    exact ⟨i.val, ws, i.isLt, hrow, (hout ws hl hf (hgood i ws hrow)).1 hne⟩
  · rintro ⟨i, ws, hi, hrow, ho⟩
    obtain ⟨hl, hf⟩ := rowFor_fits hr hrow
    exact ⟨⟨i, hi⟩, ws, hrow, (hout ws hl hf (hgood ⟨i, hi⟩ ws hrow)).2 ho⟩

/-! ### Words and numbers -/

@[simp] theorem natWord_toNat (w : Word) : natWord w.toNat = w := by simp [natWord]

theorem natWord_eq_iff {n : Nat} (h : n < 65536) (w : Word) : natWord n = w ↔ n = w.toNat := by
  constructor
  · rintro rfl
    simp only [natWord, BitVec.toNat_ofNat]
    omega
  · rintro rfl
    exact natWord_toNat w

/-- A word is left as it is by clamping exactly where it is within the range. -/
theorem natWord_clamp_eq_iff {lo hi : Nat} (w : Word) (h : lo ≤ hi) (hhi : hi < 65536) :
    natWord (clamp lo hi w.toNat) = w ↔ ¬outside lo hi w.toNat := by
  have hc : clamp lo hi w.toNat < 65536 := by unfold clamp; split_ifs <;> omega
  rw [natWord_eq_iff hc]
  unfold clamp outside
  split_ifs <;> omega

/-- A flag word taken as R165 states is the word of its flag. -/
theorem flagWord_eq {w : Word} (h : asFlag w = w) : flagWord (w.toNat != 0) = w := by
  unfold asFlag at h
  split at h
  · next h0 => subst h0; rfl
  · subst h; rfl

theorem outside_zero (hi n : Nat) : outside 0 hi n ↔ hi < n := by unfold outside; omega

end Sys2Proof.Machine
end

section
/-!
PROOFS. The tests of each table's judgement and the table that passes them (R2, R24, R25, R31, R54, R93, R141, R149,
R154, R161).
-/

namespace Sys2Proof.Machine

/-- A written entry whose words the clamping changes. -/
def clampedRow (rows : List Row) (table n : Nat) (words : List Word → List Word) : Bool :=
  (List.finRange n).any fun i => rowFails rows table i.val fun ws => words ws != ws

theorem firstRepeat_eq {n : Nat} (same : Fin n → Fin n → Bool) :
    firstRepeat same = firstFailure fun i => (List.finRange n).any fun j => decide (j.val < i.val) && same j i := rfl

theorem any_before_iff {n : Nat} {same : Fin n → Fin n → Bool} {P : Fin n → Fin n → Prop}
    (h : ∀ j i, same j i = true ↔ P j i) (i : Fin n) :
    ((List.finRange n).any fun j => decide (j.val < i.val) && same j i) = true ↔ ∃ j : Fin n, j < i ∧ P j i := by
  simp only [List.any_eq_true, List.mem_finRange, true_and, Bool.and_eq_true, decide_eq_true_eq, h, Fin.lt_def]

/-- The request's row for an entry, as the judgements read it, fails a test. -/
theorem rowBad_iff {rows : List Row} {table : Nat} {bad : List Word → Bool} {P : List Word → Prop}
    (h : ∀ ws, bad ws = true ↔ P ws) (index : Nat) :
    (match rowFor rows table index with | some ws => bad ws | none => false) = true ↔
      ∃ ws, rowFor rows table index = some ws ∧ P ws := by
  cases rowFor rows table index <;> simp [h]

/-! ### T0 (R141) -/

theorem PointEntry.outOfRange_iff (e : PointEntry) : e.outOfRange = true ↔ e.used = true ∧
    (outside 1 62 e.station ∨ 255 < e.point ∨ 4 < e.kind ∨ (if e.kind = 0 then 9 else 31) < e.target) := by
  simp only [PointEntry.outOfRange, outside, Bool.and_eq_true, Bool.or_eq_true, decide_eq_true_eq]
  by_cases hk : e.kind = 0 <;> simp [hk, or_assoc]

theorem PointEntry.raised_ne_iff (e : PointEntry) : e.raised ≠ e ↔ e.used = true ∧ e.span = 0 := by
  unfold PointEntry.raised
  split
  · next h =>
    simp only [h, and_self, iff_true, ne_eq]
    intro heq
    have := congrArg PointEntry.span heq
    simp [h.2] at this
  · next h => simp [h]

theorem judgeT0_judged (tab : Settings) (rows : List Row) (new : Fin 128 → PointEntry)
    (hnew : ∀ i : Fin 128, new i = asWritten rows 0 i.val pointOf tab.t0[i]) :
    JudgedBy (judgeT0 tab rows) 0
       (fun t clamped =>
         (∀ i : Fin 128, t[i] = if (new i).used = true ∧ (new i).span = 0 then { new i with span := 1 } else new i) ∧
         (clamped = true ↔ ∃ i : Fin 128, (new i).used = true ∧ (new i).span = 0))
       [(.badValue, fun i => (new i).used = true ∧ (outside 1 62 (new i).station ∨ 255 < (new i).point ∨
           4 < (new i).kind ∨ (if (new i).kind = 0 then 9 else 31) < (new i).target)),
        (.duplicateKey, fun i => ∃ j : Fin 128, j < i ∧ (new j).used = true ∧ (new i).used = true ∧
           (new j).station = (new i).station ∧ (new j).point = (new i).point),
        (.duplicateKey, fun i => ∃ j : Fin 128, j < i ∧ (new j).used = true ∧ (new i).used = true ∧
           (new j).kind = (new i).kind ∧ (new j).target = (new i).target)] := by
  unfold judgeT0
  extract_lets raw
  have hget : ∀ i : Fin 128, raw[i] = new i := fun i => by
    rw [hnew]
    simp only [raw, Fin.getElem_fin, Vector.getElem_ofFn]
    rfl
  clear_value raw
  simp only [firstRepeat_eq]
  have hrange : ∀ i : Fin 128, raw[i].outOfRange = true ↔ _ := fun i => by rw [hget, PointEntry.outOfRange_iff]
  split
  · next hi => exact .refused hi hrange
  · next hi =>
    refine .next hi hrange ?_
    have hkey := any_before_iff (n := 128) (same := fun j i => raw[j].used && raw[i].used &&
        raw[j].station == raw[i].station && raw[j].point == raw[i].point)
      (fun j i => by simp only [hget, Bool.and_eq_true, beq_iff_eq, and_assoc]; exact Iff.rfl)
    split
    · next hi => exact .refused hi hkey
    · next hi =>
      refine .next hi hkey ?_
      have htarget := any_before_iff (n := 128) (same := fun j i => raw[j].used && raw[i].used &&
          raw[j].kind == raw[i].kind && raw[j].target == raw[i].target)
        (fun j i => by simp only [hget, Bool.and_eq_true, beq_iff_eq, and_assoc]; exact Iff.rfl)
      split
      · next hi => exact .refused hi htarget
      · next hi =>
        refine .next hi htarget ⟨_, _, rfl, fun i => ?_, ?_⟩
        · simp only [Fin.getElem_fin, Vector.getElem_ofFn]
          rw [← hget]; rfl
        · simp only [List.any_eq_true, List.mem_finRange, true_and, hget, bne_iff_ne, PointEntry.raised_ne_iff]

/-! ### T1 (R2) -/

theorem ResEntry.ordered_iff (e : ResEntry) : e.ordered = true ↔ (e.enabled = true → e.kind = .metered →
    0 < e.la ∧ e.la < e.tlb ∧ e.tlb < e.thb ∧ e.thb < e.ha ∧ e.ha ≤ e.fs ∧ 2 * e.ah + e.la < e.ha) := by
  cases he : e.enabled <;> cases hk : e.kind <;> simp [ResEntry.ordered, he, hk, and_assoc]

theorem ResEntry.not_ordered_iff (e : ResEntry) : (!e.ordered) = true ↔ e.enabled = true ∧ e.kind = .metered ∧
    ¬(0 < e.la ∧ e.la < e.tlb ∧ e.tlb < e.thb ∧ e.thb < e.ha ∧ e.ha ≤ e.fs ∧ 2 * e.ah + e.la < e.ha) := by
  rw [Bool.not_eq_true', ← Bool.not_eq_true, ResEntry.ordered_iff]
  simp only [Classical.not_imp]

theorem judgeT1_judged (tab : Settings) (rows : List Row) (new : Fin 10 → ResEntry)
    (hnew : ∀ i : Fin 10, new i = asWritten rows 1 i.val resOf tab.t1[i]) :
    JudgedBy (judgeT1 tab rows) 1
       (fun t clamped => (∀ i : Fin 10, t[i] = new i) ∧ clamped = clampedRow rows 1 10 fun ws => (resOf ws).words)
       [(.badValue, fun i => ∃ ws, rowFor rows 1 i.val = some ws ∧ 1 < field ws 1),
        (.badValue, fun i => (new i).enabled = true ∧ (new i).kind = .metered ∧
           ¬(0 < (new i).la ∧ (new i).la < (new i).tlb ∧ (new i).tlb < (new i).thb ∧ (new i).thb < (new i).ha ∧
             (new i).ha ≤ (new i).fs ∧ 2 * (new i).ah + (new i).la < (new i).ha))] := by
  unfold judgeT1
  extract_lets t
  have hget : ∀ i : Fin 10, t[i] = new i := fun i => by
    rw [hnew]
    simp only [t, Fin.getElem_fin, Vector.getElem_ofFn]
    rfl
  clear_value t
  have hkind := fun i : Fin 10 =>
    rowBad_iff (rows := rows) (table := 1) (bad := fun ws => decide (1 < field ws 1)) (fun _ => decide_eq_true_iff) i
  have horder : ∀ i : Fin 10, (!t[i].ordered) = true ↔ _ := fun i => by
    rw [hget, ResEntry.not_ordered_iff]
  split
  · next hi => exact .refused hi hkind
  · next hi =>
    refine .next hi hkind ?_
    split
    · next hi => exact .refused hi horder
    · next hi => exact .next hi horder ⟨_, _, rfl, hget, rfl⟩

/-! ### T2 (R31) -/

theorem stageBad_iff (ws : List Word) : stageBad ws = true ↔ outside 1 9 (field ws 1) ∨ 9 < field ws 2 ∨
    field ws 2 = field ws 1 ∨ outside 1 4 (field ws 3) := by
  simp only [stageBad, outside, Bool.or_eq_true, decide_eq_true_eq, beq_iff_eq, or_assoc]

theorem judgeT2_judged (tab : Settings) (rows : List Row) :
    JudgedBy (n := 8) (judgeT2 tab rows) 2
       (fun t clamped => (∀ i : Fin 8, t[i] = asWritten rows 2 i.val stageEntryOf tab.t2[i]) ∧
         clamped = clampedRow rows 2 8 fun ws => (stageEntryOf ws).words)
       [(.badValue, fun i => ∃ ws, rowFor rows 2 i.val = some ws ∧ (outside 1 9 (field ws 1) ∨ 9 < field ws 2 ∨
           field ws 2 = field ws 1 ∨ outside 1 4 (field ws 3)))] := by
  unfold judgeT2
  have hbad := fun i : Fin 8 => rowBad_iff (rows := rows) (table := 2) stageBad_iff i
  split
  · next hi => exact .refused hi hbad
  · next hi =>
    refine .next hi hbad ⟨_, _, rfl, fun i => ?_, rfl⟩
    simp only [Fin.getElem_fin, Vector.getElem_ofFn]
    rfl

/-! ### T3 (R54, R108) -/

theorem pumpBad_iff (ws : List Word) : pumpBad ws = true ↔ outside 1 62 (field ws 0) ∨ 255 < field ws 1 ∨
    1 < field ws 2 ∨ 2 < field ws 4 := by
  simp only [pumpBad, outside, Bool.or_eq_true, decide_eq_true_eq, or_assoc]

theorem judgeT3_judged (s : Part) (rows : List Row) (new : Fin 32 → PumpEntry)
    (hnew : ∀ i : Fin 32, new i = asWritten rows 3 i.val pumpEntryOf s.tab.t3[i]) :
    JudgedBy (judgeT3 s rows) 3
       (fun t clamped => (∀ i : Fin 32, t[i] = new i) ∧ clamped = clampedRow rows 3 32 fun ws => (pumpEntryOf ws).words)
       [(.badValue, fun i => ∃ ws, rowFor rows 3 i.val = some ws ∧ (outside 1 62 (field ws 0) ∨ 255 < field ws 1 ∨
           1 < field ws 2 ∨ 2 < field ws 4)),
        (.duplicateKey, fun i => ∃ j : Fin 32, j < i ∧ (new j).station = (new i).station ∧
           (new j).point = (new i).point),
        (.busy, fun i => assigned s.tab i = true ∧ (s.plant.pump i).state = .starting ∧
           (new i).feeder ≠ s.tab.t3[i].feeder)] := by
  unfold judgeT3
  extract_lets t
  have hget : ∀ i : Fin 32, t[i] = new i := fun i => by
    rw [hnew]
    simp only [t, Fin.getElem_fin, Vector.getElem_ofFn]
    rfl
  clear_value t
  simp only [firstRepeat_eq]
  have hbad := fun i : Fin 32 => rowBad_iff (rows := rows) (table := 3) pumpBad_iff i
  have hkey := any_before_iff (n := 32) (same := fun j i => t[j].station == t[i].station && t[j].point == t[i].point)
    (fun j i => by simp only [hget, Bool.and_eq_true, beq_iff_eq]; exact Iff.rfl)
  have hbusy : ∀ i : Fin 32, (assigned s.tab i && (s.plant.pump i).state == .starting &&
      t[i].feeder != s.tab.t3[i].feeder) = true ↔ _ := fun i => by
    rw [hget, Bool.and_eq_true, Bool.and_eq_true, beq_iff_eq, bne_iff_ne, and_assoc]
  split
  · next hi => exact .refused hi hbad
  · next hi =>
    refine .next hi hbad ?_
    split
    · next hi => exact .refused hi hkey
    · next hi =>
      refine .next hi hkey ?_
      split
      · next hi => exact .refused hi hbusy
      · next hi => exact .next hi hbusy ⟨_, _, rfl, hget, rfl⟩

/-! ### T4 (R93) -/

theorem judgeT4_judged (tab : Settings) (rows : List Row) :
    JudgedBy (n := 2) (judgeT4 tab rows) 4
       (fun t clamped => t = (asWritten rows 4 0 feederEntryOf tab.t4a, asWritten rows 4 1 feederEntryOf tab.t4b) ∧
         clamped = clampedRow rows 4 2 fun ws => (feederEntryOf ws).words) [] :=
  ⟨_, _, rfl, rfl, rfl⟩

/-! ### T5 and T6 (R23, R24, R25) -/

theorem windowBad_iff (ws : List Word) : windowBad ws = true ↔ 1 < field ws 1 ∨ 2 < field ws 3 := by
  simp only [windowBad, Bool.or_eq_true, decide_eq_true_eq]

theorem judgeT5_judged (tab : Settings) (rows : List Row) (new : Fin 24 → WindowEntry)
    (hnew : ∀ i : Fin 24, new i = asWritten rows 5 i.val windowOf tab.t5[i]) :
    JudgedBy (judgeT5 tab rows) 5
       (fun t clamped => (∀ i : Fin 24, t[i] = new i) ∧ clamped = clampedRow rows 5 24 fun ws => (windowOf ws).words)
       [(.badValue, fun i => ∃ ws, rowFor rows 5 i.val = some ws ∧ (1 < field ws 1 ∨ 2 < field ws 3)),
        (.badValue, fun i => ∃ j : Fin 24, j < i ∧ (new j).used = true ∧ (new i).used = true ∧
           (new j).dayType = (new i).dayType ∧ (new j).start = (new i).start)] := by
  unfold judgeT5
  extract_lets t
  have hget : ∀ i : Fin 24, t[i] = new i := fun i => by
    rw [hnew]
    simp only [t, Fin.getElem_fin, Vector.getElem_ofFn]
    rfl
  clear_value t
  simp only [firstRepeat_eq]
  have hbad := fun i : Fin 24 => rowBad_iff (rows := rows) (table := 5) windowBad_iff i
  have hkey := any_before_iff (n := 24) (same := fun j i => t[j].used && t[i].used && t[j].dayType == t[i].dayType &&
      t[j].start == t[i].start)
    (fun j i => by simp only [hget, Bool.and_eq_true, beq_iff_eq, and_assoc]; exact Iff.rfl)
  split
  · next hi => exact .refused hi hbad
  · next hi =>
    refine .next hi hbad ?_
    split
    · next hi => exact .refused hi hkey
    · next hi => exact .next hi hkey ⟨_, _, rfl, hget, rfl⟩

theorem hasMidnight_iff (t5 : Vector WindowEntry 24) (d : Fin 2) :
    hasMidnight t5 d = true ↔ ∃ j : Fin 24, t5[j].used = true ∧ t5[j].dayType = d ∧ t5[j].start = 0 := by
  simp only [hasMidnight, List.any_eq_true, Vector.mem_toList_iff, Bool.and_eq_true, beq_iff_eq, and_assoc]
  constructor
  · rintro ⟨w, hw, h⟩
    obtain ⟨i, hi, rfl⟩ := Vector.mem_iff_getElem.1 hw
    exact ⟨⟨i, hi⟩, h⟩
  · rintro ⟨j, h⟩
    exact ⟨t5[j], Vector.getElem_mem j.isLt, h⟩

theorem judgeT6_judged (tab : Settings) (t5 : Vector WindowEntry 24) (rows : List Row) (new : Fin 7 → Fin 2)
    (hnew : ∀ i : Fin 7, new i = asWritten rows 6 i.val (fun ws => Fin.ofNat 2 (field ws 0)) tab.t6[i]) :
    JudgedBy (judgeT6 tab t5 rows) 6 (fun t clamped => (∀ i : Fin 7, t[i] = new i) ∧ clamped = false)
       [(.badValue, fun i => ∃ ws, rowFor rows 6 i.val = some ws ∧ 1 < field ws 0),
        (.badValue, fun i => ∀ j : Fin 24, ¬(t5[j].used = true ∧ t5[j].dayType = new i ∧ t5[j].start = 0))] := by
  unfold judgeT6
  extract_lets t
  have hget : ∀ i : Fin 7, t[i] = new i := fun i => by
    rw [hnew]
    simp only [t, Fin.getElem_fin, Vector.getElem_ofFn]
    rfl
  clear_value t
  have hbad := fun i : Fin 7 =>
    rowBad_iff (rows := rows) (table := 6) (bad := fun ws => decide (1 < field ws 0)) (fun _ => decide_eq_true_iff) i
  have hmid : ∀ i : Fin 7, (!hasMidnight t5 t[i]) = true ↔ _ := fun i => by
    rw [hget, Bool.not_eq_true', ← Bool.not_eq_true, hasMidnight_iff, not_exists]
  split
  · next hi => exact .refused hi hbad
  · next hi =>
    refine .next hi hbad ?_
    split
    · next hi => exact .refused hi hmid
    · next hi => exact .next hi hmid ⟨_, _, rfl, hget, rfl⟩

/-! ### T7 (R149) -/

theorem MirrorEntry.outOfRange_iff (e : MirrorEntry) : e.outOfRange = true ↔ e.used = true ∧
    (2 < e.direction ∨ outside 1 62 e.low ∨ outside e.low 62 e.high ∨ outside 1 62 e.base) := by
  simp only [MirrorEntry.outOfRange, outside, Bool.and_eq_true, Bool.or_eq_true, decide_eq_true_eq, or_assoc]

/-- Two used windows within their ranges overlap where a direction and a source address are common (R149). -/
theorem MirrorEntry.overlaps_iff {e e' : MirrorEntry} (h : e.outOfRange = false) (h' : e'.outOfRange = false) :
    e.overlaps e' = true ↔ e.used = true ∧ e'.used = true ∧
      (e.direction = e'.direction ∨ e.direction = 2 ∨ e'.direction = 2) ∧ e.low ≤ e'.high ∧ e'.low ≤ e.high := by
  rw [← Bool.not_eq_true, MirrorEntry.outOfRange_iff] at h h'
  simp only [MirrorEntry.overlaps, MirrorEntry.covers, Bool.and_eq_true, Bool.or_eq_true, decide_eq_true_eq,
    beq_iff_eq, and_assoc]
  refine and_congr_right fun hu => and_congr_right fun hu' => and_congr_left fun _ => ?_
  have hd : ¬2 < e.direction := fun hd => h ⟨hu, .inl hd⟩
  have hd' : ¬2 < e'.direction := fun hd => h' ⟨hu', .inl hd⟩
  omega

theorem judgeT7_judged (tab : Settings) (rows : List Row) (new : Fin 8 → MirrorEntry)
    (hnew : ∀ i : Fin 8, new i = asWritten rows 7 i.val mirrorOf tab.t7[i]) :
    JudgedBy (judgeT7 tab rows) 7 (fun t clamped => (∀ i : Fin 8, t[i] = new i) ∧ clamped = false)
       [(.badValue, fun i => (new i).used = true ∧ (2 < (new i).direction ∨ outside 1 62 (new i).low ∨
           outside (new i).low 62 (new i).high ∨ outside 1 62 (new i).base)),
        (.badValue, fun i => ∃ j : Fin 8, j < i ∧ (new j).used = true ∧ (new i).used = true ∧
           ((new j).direction = (new i).direction ∨ (new j).direction = 2 ∨ (new i).direction = 2) ∧
           (new j).low ≤ (new i).high ∧ (new i).low ≤ (new j).high)] := by
  unfold judgeT7
  extract_lets t
  have hget : ∀ i : Fin 8, t[i] = new i := fun i => by
    rw [hnew]
    simp only [t, Fin.getElem_fin, Vector.getElem_ofFn]
    rfl
  clear_value t
  simp only [firstRepeat_eq]
  have hrange : ∀ i : Fin 8, t[i].outOfRange = true ↔ _ := fun i => by rw [hget, MirrorEntry.outOfRange_iff]
  split
  · next hi => exact .refused hi hrange
  · next hi =>
    refine .next hi hrange ?_
    have hin := firstFailure_eq_none.1 hi
    have hover := any_before_iff (n := 8) (same := fun j i => t[j].overlaps t[i])
      (fun j i => by rw [MirrorEntry.overlaps_iff (hin j) (hin i), hget, hget])
    split
    · next hi => exact .refused hi hover
    · next hi => exact .next hi hover ⟨_, _, rfl, hget, rfl⟩

/-! ### T8 (R154) -/

theorem judgeT8_judged (tab : Settings) (rows : List Row) (new : Fin 4 → SourceEntry)
    (hnew : ∀ i : Fin 4, new i = asWritten rows 8 i.val sourceOf tab.t8[i]) :
    JudgedBy (judgeT8 tab rows) 8 (fun t clamped => (∀ i : Fin 4, t[i] = new i) ∧ clamped = false)
       [(.badValue, fun i => (new i).used = true ∧ outside 1 62 (new i).address),
        (.duplicateKey, fun i => ∃ j : Fin 4, j < i ∧ (new j).used = true ∧ (new i).used = true ∧
           (new j).address = (new i).address)] := by
  unfold judgeT8
  extract_lets t
  have hget : ∀ i : Fin 4, t[i] = new i := fun i => by
    rw [hnew]
    simp only [t, Fin.getElem_fin, Vector.getElem_ofFn]
    rfl
  clear_value t
  simp only [firstRepeat_eq]
  have hrange : ∀ i : Fin 4, (t[i].used && (decide (t[i].address < 1) || decide (62 < t[i].address))) = true ↔
      (new i).used = true ∧ outside 1 62 (new i).address := fun i => by
    simp only [hget, outside, Bool.and_eq_true, Bool.or_eq_true, decide_eq_true_eq]
  have hkey := any_before_iff (n := 4) (same := fun j i => t[j].used && t[i].used && t[j].address == t[i].address)
    (fun j i => by simp only [hget, Bool.and_eq_true, beq_iff_eq, and_assoc]; exact Iff.rfl)
  split
  · next hi => exact .refused hi hrange
  · next hi =>
    refine .next hi hrange ?_
    split
    · next hi => exact .refused hi hkey
    · next hi => exact .next hi hkey ⟨_, _, rfl, hget, rfl⟩

/-! ### T9 (R161) -/

theorem generalBad_iff (s : Part) (ws : List Word) : generalBad s ws = true ↔ 62 < field ws 0 ∨ 62 < field ws 1 ∨
    outside 1 6 (field ws 2) ∨ (field ws 0 = 0 ∧ s.mgmt.addrMode = .service) ∨
    (field ws 1 = 0 ∧ s.plant.events.on = true) := by
  simp only [generalBad, outside, Bool.or_eq_true, Bool.and_eq_true, decide_eq_true_eq, beq_iff_eq, or_assoc]

theorem judgeT9_judged (s : Part) (rows : List Row) :
    JudgedBy (n := 1) (judgeT9 s rows) 9
       (fun t clamped => t = asWritten rows 9 0 generalOf s.tab.t9 ∧
         clamped = clampedRow rows 9 1 fun ws => (generalOf ws).words)
       [(.badValue, fun _ => ∃ ws, rowFor rows 9 0 = some ws ∧ (62 < field ws 0 ∨ 62 < field ws 1 ∨
           outside 1 6 (field ws 2) ∨ (field ws 0 = 0 ∧ s.mgmt.addrMode = .service) ∨
           (field ws 1 = 0 ∧ s.plant.events.on = true)))] := by
  have hrow : ∀ i : Fin 1, i.val = 0 := fun i => by omega
  unfold judgeT9 asWritten clampedRow rowFails
  simp only [List.finRange_succ, List.finRange_zero, List.map_nil, List.any_cons, List.any_nil, Bool.or_false,
    Fin.val_zero]
  cases rowFor rows 9 0 with
  | none =>
    exact ⟨fun i h => absurd h.1 (by simp), fun _ => ⟨_, _, rfl, rfl, rfl⟩⟩
  | some ws =>
    simp only [Option.some.injEq, exists_eq_left', ← generalBad_iff]
    by_cases hb : generalBad s ws = true
    · simp only [hb, if_true]
      exact ⟨fun i _ => by rw [hrow], fun h => absurd trivial (h 0)⟩
    · simp only [hb, Bool.false_eq_true, if_false]
      exact ⟨fun i h => absurd h.1 (by simp), fun _ => ⟨_, _, rfl, rfl, rfl⟩⟩

end Sys2Proof.Machine
end

section
/-!
PROOFS. A TABLE_WRITE that its judgement passes leaves every settings table within its ranges and without two entries
of one key (R1, R2, R24, R25, R30, R53, R54, R93, R141, R149, R154, R161).
-/

namespace Sys2Proof.Machine

/-! ### Entries as written -/

theorem clamp_bounds {lo hi : Nat} (h : lo ≤ hi) (n : Nat) : lo ≤ clamp lo hi n ∧ clamp lo hi n ≤ hi := by
  unfold clamp; split_ifs <;> omega

theorem clamp_le (hi n : Nat) : clamp 0 hi n ≤ hi := (clamp_bounds (Nat.zero_le hi) n).2

/-- What holds of the standing entry and of every written one holds of the entry after the write. -/
theorem asWritten_of {α : Type} {rows : List Row} {table index : Nat} {of : List Word → α} {old : α} {P : α → Prop}
    (hold : P old) (hnew : ∀ ws, rowFor rows table index = some ws → P (of ws)) :
    P (asWritten rows table index of old) := by
  unfold asWritten
  split
  · next ws h => exact hnew ws h
  · exact hold

theorem resOf_ok {ws : List Word} (h : (resOf ws).ordered = true) : (resOf ws).ok :=
  have hfs := clamp_bounds (lo := 1000) (hi := 20000) (by decide) (field ws 2)
  have hstale := clamp_bounds (lo := 10) (hi := 3600) (by decide) (field ws 8)
  have hrate := clamp_bounds (lo := 30) (hi := 600) (by decide) (field ws 9)
  ⟨hfs.1, hfs.2, clamp_le 500 _, hstale.1, hstale.2, hrate.1, hrate.2, clamp_le 2000 _, clamp_le 2000 _, h⟩

theorem stageEntryOf_ok {ws : List Word} (h : stageBad ws = false) : (stageEntryOf ws).ok := by
  rw [← Bool.not_eq_true, stageBad_iff] at h
  simp only [outside, not_or, Nat.not_lt] at h
  obtain ⟨⟨hd1, hd9⟩, hs9, hne, hn1, hn4⟩ := h
  have hd : (Fin.ofNat 10 (field ws 1)).val = field ws 1 := Nat.mod_eq_of_lt (by omega)
  have hs : (Fin.ofNat 10 (field ws 2)).val = field ws 2 := Nat.mod_eq_of_lt (by omega)
  have hmax := clamp_bounds hn1 (field ws 4)
  have hhb := clamp_bounds (lo := 1) (hi := 250) (by decide) (field ws 5)
  refine ⟨by rw [show (stageEntryOf ws).delivery.val = _ from hd]; exact hd1, fun he => hne ?_, hn1, hn4, hmax.1,
    hmax.2, hhb.1, hhb.2, clamp_le 20 _, clamp_le 1000 _, clamp_le 5000 _, clamp_le _ _, clamp_le 600 _⟩
  rw [← hd, ← hs]
  exact congrArg Fin.val he

theorem pumpEntryOf_ok {ws : List Word} (h : pumpBad ws = false) : (pumpEntryOf ws).ok := by
  rw [← Bool.not_eq_true, pumpBad_iff] at h
  simp only [outside, not_or, Nat.not_lt] at h
  obtain ⟨⟨hs1, hs62⟩, hpoint, _⟩ := h
  have h500 := clamp_bounds (lo := 1) (hi := 500) (by decide) (field ws 3)
  have hstart := clamp_bounds (lo := 5) (hi := 120) (by decide) (field ws 7)
  have hstop := clamp_bounds (lo := 5) (hi := 120) (by decide) (field ws 8)
  have hhour := clamp_bounds (lo := 1) (hi := 12) (by decide) (field ws 9)
  have hretry := clamp_bounds (lo := 60) (hi := 3600) (by decide) (field ws 11)
  have hprove := clamp_bounds (lo := 60) (hi := 3600) (by decide) (field ws 12)
  have htrip := clamp_bounds (lo := 1) (hi := 4) (by decide) (field ws 13)
  exact ⟨hs1, hs62, hpoint, h500.1, h500.2, clamp_le 3600 _, clamp_le 3600 _, hstart.1, hstart.2, hstop.1, hstop.2,
    hhour.1, hhour.2, clamp_le 5 _, hretry.1, hretry.2, hprove.1, hprove.2, htrip.1, htrip.2⟩

theorem feederEntryOf_ok (ws : List Word) : (feederEntryOf ws).ok :=
  have h := clamp_bounds (lo := 5) (hi := 600) (by decide) (field ws 1)
  ⟨clamp_le 2000 _, h.1, h.2⟩

theorem generalOf_ok {s : Part} {ws : List Word} (h : generalBad s ws = false) : (generalOf ws).ok := by
  rw [← Bool.not_eq_true, generalBad_iff] at h
  simp only [outside, not_or, Nat.not_lt] at h
  obtain ⟨hserv, hnotice, ⟨hc1, hc6⟩, _⟩ := h
  have hby := clamp_bounds (lo := 1) (hi := 7) (by decide) (field ws 3)
  have hset := clamp_bounds (lo := 30) (hi := 600) (by decide) (field ws 5)
  have hq := clamp_bounds (lo := 10) (hi := 3600) (by decide) (field ws 4)
  refine ⟨hserv, hnotice, hc1, hc6, hby.1, hby.2, ?_, ?_, hset.1, hset.2⟩ <;>
    simp only [generalOf, clampQuiet] <;> split <;> simp [hq]

theorem PointEntry.raised_key (e : PointEntry) : e.raised.used = e.used ∧ e.raised.station = e.station ∧
    e.raised.point = e.point ∧ e.raised.kind = e.kind ∧ e.raised.target = e.target := by
  unfold PointEntry.raised
  split <;> exact ⟨rfl, rfl, rfl, rfl, rfl⟩

theorem PointEntry.raised_ok {e : PointEntry} (h : e.outOfRange = false) : e.raised.ok := by
  rw [← Bool.not_eq_true, PointEntry.outOfRange_iff] at h
  obtain ⟨hused, hstation, hpoint, hkind, htarget⟩ := e.raised_key
  intro hu
  rw [hused] at hu
  simp only [hu, true_and, outside, not_or, Nat.not_lt] at h
  obtain ⟨⟨h1, h62⟩, h255, h4, hmax⟩ := h
  rw [hstation, hpoint, hkind, htarget]
  refine ⟨h1, h62, h255, h4, hmax, ?_⟩
  unfold PointEntry.raised
  split
  · exact Nat.le_refl 1
  · next h => exact Nat.one_le_iff_ne_zero.2 fun h0 => h ⟨hu, h0⟩

theorem MirrorEntry.ok_of {e : MirrorEntry} (h : e.outOfRange = false) : e.ok := by
  rw [← Bool.not_eq_true, MirrorEntry.outOfRange_iff] at h
  intro hu
  simp only [hu, true_and, outside, not_or, Nat.not_lt] at h
  omega

/-! ### Tables that pass -/

theorem judgeT0_ok {tab : Settings} {rows : List Row} {t : Vector PointEntry 128} {c : Bool}
    (h : judgeT0 tab rows = .passed t c) : (∀ i : Fin 128, t[i].ok) ∧ AllApart PointEntry.apart t := by
  obtain ⟨htests, hget, _⟩ := (judgeT0_judged tab rows _ fun _ => rfl).of_passed h
  simp only [List.mem_cons, List.not_mem_nil, or_false, forall_eq_or_imp, forall_eq] at htests
  obtain ⟨hrange, hkey, htarget⟩ := htests
  have hraised : ∀ i : Fin 128, t[i] = (asWritten rows 0 i.val pointOf tab.t0[i]).raised := hget
  refine ⟨fun i => ?_, fun i j hij hi hj => ?_⟩
  · rw [hraised]
    exact PointEntry.raised_ok (Bool.eq_false_iff.2 fun hb => hrange i ((PointEntry.outOfRange_iff _).1 hb))
  · rw [hraised] at hi hj
    rw [hraised, hraised]
    obtain ⟨hu, hs, hp, hk, ht⟩ := (asWritten rows 0 i.val pointOf tab.t0[i]).raised_key
    obtain ⟨hu', hs', hp', hk', ht'⟩ := (asWritten rows 0 j.val pointOf tab.t0[j]).raised_key
    rw [hs, hp, hk, ht, hs', hp', hk', ht']
    rw [hu] at hi
    rw [hu'] at hj
    exact ⟨fun ⟨h1, h2⟩ => hkey j ⟨i, hij, hi, hj, h1, h2⟩, fun ⟨h1, h2⟩ => htarget j ⟨i, hij, hi, hj, h1, h2⟩⟩

theorem judgeT1_ok {tab : Settings} {rows : List Row} {t : Vector ResEntry 10} {c : Bool}
    (hold : ∀ r : Fin 10, tab.t1[r].ok) (h : judgeT1 tab rows = .passed t c) : ∀ r : Fin 10, t[r].ok := by
  obtain ⟨htests, hget, _⟩ := (judgeT1_judged tab rows _ fun _ => rfl).of_passed h
  simp only [List.mem_cons, List.not_mem_nil, or_false, forall_eq_or_imp, forall_eq] at htests
  intro r
  have horder := htests.2 r
  rw [← ResEntry.not_ordered_iff, Bool.not_eq_true, Bool.not_eq_false'] at horder
  rw [hget]
  revert horder
  exact asWritten_of (P := fun e : ResEntry => e.ordered = true → e.ok) (fun _ => hold r) fun ws _ => resOf_ok

theorem judgeT2_ok {tab : Settings} {rows : List Row} {t : Vector StageEntry 8} {c : Bool}
    (hold : ∀ k : Fin 8, tab.t2[k].ok) (h : judgeT2 tab rows = .passed t c) : ∀ k : Fin 8, t[k].ok := by
  obtain ⟨htests, hget, _⟩ := (judgeT2_judged tab rows).of_passed h
  simp only [List.mem_cons, List.not_mem_nil, or_false, forall_eq] at htests
  intro k
  rw [hget]
  exact asWritten_of (hold k) fun ws hws => stageEntryOf_ok
    (Bool.eq_false_iff.2 fun hb => htests k ⟨ws, hws, (stageBad_iff ws).1 hb⟩)

theorem judgeT3_ok {s : Part} {rows : List Row} {t : Vector PumpEntry 32} {c : Bool}
    (hold : ∀ p : Fin 32, s.tab.t3[p].ok) (h : judgeT3 s rows = .passed t c) : (∀ p : Fin 32, t[p].ok) ∧
      AllApart (fun e e' : PumpEntry => ¬(e.station = e'.station ∧ e.point = e'.point)) t := by
  obtain ⟨htests, hget, _⟩ := (judgeT3_judged s rows _ fun _ => rfl).of_passed h
  simp only [List.mem_cons, List.not_mem_nil, or_false, forall_eq_or_imp, forall_eq] at htests
  obtain ⟨hbad, hkey, _⟩ := htests
  refine ⟨fun p => ?_, fun i j hij hsame => ?_⟩
  · rw [hget]
    exact asWritten_of (hold p) fun ws hws => pumpEntryOf_ok
      (Bool.eq_false_iff.2 fun hb => hbad p ⟨ws, hws, (pumpBad_iff ws).1 hb⟩)
  · rw [hget, hget] at hsame
    exact hkey j ⟨i, hij, hsame⟩

theorem judgeT4_ok {tab : Settings} {rows : List Row} {a b : FeederEntry} {c : Bool} (hold : tab.t4a.ok ∧ tab.t4b.ok)
    (h : judgeT4 tab rows = .passed (a, b) c) : a.ok ∧ b.ok := by
  obtain ⟨_, he, _⟩ := (judgeT4_judged tab rows).of_passed h
  obtain ⟨rfl, rfl⟩ := Prod.mk.inj he
  exact ⟨asWritten_of hold.1 fun ws _ => feederEntryOf_ok ws, asWritten_of hold.2 fun ws _ => feederEntryOf_ok ws⟩

theorem judgeT5_ok {tab : Settings} {rows : List Row} {t : Vector WindowEntry 24} {c : Bool}
    (hold : ∀ i : Fin 24, tab.t5[i].start ≤ 1439) (h : judgeT5 tab rows = .passed t c) :
    (∀ i : Fin 24, t[i].start ≤ 1439) ∧ AllApart (fun e e' : WindowEntry => e.used = true → e'.used = true →
      ¬(e.dayType = e'.dayType ∧ e.start = e'.start)) t := by
  obtain ⟨htests, hget, _⟩ := (judgeT5_judged tab rows _ fun _ => rfl).of_passed h
  simp only [List.mem_cons, List.not_mem_nil, or_false, forall_eq_or_imp, forall_eq] at htests
  refine ⟨fun i => ?_, fun i j hij hi hj hsame => ?_⟩
  · rw [hget]
    exact asWritten_of (P := fun e : WindowEntry => e.start ≤ 1439) (hold i) fun ws _ => clamp_le 1439 _
  · rw [hget] at hi hj
    rw [hget, hget] at hsame
    exact htests.2 j ⟨i, hij, hi, hj, hsame⟩

theorem judgeT7_ok {tab : Settings} {rows : List Row} {t : Vector MirrorEntry 8} {c : Bool}
    (h : judgeT7 tab rows = .passed t c) : (∀ i : Fin 8, t[i].ok) ∧ AllApart MirrorEntry.apart t := by
  obtain ⟨htests, hget, _⟩ := (judgeT7_judged tab rows _ fun _ => rfl).of_passed h
  simp only [List.mem_cons, List.not_mem_nil, or_false, forall_eq_or_imp, forall_eq] at htests
  obtain ⟨hrange, hover⟩ := htests
  refine ⟨fun i => ?_, fun i j hij hi hj hd => ?_⟩
  · rw [hget]
    exact MirrorEntry.ok_of (Bool.eq_false_iff.2 fun hb => hrange i ((MirrorEntry.outOfRange_iff _).1 hb))
  · rw [hget] at hi hj hd
    rw [hget j] at hd
    rw [hget, hget]
    by_contra hno
    exact hover j ⟨i, hij, hi, hj, hd, by omega, by omega⟩

theorem judgeT8_ok {tab : Settings} {rows : List Row} {t : Vector SourceEntry 4} {c : Bool}
    (h : judgeT8 tab rows = .passed t c) : (∀ i : Fin 4, t[i].ok) ∧
      AllApart (fun e e' : SourceEntry => e.used = true → e'.used = true → e.address ≠ e'.address) t := by
  obtain ⟨htests, hget, _⟩ := (judgeT8_judged tab rows _ fun _ => rfl).of_passed h
  simp only [List.mem_cons, List.not_mem_nil, or_false, forall_eq_or_imp, forall_eq] at htests
  obtain ⟨hrange, hkey⟩ := htests
  refine ⟨fun i hu => ?_, fun i j hij hi hj hsame => ?_⟩
  · have := hrange i
    rw [hget] at hu ⊢
    simp only [hu, true_and, outside, not_or, Nat.not_lt] at this
    exact this
  · rw [hget] at hi hj
    rw [hget, hget] at hsame
    exact hkey j ⟨i, hij, hi, hj, hsame⟩

theorem judgeT9_ok {s : Part} {rows : List Row} {t : General} {c : Bool} (hold : s.tab.t9.ok)
    (h : judgeT9 s rows = .passed t c) : t.ok := by
  obtain ⟨htests, rfl, _⟩ := (judgeT9_judged s rows).of_passed h
  simp only [List.mem_cons, List.not_mem_nil, or_false, forall_eq] at htests
  exact asWritten_of hold fun ws hws => generalOf_ok
    (Bool.eq_false_iff.2 fun hb => htests 0 ⟨ws, hws, (generalBad_iff s ws).1 hb⟩)

/-- The tables that a judgement passes are within their ranges where the standing tables are. -/
theorem judge_ok {s : Part} {rows : List Row} {new : Settings} {clamped : Bool} (hs : s.tab.ok)
    (h : judge s rows = .passed new clamped) : new.ok := by
  obtain ⟨c0, c1, c2, c3, c4, c5, c6, c7, c8, c9, -, h0, h1, h2, h3, h4, h5, h7, h8, h9, -⟩ := judge_passed h
  obtain ⟨o1, o2, o3, o4a, o4b, o9, o0, o0', o3', o5, o5', o7, o7', o8, o8'⟩ := hs
  have n0 : (∀ i : Fin 128, new.t0[i].ok) ∧ AllApart PointEntry.apart new.t0 := by
    split at h0
    · exact judgeT0_ok h0
    · rw [h0.1]; exact ⟨o0, o0'⟩
  have n1 : ∀ r : Fin 10, new.t1[r].ok := by
    split at h1
    · exact judgeT1_ok o1 h1
    · rw [h1.1]; exact o1
  have n2 : ∀ k : Fin 8, new.t2[k].ok := by
    split at h2
    · exact judgeT2_ok o2 h2
    · rw [h2.1]; exact o2
  have n3 : (∀ p : Fin 32, new.t3[p].ok) ∧
      AllApart (fun e e' : PumpEntry => ¬(e.station = e'.station ∧ e.point = e'.point)) new.t3 := by
    split at h3
    · exact judgeT3_ok o3 h3
    · rw [h3.1]; exact ⟨o3, o3'⟩
  have n4 : new.t4a.ok ∧ new.t4b.ok := by
    split at h4
    · exact judgeT4_ok ⟨o4a, o4b⟩ h4
    · rw [h4.1, h4.2.1]; exact ⟨o4a, o4b⟩
  have n5 : (∀ i : Fin 24, new.t5[i].start ≤ 1439) ∧ AllApart (fun e e' : WindowEntry => e.used = true →
      e'.used = true → ¬(e.dayType = e'.dayType ∧ e.start = e'.start)) new.t5 := by
    split at h5
    · exact judgeT5_ok o5 h5.1
    · rw [h5.1]; exact ⟨o5, o5'⟩
  have n7 : (∀ i : Fin 8, new.t7[i].ok) ∧ AllApart MirrorEntry.apart new.t7 := by
    split at h7
    · exact judgeT7_ok h7
    · rw [h7.1]; exact ⟨o7, o7'⟩
  have n8 : (∀ i : Fin 4, new.t8[i].ok) ∧
      AllApart (fun e e' : SourceEntry => e.used = true → e'.used = true → e.address ≠ e'.address) new.t8 := by
    split at h8
    · exact judgeT8_ok h8
    · rw [h8.1]; exact ⟨o8, o8'⟩
  have n9 : new.t9.ok := by
    split at h9
    · exact judgeT9_ok o9 h9
    · rw [h9.1]; exact o9
  exact ⟨n1, n2, n3.1, n4.1, n4.2, n9, n0.1, n0.2, n3.2, n5.1, n5.2, n7.1, n7.2, n8.1, n8.2⟩

/-! ### The tables after a reset (R3, R32, R54, R93, R170) -/

theorem default_entries_ok : ({} : ResEntry).ok ∧ ({} : StageEntry).ok ∧ ({} : FeederEntry).ok ∧ ({} : General).ok := by
  unfold ResEntry.ok StageEntry.ok FeederEntry.ok General.ok
  decide

theorem default_pumpEntry_ok {n : Nat} (h : n ≤ 255) : ({ point := n } : PumpEntry).ok := by
  unfold PumpEntry.ok
  simp [h]

/-- The default tables are within their ranges. -/
theorem default_settings_ok : ({} : Settings).ok := by
  have unused {α : Type} {n : Nat} (a : α) (i : Fin n) : (Vector.replicate n a)[i] = a := by simp
  have pump (p : Fin 32) : ({} : Settings).t3[p] = { point := p.val } := by simp
  obtain ⟨hres, hstage, hfeeder, hgeneral⟩ := default_entries_ok
  refine ⟨fun r => ?_, fun k => ?_, fun p => ?_, hfeeder, hfeeder, hgeneral, fun i => ?_, fun i j _ => ?_,
    fun i j hij => ?_, fun i => ?_, fun i j _ => ?_, fun i => ?_, fun i j _ => ?_, fun i => ?_, fun i j _ => ?_⟩
  · rw [unused]; exact hres
  · rw [unused]; exact hstage
  · rw [pump]; exact default_pumpEntry_ok (by omega)
  · rw [unused]; exact nofun
  · rw [unused, unused]; exact nofun
  · rw [pump, pump]; exact fun h => absurd (Fin.ext h.2) (Fin.ne_of_lt hij)
  · rw [unused]; decide
  · rw [unused, unused]; exact nofun
  · rw [unused]; exact nofun
  · rw [unused, unused]; exact nofun
  · rw [unused]; exact nofun
  · rw [unused, unused]; exact nofun

end Sys2Proof.Machine
end

section
/-!
PROOFS. Every step keeps the settings tables within their ranges (R1, R2, R24, R25, R30, R53, R54, R93, R141, R149,
R154, R161), and the elementary changes keep the records of stages and pumps within theirs (R33, R34, R58, R111).
-/

namespace Sys2Proof.Machine

/-! ### The settings tables, the store's copy and a save in flight -/

@[simp] theorem handState_mgmt (r : Fin 10) (a b : ResState) (s : Part) : (handState r a b s).mgmt = s.mgmt := by
  unfold handState; dsimp only; split_ifs <;> rfl

@[simp] theorem reservoirWrite_mgmt (old : Settings) (s : Part) (r : Fin 10) :
    (reservoirWrite old s r).mgmt = s.mgmt := by
  unfold reservoirWrite; dsimp only; split_ifs <;> simp

@[simp] theorem foldl_reservoirWrite_mgmt (old : Settings) (rs : List (Fin 10)) (s : Part) :
    (rs.foldl (reservoirWrite old) s).mgmt = s.mgmt :=
  List.foldlRecOn (motive := fun u : Part => u.mgmt = s.mgmt) rs _ rfl fun _ hu _ _ => by simp [hu]

@[simp] theorem boundaryEvent_mgmt (s : Part) : (boundaryEvent s).mgmt = s.mgmt := by
  unfold boundaryEvent; dsimp only; split_ifs <;> rfl

theorem applyWrite_mgmt (rows : List Row) (new : Settings) (s : Part) : (applyWrite rows new s).mgmt = s.mgmt := by
  unfold applyWrite recomputeClass quietWrite
  dsimp only
  split_ifs <;> simp

/-- A store whose save is broken off holds the same copy, and no save is in flight (R170). -/
theorem Store.breakOff_eq (store : Store) : store.breakOff = { store with
    checkMatches := store.checkMatches && store.saving.isNone, saving := none } := by
  obtain ⟨copy, check, saving⟩ := store
  cases saving <;> simp [Store.breakOff]

theorem loadedTables_ok {store : Store} (h : store.copy.ok) : (loadedTables store).ok := by
  unfold loadedTables
  split
  · exact h
  · exact default_settings_ok

/-- The part after power-on from a store whose copy is within its ranges. -/
theorem fullReset_settingsKept {straps : Straps} {s : Part} (hc : s.mgmt.store.copy.ok)
    (hs : ∀ t, s.mgmt.store.saving = some t → t.ok) : (fullReset straps s).SettingsKept :=
  ⟨loadedTables_ok hc, hc, hs⟩

theorem breakSave_store {s : Part} (h : s.SettingsKept) :
    (breakSave s).mgmt.store.copy.ok ∧ ∀ t, (breakSave s).mgmt.store.saving = some t → t.ok := by
  unfold breakSave
  rw [Store.breakOff_eq]
  exact ⟨h.2.1, fun _ ht => nomatch ht⟩

/-- The run seconds of T14 have every value. -/
theorem Settings.ok_runSeconds {tab : Settings} (h : tab.ok) (t : Vector (BitVec 32) 32) :
    ({ tab with t14 := t } : Settings).ok := by
  unfold Settings.ok at h ⊢
  exact h

theorem advance_settingsKept {s : Part} (h : s.SettingsKept) : (advance s).SettingsKept := by
  unfold advance Part.SettingsKept
  exact ⟨Settings.ok_runSeconds h.1 _, h.2⟩

theorem settingsKept_keptByStep : KeptByStep Part.SettingsKept where
  plant s := kept_const s.tab s.SettingsKept
  line hs _ := hs
  level hs _ := hs
  clock hs _ := hs
  mgmt hs hm := hm hs
  pins _ _ _ hs := hs
  free _ hs := hs
  advance hs := advance_settingsKept hs
  write {s rows new _} hs hj := by
    unfold Part.SettingsKept
    rw [applyWrite_tab, applyWrite_mgmt]
    exact ⟨judge_ok hs.1 hj, hs.2⟩
  restart _ hs := hs
  powerOn {s} straps hs := by
    obtain ⟨hcopy, hsaving⟩ := breakSave_store hs
    have ht := fullReset_settingsKept (straps := straps) hcopy hsaving
    unfold powerOnEvent
    dsimp only
    split
    · exact ⟨ht.1, breakSave_store ht⟩
    · exact ht
  resetInput {s} phase hs := by
    unfold resetInputEvent
    split
    · split
      · exact ⟨hs.1, breakSave_store hs⟩
      · exact hs
    · split
      · exact hs
      · exact fullReset_settingsKept hs.2.1 hs.2.2
      · exact hs
  powerLoss {s} hs := by
    unfold powerLossEvent
    split
    · exact hs
    · exact ⟨default_settings_ok, breakSave_store hs⟩

/-! ### The demand computation within its ranges (R33) -/

theorem bandDemand_le (tl th l : Int) : bandDemand tl th l ≤ 1000 := by
  unfold bandDemand
  split_ifs with h1 h2
  · exact Nat.le_refl _
  · exact Nat.zero_le _
  · have h : (th - l) * 1000 / (th - tl) ≤ 1000 :=
      Int.ediv_le_of_le_mul (by omega) (by rw [Int.mul_comm 1000]; exact Int.mul_le_mul_of_nonneg_right (by omega) (by decide))
    omega

theorem trendDemand_le {tl th l r : Int} {d0 kr : Nat} (h : d0 ≤ 1000) : trendDemand tl th l d0 kr r ≤ 1000 := by
  unfold trendDemand
  split
  · have := clampInt_bounds (lo := 0) (hi := 1000) (by decide) ((d0 : Int) + (kr : Int) * r)
    omega
  · exact h

theorem tariffDemand_le {low : Bool} {c : TariffClass} {d1 pf : Nat} (h : d1 ≤ 1000) (hp : pf ≤ 1000) :
    tariffDemand low c d1 pf ≤ 1000 := by
  unfold tariffDemand
  split_ifs
  · exact Nat.le_refl _
  · exact Nat.div_le_of_le_mul ((Nat.mul_le_mul h hp).trans (by decide))
  · exact h

/-- The full computation brings the demands and W within their ranges (R36 to R44). -/
theorem fullPath_ok {v : View} {k : Fin 8} {l : StageLive} (hpf : v.tab.t2[k].pf ≤ 1000) :
    (fullPath v k l).ok v.tab.t2[k] := by
  unfold fullPath
  extract_lets e de dl se sl th tl d0 d1 d2 d3
  have b0 : d0 ≤ 1000 := bandDemand_le ..
  have b1 : d1 ≤ 1000 := trendDemand_le b0
  have b2 : d2 ≤ 1000 := tariffDemand_le b1 hpf
  have b3 : d3 ≤ 1000 := by
    unfold d3
    split
    · exact Nat.zero_le _
    · exact (Nat.min_le_left ..).trans b2
  clear_value d0 d1 d2 d3
  split
  · exact ⟨b0, b1, b2, b3, Nat.zero_le _⟩
  · split
    · exact ⟨b0, b1, b2, b3, Nat.zero_le _⟩
    · exact ⟨b0, b1, b2, b3, Nat.min_le_right ..⟩

/-- An evaluation brings the demands and W within their ranges, whatever W was before (R33, R36 to R46). -/
theorem evaluated_ok {v : View} {k : Fin 8} {l : StageLive} (he : v.tab.t2[k].ok)
    (hd : l.d0 ≤ 1000 ∧ l.d1 ≤ 1000 ∧ l.d2 ≤ 1000 ∧ l.d3 ≤ 1000) : (evaluated v k l).ok v.tab.t2[k] := by
  obtain ⟨_, _, _, _, _, _, _, _, _, hpf, _⟩ := he
  obtain ⟨h0, h1, h2, h3⟩ := hd
  unfold evaluated
  dsimp only
  split
  · exact ⟨Nat.zero_le _, Nat.zero_le _, Nat.zero_le _, Nat.zero_le _, Nat.zero_le _⟩
  · split
    · unfold stalePath
      dsimp only
      split
      · exact ⟨h0, h1, h2, Nat.zero_le _, Nat.zero_le _⟩
      · exact ⟨h0, h1, h2, h3, (Nat.min_le_right ..).trans (Nat.min_le_right ..)⟩
    · exact fullPath_ok hpf

/-- An evaluation leaves the advised fields. -/
theorem evaluated_advice (v : View) (k : Fin 8) (l : StageLive) :
    (evaluated v k l).advice = l.advice ∧ (evaluated v k l).adviceSlot = l.adviceSlot := by
  unfold evaluated noLevelPath stalePath fullPath
  dsimp only
  split_ifs <;> exact ⟨rfl, rfl⟩

end Sys2Proof.Machine
end

section
/-!
PROOFS. The elementary changes keep the records of stages and pumps within their ranges (R33, R34, R58, R73, R111,
R114).
-/

namespace Sys2Proof.Machine

/-! ### Stage records -/

/-- A stage record within the ranges of R33, but for W where `free` says so; `blank` says whether it holds the values
of R34. -/
structure StageWithin (e : StageEntry) (free blank : Prop) (l : StageLive) : Prop where
  demands : l.d0 ≤ 1000 ∧ l.d1 ≤ 1000 ∧ l.d2 ≤ 1000 ∧ l.d3 ≤ 1000
  w : free ∨ l.w ≤ e.maxRunning
  reset : blank → l = { cause := l.cause }
  unadvised : l.advice = .none → l.adviceSlot = 0
  slot : l.adviceSlot ≤ 31

/-- Every stage record within its ranges. -/
def StagesWithin (tab : Settings) (free blank : Fin 8 → Prop) (x : Plant) : Prop :=
  ∀ k : Fin 8, StageWithin tab.t2[k] (free k) (blank k) (x.stage k)

/-- The values of R34 are within every range. -/
theorem StageWithin.blankStage (e : StageEntry) (free blank : Prop) (c : Cause) :
    StageWithin e free blank (blankStage c) :=
  ⟨⟨Nat.zero_le _, Nat.zero_le _, Nat.zero_le _, Nat.zero_le _⟩, .inr (Nat.zero_le _), fun _ => rfl, fun _ => rfl,
    Nat.zero_le _⟩

namespace StagesWithin

variable {tab : Settings} {free blank : Fin 8 → Prop} {x y : Plant} {k : Fin 8} {l : StageLive}

theorem of_stages (h : StagesWithin tab free blank x) (e : y.stages = x.stages) : StagesWithin tab free blank y := by
  intro k
  have := h k
  unfold Plant.stage at this ⊢
  rwa [e]

theorem setStage (h : StagesWithin tab free blank x) (hl : StageWithin tab.t2[k] (free k) (blank k) l) :
    StagesWithin tab free blank (x.setStage k l) := by
  intro k'
  by_cases hk : k' = k
  · subst hk
    rwa [Plant.stage_setStage_same]
  · rw [Plant.stage_setStage_ne x hk]
    exact h k'

end StagesWithin

theorem leaveQueue_stages (x : Plant) (p : Fin 32) : (x.leaveQueue p).stages = x.stages := by
  unfold Plant.leaveQueue; split <;> simp

@[simp] theorem escalate_stages (v : View) (r : Fin 10) (x : Plant) : (escalate v r x).stages = x.stages := by
  unfold escalate
  exact List.foldlRecOn (motive := fun y : Plant => y.stages = x.stages) _ _ rfl fun y hy e _ => by simp [hy]

theorem stagesWithin_kept {tab : Settings} {free blank : Fin 8 → Prop} (ht : ∀ k : Fin 8, tab.t2[k].ok)
    (hb : ∀ k : Fin 8, blank k → tab.t2[k].enabled = false) : Kept tab (StagesWithin tab free blank) where
  events hx _ := hx.of_stages rfl
  nextId _ hx := hx.of_stages rfl
  shortfall {x k} b hx on :=
    have hk := hx k
    hx.setStage ⟨hk.demands, hk.w, fun h => (by rw [hb k h] at on; cases on), hk.unadvised, hk.slot⟩
  advice {x k a n} hx on ha hn :=
    have hk := hx k
    hx.setStage ⟨hk.demands, hk.w, fun h => (by rw [hb k h] at on; cases on), ha, hn⟩
  spacing {x k t} hx on := by
    have hk := hx k
    refine hx.setStage ⟨hk.demands, hk.w, fun h => ?_, hk.unadvised, hk.slot⟩
    rcases on with on | rfl
    · rw [hb k h] at on
      cases on
    · rw [hk.reset h]
  quiet hx _ := hx.of_stages rfl
  report hx _ _ := hx.of_stages (by simp)
  move {x p _} hx _ _ _ := hx.of_stages (by simp [leaveQueue_stages])
  leave {x p _} hx _ _ _ := hx.of_stages (by simp [leaveQueue_stages])
  enqueue v _ hx _ := hx.of_stages (by simp [enqueue])
  record {x k} v c hv hx on := by
    subst hv
    have hk := hx k
    obtain ⟨o0, o1, o2, o3, ow⟩ := evaluated_ok (ht k) hk.demands
    obtain ⟨ea, en⟩ := evaluated_advice v k (x.stage k)
    exact hx.setStage ⟨⟨o0, o1, o2, o3⟩, .inr ow, fun h => (by rw [hb k h] at on; cases on),
      fun h => en.trans (hk.unadvised (ea.symm.trans h)), en.le.trans hk.slot⟩
  updateStages {x} m hx := by
    intro k
    have hk := hx k
    have e : (updateStages m x).stage k = updateStage m (x.stage k) := by simp [Plant.stage, updateStages]
    rw [e]
    refine ⟨hk.demands, hk.w, fun h => ?_, fun _ => rfl, Nat.zero_le _⟩
    rw [hk.reset h]
    simp [updateStage]
  manualRun v _ hx _ _ := hx.of_stages (manualRun_frame ..).1
  grant v _ hx _ _ := hx.of_stages (grant_frame ..).1
  mapQueue hx _ := hx.of_stages rfl
  scanDue _ hx := hx.of_stages (by simp)
  spacingExpires hx := hx.of_stages (by simp)
  escalate v r _ hx := hx.of_stages (by simp)

/-! ### Pump records -/

/-- Every pump record within its ranges. -/
def PumpsWithin (tab : Settings) (x : Plant) : Prop := ∀ p : Fin 32, (x.pump p).ok tab.t3[p]

namespace PumpsWithin

variable {tab : Settings} {x y : Plant} {p : Fin 32} {q : Pump}

theorem of_pumps (h : PumpsWithin tab x) (e : y.pumps = x.pumps) : PumpsWithin tab y := fun p => by
  rw [Plant.pump_congr e]
  exact h p

theorem setPump (h : PumpsWithin tab x) (hq : (x.pump p).ok tab.t3[p] → q.ok tab.t3[p]) :
    PumpsWithin tab (x.setPump p q) := by
  intro p'
  by_cases hp : p' = p
  · subst hp
    rw [Plant.pump_setPump_same]
    exact hq (h p')
  · rw [Plant.pump_setPump_ne x hp]
    exact h p'

/-- A start leaves the history and the counts. -/
theorem startedOn (h : PumpsWithin tab x) (v : View) (f : Feeder) (p : Fin 32) (g : Progress) :
    PumpsWithin tab (startedOn v f p g x) := by
  intro p'
  by_cases hp : p' = p
  · subst hp
    rw [startedOn_pump_same]
    exact h p'
  · rw [startedOn_pump_ne v f hp]
    exact h p'

end PumpsWithin

theorem leaveQueue_pumps (x : Plant) (p : Fin 32) : (x.leaveQueue p).pumps = x.pumps := by
  unfold Plant.leaveQueue; split <;> simp

theorem pumpsWithin_kept {tab : Settings} (ht : ∀ p : Fin 32, tab.t3[p].ok) : Kept tab (PumpsWithin tab) where
  events hx _ := hx.of_pumps rfl
  nextId _ hx := hx.of_pumps rfl
  shortfall _ hx _ := hx.of_pumps rfl
  advice hx _ _ _ := hx.of_pumps rfl
  spacing hx _ := hx.of_pumps rfl
  quiet {x p q'} hx hq := hx.setPump (hq.fits (by
    obtain ⟨_, _, _, _, _, _, _, _, _, _, _, _, _, _, _, _, _, _, _, h⟩ := ht p
    exact h))
  report hx _ ok := (hx.setPump ok).of_pumps (by simp)
  move {x p q'} hx _ _ ok := ((hx.of_pumps (leaveQueue_pumps x p)).setPump (q := q') (by simpa using ok)).of_pumps (by simp)
  leave {x p q'} hx _ _ ok := ((hx.of_pumps (leaveQueue_pumps x p)).setPump (q := q') (by simpa using ok)).of_pumps (by simp)
  enqueue {x p} v _ hx _ := (hx.setPump (p := p) (q := (x.pump p).goto .queued) id).of_pumps (by simp [enqueue])
  record _ _ _ hx _ := hx.of_pumps rfl
  updateStages _ hx := hx.of_pumps rfl
  manualRun v _ hx _ _ := by
    rw [manualRun_eq]
    exact (hx.startedOn v _ _ _).of_pumps (handCommitted_pumps ..)
  grant {x f e} v _ hx _ _ := by
    rw [grant_eq]
    have hy : PumpsWithin tab { x with queue := removeRequest e.pump x.queue } := hx.of_pumps rfl
    exact (hy.startedOn v _ _ _).of_pumps (handCommitted_pumps ..)
  mapQueue hx _ := hx.of_pumps rfl
  scanDue _ hx := hx.of_pumps (by simp)
  spacingExpires hx := hx.of_pumps (by simp)
  escalate v r _ hx := hx.of_pumps (by simp)

end Sys2Proof.Machine
end

section
/-!
PROOFS. The completion of a TABLE_WRITE brings every live record within the ranges of the written tables (R13, R14,
R34, R35, R55, R56), and every step keeps the live records within their ranges.
-/

namespace Sys2Proof.Machine

/-! ### Entries that a write leaves -/

/-- The request has no row for an entry that it does not write. -/
theorem rowFor_eq_none_iff {rows : List Row} {table index : Nat} :
    rowFor rows table index = none ↔ touchesEntry rows table index = false := by
  rw [← Bool.not_eq_true]
  simp [rowFor, touchesEntry]

theorem asWritten_untouched {α : Type} {rows : List Row} {table index : Nat} {of : List Word → α} {old : α}
    (h : touchesEntry rows table index = false) : asWritten rows table index of old = old := by
  rw [asWritten, rowFor_eq_none_iff.2 h]

/-- The entries of T1, T2 and T3 that a TABLE_WRITE does not write stand. -/
theorem judge_entries {s : Part} {rows : List Row} {new : Settings} {clamped : Bool}
    (h : judge s rows = .passed new clamped) :
    (∀ r : Fin 10, touchesEntry rows 1 r.val = false → new.t1[r] = s.tab.t1[r]) ∧
      (∀ k : Fin 8, touchesEntry rows 2 k.val = false → new.t2[k] = s.tab.t2[k]) ∧
      ∀ p : Fin 32, touchesEntry rows 3 p.val = false → new.t3[p] = s.tab.t3[p] := by
  obtain ⟨_, c1, c2, c3, _, _, _, _, _, _, -, -, h1, h2, h3, -⟩ := judge_passed h
  refine ⟨fun r hr => ?_, fun k hk => ?_, fun p hp => ?_⟩
  · split at h1
    · rw [((judgeT1_judged s.tab rows _ fun _ => rfl).of_passed h1).2.1 r, asWritten_untouched hr]
    · rw [h1.1]
  · split at h2
    · rw [((judgeT2_judged s.tab rows).of_passed h2).2.1 k, asWritten_untouched hk]
    · rw [h2.1]
  · split at h3
    · rw [((judgeT3_judged s rows _ fun _ => rfl).of_passed h3).2.1 p, asWritten_untouched hp]
    · rw [h3.1]

/-! ### The reservoir records (R12 to R14) -/

/-- The live record of a reservoir as a write of its entry leaves it (R12 to R14). -/
def writtenLevel (a b : ResEntry) (l : ResLive) : ResLive :=
  if a.enabled ≠ b.enabled ∨ a.kind ≠ b.kind then freshRecord b
  else if b.enabled && b.kind == .unmetered then { l with level := b.fs }
  else if b.enabled ∧ (a.fs ≠ b.fs ∨ a.la ≠ b.la ∨ a.ha ≠ b.ha ∨ a.ah ≠ b.ah) then updatedRecord b l
  else l

@[simp] theorem handState_levels (r : Fin 10) (a b : ResState) (s : Part) :
    (handState r a b s).levels = s.levels := by
  unfold handState; dsimp only; split_ifs <;> rfl

theorem reservoirWrite_levels (old : Settings) (s : Part) (r : Fin 10) :
    (reservoirWrite old s r).levels = s.levels.set r (writtenLevel old.t1[r] s.tab.t1[r] s.levels[r]) := by
  unfold reservoirWrite writtenLevel
  dsimp only
  split_ifs <;> simp

/-- The reservoirs' completion of a write, record by record. -/
theorem foldl_reservoirWrite_levels (old : Settings) {rs : List (Fin 10)} (hd : rs.Nodup) (s : Part) (r : Fin 10) :
    (rs.foldl (reservoirWrite old) s).levels[r] =
      if r ∈ rs then writtenLevel old.t1[r] s.tab.t1[r] s.levels[r] else s.levels[r] := by
  induction rs generalizing s with
  | nil => simp
  | cons r' rs ih =>
    obtain ⟨hr', hd⟩ := List.nodup_cons.1 hd
    rw [List.foldl_cons, ih hd, reservoirWrite_tab, reservoirWrite_levels]
    by_cases h : r = r'
    · subst h
      simp [hr']
    · have hne : r'.val ≠ r.val := fun e => h (Fin.ext e.symm)
      simp [h, hne]

theorem freshRecord_ok (e : ResEntry) : (freshRecord e).ok e := by
  unfold freshRecord
  split
  · next h =>
    simp only [Bool.and_eq_true, beq_iff_eq] at h
    exact ⟨Nat.le_refl _, Nat.zero_le _, by simp, by simp, fun _ => rfl, fun _ _ => rfl, fun h' => by
      rw [h.1] at h'; cases h'⟩
  · next h =>
    simp only [Bool.and_eq_true, beq_iff_eq] at h
    exact ⟨Nat.zero_le _, Nat.zero_le _, by simp, by simp, fun _ => rfl, fun he hk => absurd ⟨he, hk⟩ h, fun _ => rfl⟩

/-- Neither state without a level comes from the table with hysteresis (R8). -/
theorem hystState_level (e : ResEntry) (st : ResState) (l : Nat) :
    hystState e st l ≠ .unknown ∧ hystState e st l ≠ .stale := by
  unfold hystState bareState
  split <;> split_ifs <;> simp

theorem updatedRecord_ok {a b : ResEntry} {l : ResLive} (he : b.enabled = true) (hk : b.kind ≠ .unmetered)
    (h : l.ok a) : (updatedRecord b l).ok b := by
  obtain ⟨_, _, hlo, hhi, hrate, _, _⟩ := h
  have hoff : b.enabled = false → updatedRecord b l = {} := fun h' => by rw [he] at h'; cases h'
  have hunmetered : b.enabled = true → b.kind = .unmetered → updatedRecord b l = { level := b.fs, state := .normal } :=
    fun _ hu => absurd hu hk
  unfold updatedRecord at *
  dsimp only at *
  split
  · next hn =>
    rw [if_pos hn] at hoff hunmetered
    exact ⟨Nat.min_le_right .., Nat.min_le_right .., hlo, hhi, hrate, hunmetered, hoff⟩
  · next hn =>
    rw [if_neg hn] at hoff hunmetered
    refine ⟨Nat.min_le_right .., Nat.min_le_right .., hlo, hhi, fun hs => ?_, hunmetered, hoff⟩
    exact (hs.elim (hystState_level ..).1 (hystState_level ..).2).elim

/-- A write of an entry brings its record within the new ranges. -/
theorem writtenLevel_ok {a b : ResEntry} {l : ResLive} (h : l.ok a) : (writtenLevel a b l).ok b := by
  unfold writtenLevel
  split
  · exact freshRecord_ok b
  · next hsame =>
    simp only [ne_eq, not_or, not_not] at hsame
    obtain ⟨hen, hkind⟩ := hsame
    split
    · next hu =>
      simp only [Bool.and_eq_true, beq_iff_eq] at hu
      obtain ⟨_, _, _, _, _, hfixed, _⟩ := h
      rw [hfixed (hen.trans hu.1) (hkind.trans hu.2)]
      exact ⟨Nat.le_refl _, Nat.zero_le _, by simp, by simp, fun _ => rfl, fun _ _ => rfl, fun h' => by
        rw [hu.1] at h'; cases h'⟩
    · next hu =>
      simp only [Bool.and_eq_true, beq_iff_eq, not_and] at hu
      split
      · next hc => exact updatedRecord_ok hc.1 (hu hc.1) h
      · next hc =>
        by_cases he : b.enabled = true
        · have hfs : a.fs = b.fs := by
            by_contra hne
            exact hc ⟨he, .inl hne⟩
          obtain ⟨h1, h2, h3, h4, h5, _, h7⟩ := h
          exact ⟨hfs ▸ h1, hfs ▸ h2, h3, h4, h5, fun _ hk => absurd hk (hu he), fun h' => h7 (hen.trans h')⟩
        · have ha : a.enabled = false := hen.trans (Bool.eq_false_iff.2 he)
          obtain ⟨_, _, _, _, _, _, h7⟩ := h
          rw [h7 ha]
          exact ⟨Nat.zero_le _, Nat.zero_le _, by simp, by simp, fun _ => rfl, fun h' => absurd h' he, fun _ => rfl⟩

theorem boundaryEvent_levels (s : Part) : (boundaryEvent s).levels = s.levels := by
  unfold boundaryEvent; dsimp only; split_ifs <;> rfl

/-- The reservoir records after a TABLE_WRITE: each written one as its write leaves it, every other as it stood. -/
theorem applyWrite_levels (rows : List Row) (new : Settings) (s : Part) (r : Fin 10) :
    (applyWrite rows new s).levels[r] = if touchesEntry rows 1 r.val then writtenLevel s.tab.t1[r] new.t1[r] s.levels[r]
      else s.levels[r] := by
  have e : (applyWrite rows new s).levels = ((writtenReservoirs rows).foldl (reservoirWrite s.tab) (storeTables new
      (if touches rows 5 || touches rows 6 then settlePart (boundaryEvent s) else s))).levels := by
    unfold applyWrite recomputeClass quietWrite
    dsimp only
    split_ifs <;> rfl
  have e0 : (if touches rows 5 || touches rows 6 then settlePart (boundaryEvent s) else s).levels = s.levels := by
    split <;> simp [boundaryEvent_levels]
  have hm : r ∈ writtenReservoirs rows ↔ touchesEntry rows 1 r.val = true := by
    simp [writtenReservoirs, reservoirList]
  have hd : (writtenReservoirs rows).Nodup := (List.nodup_finRange 10).filter _
  rw [e, foldl_reservoirWrite_levels _ hd]
  simp only [hm, storeTables_tab, storeTables_levels, e0]

/-! ### The pump records (R55, R56) -/

/-- A pump record before the retry counts are lowered: the count of a written entry may stand above its limit. -/
def RetriesLag (rows : List Row) (new : Settings) (x : Plant) : Prop :=
  ∀ p : Fin 32, (x.pump p).history.length ≤ 12 ∧ (x.pump p).tripCount ≤ 4 ∧
    (touchesEntry rows 3 p.val = false → (x.pump p).retries ≤ new.t3[p].retryLimit)

theorem freshPump_ok (e e' : PumpEntry) : (freshPump e).ok e' := ⟨Nat.zero_le _, Nat.zero_le _, Nat.zero_le _⟩

theorem unassignedPump_ok (e e' : PumpEntry) : (unassignedPump e).ok e' :=
  ⟨Nat.zero_le _, Nat.zero_le _, Nat.zero_le _⟩

namespace RetriesLag

variable {rows : List Row} {new : Settings} {x y : Plant}

theorem of_pumps (h : RetriesLag rows new x) (e : y.pumps = x.pumps) : RetriesLag rows new y := fun p => by
  rw [Plant.pump_congr e]
  exact h p

theorem setPump (h : RetriesLag rows new x) {p : Fin 32} {q : Pump} (hq : q.ok new.t3[p]) :
    RetriesLag rows new (x.setPump p q) := by
  intro p'
  by_cases hp : p' = p
  · subst hp
    rw [Plant.pump_setPump_same]
    exact ⟨hq.1, hq.2.2, fun _ => hq.2.1⟩
  · rw [Plant.pump_setPump_ne x hp]
    exact h p'

theorem slotWrite (h : RetriesLag rows new x) (old : Settings) (p : Fin 32) :
    RetriesLag rows new (slotWrite old new x p) := by
  unfold Machine.slotWrite
  split
  · exact h
  · split
    · exact (h.of_pumps (dequeue_pumps p x)).setPump (freshPump_ok _ _)
    · exact (h.of_pumps ((leaveStarting_pumps ..).trans (dequeue_pumps p x))).setPump (unassignedPump_ok _ _)

/-- The retry counts after they are lowered, pump by pump. -/
theorem foldl_lowerRetries_pump (tab : Settings) (ps : List (Fin 32)) (x : Plant) (p : Fin 32) :
    ((ps.foldl (lowerRetries tab) x).pump p) =
      if p ∈ ps then { x.pump p with retries := min (x.pump p).retries tab.t3[p].retryLimit } else x.pump p := by
  induction ps generalizing x with
  | nil => simp
  | cons p' ps ih =>
    rw [List.foldl_cons, ih]
    by_cases h : p = p'
    · subst h
      simp [lowerRetries]
    · simp [lowerRetries, Plant.pump_setPump_ne _ h, h]

theorem lowerRetries (h : RetriesLag rows new x) : PumpsWithin new ((writtenSlots rows).foldl (lowerRetries new) x) := by
  intro p
  obtain ⟨hhist, htrip, hret⟩ := h p
  rw [foldl_lowerRetries_pump]
  split
  · exact ⟨hhist, Nat.min_le_right .., htrip⟩
  · next hm =>
    have : touchesEntry rows 3 p.val = false := by simpa [writtenSlots, slots] using hm
    exact ⟨hhist, hret this, htrip⟩

end RetriesLag

theorem foldl_rescan_pumps (old new : Settings) (ps : List (Fin 32)) (x : Plant) :
    (ps.foldl (rescan old new) x).pumps = x.pumps :=
  List.foldlRecOn (motive := fun y : Plant => y.pumps = x.pumps) ps _ rfl fun y hy p _ => by
    unfold rescan
    split
    · split <;> simp [hy]
    · exact hy

theorem pumpsWritten_within {rows : List Row} {old : Settings} {v : View} {x : Plant}
    (h : RetriesLag rows v.tab x) : PumpsWithin v.tab (pumpsWritten old rows v x) := by
  have hslots := List.foldlRecOn (motive := RetriesLag rows v.tab) slots (slotWrite old v.tab) h fun _ hy p _ =>
    hy.slotWrite old p
  have hz := hslots.lowerRetries.of_pumps (foldl_rescan_pumps old v.tab (writtenSlots rows) _)
  unfold pumpsWritten
  dsimp only
  split
  · exact hz.of_pumps (by simp)
  · exact hz

theorem pumpsWritten_stages (old : Settings) (rows : List Row) (v : View) (x : Plant) :
    (pumpsWritten old rows v x).stages = x.stages := by
  have h1 := List.foldlRecOn (motive := fun y : Plant => y.stages = x.stages) slots (slotWrite old v.tab) rfl
    fun y hy p _ => by unfold slotWrite; split_ifs <;> simp [hy]
  have h2 := List.foldlRecOn (motive := fun y : Plant => y.stages = x.stages) (writtenSlots rows) (lowerRetries v.tab)
    h1 fun _ hy p _ => hy
  have h3 := List.foldlRecOn (motive := fun y : Plant => y.stages = x.stages) (writtenSlots rows) (rescan old v.tab)
    h2 fun y hy p _ => by
      unfold rescan
      split
      · split <;> simp [hy]
      · exact hy
  unfold pumpsWritten
  dsimp only
  split <;> simpa using h3

/-! ### The stage records (R34, R35) -/

/-- The stage whose W a write of T2 may leave above its range until its evaluation. -/
def wLags (rows : List Row) (k : Fin 8) : Prop := touchesEntry rows 2 k.val = true

theorem StageWithin.weaken {e : StageEntry} {free free' blank blank' : Prop} {l : StageLive}
    (h : StageWithin e free blank l) (hf : free → free') (hb : blank' → blank) : StageWithin e free' blank' l :=
  ⟨h.demands, h.w.imp_left hf, h.reset ∘ hb, h.unadvised, h.slot⟩

/-- An evaluation brings W within its range. -/
theorem evaluate_within {v : View} {free blank : Fin 8 → Prop} {c : Cause} {x : Plant} {k : Fin 8}
    (ht : ∀ k : Fin 8, v.tab.t2[k].ok) (hb : ∀ k : Fin 8, blank k → v.tab.t2[k].enabled = false)
    (h : StagesWithin v.tab (fun k' => free k' ∨ (k' = k ∧ v.tab.t2[k].enabled = true)) blank x) :
    StagesWithin v.tab free blank (evaluate v c x k) := by
  have kept := stagesWithin_kept (free := free) ht hb
  unfold evaluate
  split
  · next on =>
    dsimp only
    have hset : StagesWithin v.tab free blank (x.setStage k { evaluated v k (x.stage k) with cause := c }) := by
      intro k'
      by_cases hk : k' = k
      · subst hk
        rw [Plant.stage_setStage_same]
        obtain ⟨o0, o1, o2, o3, ow⟩ := evaluated_ok (ht k') (h k').demands
        obtain ⟨ea, en⟩ := evaluated_advice v k' (x.stage k')
        exact ⟨⟨o0, o1, o2, o3⟩, .inr ow, fun hb' => (by rw [hb k' hb'] at on; cases on),
          fun ha => en.trans ((h k').unadvised (ea.symm.trans ha)), en.le.trans (h k').slot⟩
      · rw [Plant.stage_setStage_ne x hk]
        exact (h k').weaken (fun hf => hf.resolve_right fun hk' => hk hk'.1) id
    have hraise := kept.raiseOverride (x.stage k).override (evaluated v k (x.stage k)).override hset
    split
    · exact kept.toKeptByReconcile.reconcile hraise
    · exact hraise
  · next off =>
    exact fun k' => (h k').weaken (fun hf => hf.resolve_right fun hk' => off hk'.2) id

theorem foldl_evaluate_within {v : View} {blank : Fin 8 → Prop} {c : Cause} (ht : ∀ k : Fin 8, v.tab.t2[k].ok)
    (hb : ∀ k : Fin 8, blank k → v.tab.t2[k].enabled = false) (ks : List (Fin 8)) {x : Plant}
    (h : StagesWithin v.tab (fun k => k ∈ ks ∧ v.tab.t2[k].enabled = true) blank x) :
    StagesWithin v.tab (fun _ => False) blank (ks.foldl (evaluate v c) x) := by
  induction ks generalizing x with
  | nil => exact fun k => (h k).weaken (fun hf => by simp at hf) id
  | cons k ks ih =>
    rw [List.foldl_cons]
    refine ih (evaluate_within ht hb fun k' => (h k').weaken (fun hf => ?_) id)
    rcases List.mem_cons.1 hf.1 with e | hm
    · exact .inr ⟨e, e ▸ hf.2⟩
    · exact .inl ⟨hm, hf.2⟩

/-- The stage record after the writes of the enabled flags, stage by stage. -/
theorem foldl_stageWrite_stage (old new : Settings) (ks : List (Fin 8)) (x : Plant) (k : Fin 8) :
    ((ks.foldl (stageWrite old new) x).stage k) =
      if k ∈ ks ∧ old.t2[k].enabled ≠ new.t2[k].enabled then blankStage .tableWrite else x.stage k := by
  induction ks generalizing x with
  | nil => simp
  | cons k' ks ih =>
    rw [List.foldl_cons, ih]
    by_cases h : k = k'
    · subst h
      by_cases he : old.t2[k].enabled = new.t2[k].enabled
      · have e : stageWrite old new x k = x := if_pos he
        rw [e, if_neg fun h => h.2 he, if_neg fun h => h.2 he]
      · have e : stageWrite old new x k = x.setStage k (blankStage .tableWrite) := if_neg he
        rw [e, Plant.stage_setStage_same, ite_self, if_pos ⟨List.mem_cons_self, he⟩]
    · have e : (stageWrite old new x k').stage k = x.stage k := by
        unfold stageWrite
        split
        · rfl
        · exact Plant.stage_setStage_ne x h _
      rw [e]
      simp [h]

/-- The Demand Unit's completion brings the stage records within the ranges of the written T2. -/
theorem demandWrite_within {rows : List Row} {old : Settings} {v : View} {x : Plant} (ht : ∀ k : Fin 8, v.tab.t2[k].ok)
    (h : StagesWithin v.tab (wLags rows)
      (fun k => old.t2[k].enabled = false ∧ v.tab.t2[k].enabled = false) x) :
    StagesWithin v.tab (fun _ => False) (fun k => v.tab.t2[k].enabled = false) (demandWrite old rows v x) := by
  refine foldl_evaluate_within ht (fun _ => id) _ fun k => ?_
  rw [foldl_stageWrite_stage]
  split
  · exact StageWithin.blankStage ..
  · next hsame =>
    simp only [stageList, List.mem_finRange, true_and, ne_eq, not_not] at hsame
    have hk := h k
    have hreset : v.tab.t2[k].enabled = false → x.stage k = { cause := (x.stage k).cause } := fun off =>
      hk.reset ⟨hsame.trans off, off⟩
    refine ⟨hk.demands, ?_, hreset, hk.unadvised, hk.slot⟩
    by_cases on : v.tab.t2[k].enabled = true
    · refine hk.w.imp_left fun hw => ⟨?_, on⟩
      have hw' : touchesEntry rows 2 k.val = true := hw
      simp [stageList, writeEvaluates, hw']
    · rw [hreset (Bool.eq_false_iff.2 on)]
      exact .inr (Nat.zero_le _)

/-! ### Every step -/

/-- The live records within their ranges, the clock within a day and the tables within theirs. -/
def RecordsFine (s : Part) : Prop :=
  s.SettingsKept ∧ (∀ r : Fin 10, s.levels[r].ok s.tab.t1[r]) ∧
    (StagesWithin s.tab (fun _ => False) (fun k => s.tab.t2[k].enabled = false) s.plant ∧ PumpsWithin s.tab s.plant) ∧
    s.cal.minute < 1440 ∧ s.cal.second < 60

theorem stageWithin_iff {e : StageEntry} {blank : Prop} {l : StageLive} : StageWithin e False blank l ↔
    l.ok e ∧ (blank → l = { cause := l.cause }) ∧ (l.advice = .none → l.adviceSlot = 0) ∧ l.adviceSlot ≤ 31 :=
  ⟨fun ⟨⟨h0, h1, h2, h3⟩, hw, hr, ha, hs⟩ => ⟨⟨h0, h1, h2, h3, hw.resolve_left id⟩, hr, ha, hs⟩,
    fun ⟨⟨h0, h1, h2, h3, hw⟩, hr, ha, hs⟩ => ⟨⟨h0, h1, h2, h3⟩, .inr hw, hr, ha, hs⟩⟩

theorem recordsFine_iff (s : Part) : RecordsFine s ↔ s.SettingsKept ∧ s.RecordsKept := by
  simp only [RecordsFine, Part.RecordsKept, StagesWithin, PumpsWithin, stageWithin_iff, and_assoc]

theorem plantWithin_kept {tab : Settings} (h : tab.ok) :
    Kept tab fun x => StagesWithin tab (fun _ => False) (fun k => tab.t2[k].enabled = false) x ∧ PumpsWithin tab x :=
  (stagesWithin_kept h.2.1 fun _ => id).and (pumpsWithin_kept h.2.2.1)

/-- The stage and pump records after a TABLE_WRITE. -/
theorem applyWrite_within {rows : List Row} {new : Settings} {s : Part} {clamped : Bool} (hs : s.tab.ok)
    (hj : judge s rows = .passed new clamped)
    (hx : StagesWithin s.tab (fun _ => False) (fun k => s.tab.t2[k].enabled = false) s.plant ∧
      PumpsWithin s.tab s.plant) :
    StagesWithin new (fun _ => False) (fun k => new.t2[k].enabled = false) (applyWrite rows new s).plant ∧
      PumpsWithin new (applyWrite rows new s).plant := by
  have hnew := judge_ok hs hj
  obtain ⟨-, e2, e3⟩ := judge_entries hj
  have off : ∀ k : Fin 8, s.tab.t2[k].enabled = false ∧ new.t2[k].enabled = false → new.t2[k].enabled = false :=
    fun _ h => h.2
  have hN := (stagesWithin_kept (tab := new) (free := wLags rows) hnew.2.1 off).and (pumpsWithin_kept hnew.2.2.1)
  have h0 := applyWrite_boundary (rows := rows) (plantWithin_kept hs) hx
  refine applyWrite_plant
    (M := fun x => StagesWithin new (wLags rows) (fun k => s.tab.t2[k].enabled = false ∧ new.t2[k].enabled = false) x ∧
      RetriesLag rows new x)
    (K := fun x => StagesWithin new (fun _ => False) (fun k => new.t2[k].enabled = false) x ∧ PumpsWithin new x) hN
    ⟨?_, ?_⟩
    (fun v r _ hx => ⟨hx.1.of_stages (escalate_stages ..), hx.2.of_pumps (escalate_pumps ..)⟩)
    (fun e hx => ⟨hx.1.of_stages rfl, hx.2.of_pumps rfl⟩)
    (fun v hv hx => ?_) (fun v hv hx => ?_)
  · intro k
    have hk := h0.1 k
    refine ⟨hk.demands, ?_, fun h => hk.reset h.1, hk.unadvised, hk.slot⟩
    by_cases ht : touchesEntry rows 2 k.val = true
    · exact .inl ht
    · rw [e2 k (Bool.eq_false_iff.2 ht)]
      exact .inr (hk.w.resolve_left id)
  · intro p
    obtain ⟨hhist, hret, htrip⟩ := h0.2 p
    refine ⟨hhist, htrip, fun ht => ?_⟩
    rw [e3 p ht]
    exact hret
  · subst hv
    exact ⟨hx.1.of_stages (pumpsWritten_stages ..), pumpsWritten_within hx.2⟩
  · subst hv
    refine ⟨demandWrite_within hnew.2.1 hx.1, ?_⟩
    exact (pumpsWithin_kept hnew.2.2.1).demandWrite _ _ (fun k hy _ => hy.of_pumps rfl) hx.2

/-- Of the clock a TABLE_WRITE leaves all but the class held and the boundary mark. -/
theorem applyWrite_clock (rows : List Row) (new : Settings) (s : Part) :
    (applyWrite rows new s).cal.uptime = s.cal.uptime ∧ (applyWrite rows new s).cal.clockSet = s.cal.clockSet ∧
      (applyWrite rows new s).cal.day = s.cal.day ∧ (applyWrite rows new s).cal.minute = s.cal.minute ∧
      (applyWrite rows new s).cal.second = s.cal.second := by
  have hres : ∀ (rs : List (Fin 10)) (t : Part), (rs.foldl (reservoirWrite s.tab) t).cal = t.cal := fun rs t =>
    List.foldlRecOn (motive := fun u : Part => u.cal = t.cal) rs _ rfl fun u hu r _ => by
      rw [← hu]
      unfold reservoirWrite handState
      dsimp only
      split_ifs <;> rfl
  have hbound : (boundaryEvent s).cal.uptime = s.cal.uptime ∧ (boundaryEvent s).cal.clockSet = s.cal.clockSet ∧
      (boundaryEvent s).cal.day = s.cal.day ∧ (boundaryEvent s).cal.minute = s.cal.minute ∧
      (boundaryEvent s).cal.second = s.cal.second := by
    unfold boundaryEvent; dsimp only; split_ifs <;> exact ⟨rfl, rfl, rfl, rfl, rfl⟩
  unfold applyWrite recomputeClass quietWrite
  dsimp only
  split_ifs <;> simp [hres, hbound]

/-- The records after a reset are within their ranges. -/
theorem reset_within {tab : Settings} (w : Events) :
    StagesWithin tab (fun _ => False) (fun k => tab.t2[k].enabled = false) (resetPlant tab w) ∧
      PumpsWithin tab (resetPlant tab w) := by
  refine ⟨fun k => ?_, fun p => ?_⟩
  · rw [show (resetPlant tab w).stage k = blankStage .none by simp [resetPlant, Plant.stage, blankStage]]
    exact StageWithin.blankStage ..
  · rw [resetPlant_pump]
    split
    · exact freshPump_ok _ _
    · exact unassignedPump_ok _ _

theorem resetLevels_ok (tab : Settings) (r : Fin 10) : (resetLevels tab)[r].ok tab.t1[r] := by
  simpa [resetLevels] using freshRecord_ok tab.t1[r]

/-- The records of a part without power are within the ranges of the default tables. -/
theorem unpowered_within : (∀ r : Fin 10, ({} : Part).levels[r].ok ({} : Part).tab.t1[r]) ∧
    (StagesWithin {} (fun _ => False) (fun k => ({} : Settings).t2[k].enabled = false) {} ∧ PumpsWithin {} {}) ∧
    ({} : Calendar).minute < 1440 ∧ ({} : Calendar).second < 60 := by
  refine ⟨fun r => ?_, ⟨fun k => ?_, fun p => ?_⟩, Nat.zero_lt_succ 1439, Nat.zero_lt_succ 59⟩
  · have el : ({} : Part).levels[r] = freshRecord {} := by simp [freshRecord]
    have et : ({} : Part).tab.t1[r] = {} := by simp
    rw [el, et]
    exact freshRecord_ok {}
  · rw [show ({} : Plant).stage k = blankStage .none by simp [Plant.stage, blankStage]]
    exact StageWithin.blankStage ..
  · rw [unpowered_pump]
    exact ⟨Nat.zero_le _, Nat.zero_le _, Nat.zero_le _⟩

theorem tick_clock {c : Calendar} (h : c.minute < 1440 ∧ c.second < 60) :
    c.tick.minute < 1440 ∧ c.tick.second < 60 := by
  unfold Calendar.tick
  split_ifs with h1 h2 h3
  · exact ⟨h.1, h2⟩
  · exact ⟨h3, Nat.zero_lt_succ 59⟩
  · exact ⟨Nat.zero_lt_succ 1439, Nat.zero_lt_succ 59⟩
  · exact h

theorem advance_fine {s : Part} (h : RecordsFine s) : RecordsFine (advance s) := by
  obtain ⟨hset, hlevels, hplant, hclock⟩ := h
  refine ⟨advance_settingsKept hset, fun r => ?_, ?_, ?_⟩
  · obtain ⟨h1, h2, h3, h4, h5, h6, h7⟩ := hlevels r
    have e1 : (advance s).tab.t1[r] = s.tab.t1[r] := by unfold advance; rfl
    have e : ∃ b : Bool, (advance s).levels[r] = { s.levels[r] with staleDue := b } ∧
        (b = true → staleTested s.tab.t1[r] s.levels[r] = true) := by
      refine ⟨_, by unfold advance; simp only [Fin.getElem_fin, Vector.getElem_ofFn]; rfl, fun hb => ?_⟩
      simp only [staleReached, Bool.and_eq_true] at hb
      exact hb.1
    obtain ⟨b, el, hb⟩ := e
    rw [e1, el]
    have hno : staleTested s.tab.t1[r] s.levels[r] = false → b = false := fun h => by
      cases b
      · rfl
      · rw [hb rfl] at h; cases h
    refine ⟨h1, h2, h3, h4, h5, fun he hk => ?_, fun he => ?_⟩
    · rw [hno (by rw [staleTested, he, hk]; rfl), h6 he hk]
    · rw [hno (by rw [staleTested, he]; rfl), h7 he]
  · rw [advance_plant]
    obtain ⟨e2, e3, -⟩ := advance_tables s
    exact ⟨fun k => by rw [e2]; exact hplant.1 k, fun p => by rw [e3]; exact hplant.2 p⟩
  · unfold advance
    exact tick_clock hclock

theorem recordsFine_keptByStep : KeptByStep RecordsFine where
  plant s := by
    by_cases h : s.SettingsKept
    · exact (kept_const s.tab s.SettingsKept).and ((kept_const s.tab (∀ r : Fin 10, s.levels[r].ok s.tab.t1[r])).and
        ((plantWithin_kept h.1).and (kept_const s.tab (s.cal.minute < 1440 ∧ s.cal.second < 60))))
    · have e : (fun x => RecordsFine { s with plant := x }) = fun _ => False :=
        funext fun x => propext ⟨fun hx => h hx.1, False.elim⟩
      rw [e]
      exact kept_const s.tab False
  line hs _ := hs
  level {s r l} hs hl := by
    obtain ⟨hset, hlevels, hrest⟩ := hs
    refine ⟨hset, fun r' => ?_, hrest⟩
    by_cases h : r' = r
    · subst h
      simpa using hl (hlevels r')
    · have hne : r.val ≠ r'.val := fun e => h (Fin.ext e.symm)
      simpa [Part.setLevel, hne] using hlevels r'
  clock hs hc := ⟨hs.1, hs.2.1, hs.2.2.1, hc hs.2.2.2⟩
  mgmt hs hm := ⟨hm hs.1, hs.2⟩
  pins _ _ _ hs := hs
  free _ hs := hs
  advance hs := advance_fine hs
  write {s rows new _} hs hj := by
    obtain ⟨hset, hlevels, hplant, hclock⟩ := hs
    refine ⟨settingsKept_keptByStep.write hset hj, fun r => ?_, ?_, ?_⟩
    · rw [applyWrite_tab, applyWrite_levels]
      split
      · exact writtenLevel_ok (hlevels r)
      · next ht =>
        rw [(judge_entries hj).1 r (Bool.eq_false_iff.2 ht)]
        exact hlevels r
    · rw [applyWrite_tab]
      exact applyWrite_within hset.1 hj hplant
    · obtain ⟨-, -, -, em, es⟩ := applyWrite_clock rows new s
      rw [em, es]
      exact hclock
  restart _ hs := ⟨hs.1, resetLevels_ok _, reset_within _, hs.2.2.2⟩
  powerOn {s} straps hs := by
    refine ⟨settingsKept_keptByStep.powerOn straps hs.1, ?_⟩
    unfold powerOnEvent
    dsimp only
    split <;> exact ⟨resetLevels_ok _, reset_within _, Nat.zero_lt_succ 1439, Nat.zero_lt_succ 59⟩
  resetInput {s} phase hs := by
    refine ⟨settingsKept_keptByStep.resetInput phase hs.1, ?_⟩
    unfold resetInputEvent
    split
    · split <;> exact hs.2
    · split
      · exact hs.2
      · exact ⟨resetLevels_ok _, reset_within _, Nat.zero_lt_succ 1439, Nat.zero_lt_succ 59⟩
      · exact hs.2
  powerLoss {s} hs := by
    refine ⟨settingsKept_keptByStep.powerLoss hs.1, ?_⟩
    unfold powerLossEvent
    split
    · exact hs.2
    · exact unpowered_within

/-- Settles O4: the judgement of a TABLE_WRITE passes tables within their ranges alone, and the elementary changes, the
completion of a write and resets keep the records within the ranges of the tables. -/
theorem stepKeepsSettings : Obligations.StepKeepsSettings :=
  ⟨fun _ _ hs ht => settingsKept_keptByStep.step hs ht, fun s t hs hr ht =>
    ((recordsFine_iff t.part).1 (recordsFine_keptByStep.step ((recordsFine_iff s.part).2 ⟨hs, hr⟩) ht)).2⟩

end Sys2Proof.Machine
end

section
/-!
PROOFS. The level states, the demand computation of a stage step by step, the suction cap and the paths of an
evaluation (R7, R8, R33, R36 to R46).
-/

namespace Sys2Proof.Machine

/-! ### Clamping into a range -/

theorem clampInt_eq {lo hi : Int} (h : lo ≤ hi) (n : Int) : clampInt lo hi n = max lo (min hi n) := by
  unfold clampInt
  split_ifs <;> omega

theorem clamp_eq {lo hi : Nat} (h : lo ≤ hi) (n : Nat) : clamp lo hi n = max lo (min hi n) := by
  unfold clamp
  split_ifs <;> omega

/-! ### The level states (R7, R8) -/

/-- Settles O20: the bare thresholds and each row of the table with hysteresis. -/
theorem levelStates : Obligations.LevelStates := by
  intro e rec l hlaha
  refine ⟨fun hs => ?_, fun hs => ?_, fun hs => ?_⟩
  · have hbare : arrivalState e rec l = bareState e l := by
      rcases hs with hs | hs | hs <;> simp [arrivalState, ResLive.noLevel, hs, hystState]
    rw [hbare, bareState]
    exact ⟨fun h => if_pos h, fun h => by rw [if_neg (by omega), if_pos h],
      fun h => by rw [if_neg (by omega), if_neg (by omega)]⟩
  · have hlow : arrivalState e rec l = hystState e .lowAlarm l := by simp [arrivalState, ResLive.noLevel, hs]
    rw [hlow, hystState]
    exact ⟨fun h => if_pos h, fun h => by rw [if_neg (by omega), if_pos h],
      fun h => by rw [if_neg (by omega), if_neg (by omega)]⟩
  · have hhigh : arrivalState e rec l = hystState e .highAlarm l := by simp [arrivalState, ResLive.noLevel, hs]
    rw [hhigh, hystState]
    exact ⟨fun h => if_pos h, fun h => by rw [if_neg (by omega), if_pos h],
      fun h => by rw [if_neg (by omega), if_neg (by omega)]⟩

/-! ### The demand steps (R37 to R40) -/

/-- The effective band of an entry whose targets are in order lies between its alarm thresholds (R37). -/
theorem band_ordered {e : ResEntry} (h1 : e.la < e.tlb) (h2 : e.tlb < e.thb) (h3 : e.thb < e.ha) (c : TariffClass) :
    (e.la : Int) < bandLow e c ∧ bandLow e c < bandHigh e c ∧ bandHigh e c < e.ha := by
  have hh := clampInt_bounds (lo := (e.la : Int) + 2) (hi := (e.ha : Int) - 1) (by omega) ((e.thb : Int) + bandShift e c)
  have hl := clampInt_bounds (lo := (e.la : Int) + 1) (hi := bandHigh e c - 1) (by unfold bandHigh; omega)
    ((e.tlb : Int) + bandShift e c)
  have e1 : bandHigh e c = clampInt ((e.la : Int) + 2) ((e.ha : Int) - 1) ((e.thb : Int) + bandShift e c) := rfl
  have e2 : bandLow e c = clampInt ((e.la : Int) + 1) (bandHigh e c - 1) ((e.tlb : Int) + bandShift e c) := rfl
  omega

theorem bandHigh_eq {e : ResEntry} (h : e.la + 2 < e.ha) (c : TariffClass) :
    bandHigh e c = max ((e.la : Int) + 2) (min ((e.ha : Int) - 1) ((e.thb : Int) + bandShift e c)) :=
  clampInt_eq (by omega) _

theorem bandLow_eq {e : ResEntry} (h : e.la + 2 < e.ha) (c : TariffClass) :
    bandLow e c = max ((e.la : Int) + 1) (min (bandHigh e c - 1) ((e.tlb : Int) + bandShift e c)) :=
  clampInt_eq (by rw [bandHigh_eq h]; omega) _

/-- Inside the band the demand falls with the level (R38). -/
theorem bandDemand_inside {tl th l : Nat} (h1 : tl < l) (h2 : l < th) :
    bandDemand tl th l = (th - l) * 1000 / (th - tl) := by
  have hn : ((th : Int) - l) * 1000 / ((th : Int) - tl) = (((th - l) * 1000 / (th - tl) : Nat) : Int) := by
    rw [← Nat.cast_sub h2.le, ← Nat.cast_sub (h1.trans h2).le]
    norm_cast
  rw [bandDemand, if_neg (by omega), if_neg (by omega), hn, Int.toNat_natCast]

/-- Settles O22: the band by its clamps, and each demand step by its cases. -/
theorem demandSteps : Obligations.DemandSteps := by
  refine ⟨fun e h1 h2 h3 => ?_, fun tl th l h => ?_, fun tl th l d0 kr r => ?_, fun low c d1 pf => ?_⟩
  · have hla : e.la + 2 < e.ha := by omega
    refine ⟨band_ordered h1 h2 h3, ?_, ?_, ?_, ?_, ?_, ?_⟩ <;>
      simp only [bandLow_eq hla, bandHigh_eq hla, bandShift] <;> omega
  · refine ⟨fun hl => if_pos (by omega), fun hl => by rw [bandDemand, if_neg (by omega), if_pos (by omega)],
      fun hlo hhi => ?_⟩
    rw [bandDemand_inside hlo hhi]
    refine ⟨rfl, Nat.le_of_lt_succ ((Nat.div_lt_iff_lt_mul (by omega)).2 ?_)⟩
    omega
  · refine ⟨fun hlo hhi => ?_, fun hout => if_neg (by omega)⟩
    have hb := clampInt_eq (lo := 0) (hi := 1000) (by decide) ((d0 : Int) + (kr : Int) * r)
    rw [trendDemand, if_pos ⟨hlo, hhi⟩, hb, Int.toNat_of_nonneg (by omega)]
  · exact ⟨fun h => if_pos h, fun h hc => by rw [tariffDemand, if_neg (by simp [h]), if_pos hc],
      fun h hc => by rw [tariffDemand, if_neg (by simp [h]), if_neg hc]⟩

/-! ### The suction cap (R41) -/

/-- Settles O23: each row of R41. -/
theorem suctionCap_rows : Obligations.SuctionCap := by
  intro e l sb
  refine ⟨fun he hk => by simp [Machine.suctionCap, dryCondition, he, hk], fun hno => ?_⟩
  have hu : (e.enabled && e.kind == .unmetered) = false := by
    rw [← Bool.not_eq_true, Bool.and_eq_true, beq_iff_eq]
    exact hno
  refine ⟨fun hs => ?_, fun hs => ?_⟩
  · have hd : dryCondition e l = true := by rcases hs with hs | hs | hs <;> simp [dryCondition, hu, hs]
    exact ⟨by rw [Machine.suctionCap, hu, if_neg (by simp), if_pos hd], hd⟩
  · have hd : dryCondition e l = false := by rcases hs with hs | hs <;> simp [dryCondition, hs]
    refine ⟨hd, fun h => ?_, fun h0 hlt => ?_⟩
    · rw [Machine.suctionCap, hu, hd, if_neg (by simp), if_neg (by simp), if_pos h]
    · have hcap : Machine.suctionCap e l sb = (l.level - e.la) * 1000 / sb := by
        rw [Machine.suctionCap, hu, hd, if_neg (by simp), if_neg (by simp), if_neg (by omega)]
      rw [hcap]
      refine ⟨rfl, Nat.le_of_lt_succ ((Nat.div_lt_iff_lt_mul (by omega)).2 ?_)⟩
      omega

/-! ### The paths of an evaluation (R36, R42, R45, R46) -/

/-- A delivery reservoir without a level takes the no level path (R36, R45). -/
theorem evaluated_noLevel {v : View} {k : Fin 8} {l : StageLive}
    (h : v.tab.t1[v.tab.t2[k].delivery].enabled = false ∨ v.tab.t1[v.tab.t2[k].delivery].kind = .unmetered ∨
      v.levels[v.tab.t2[k].delivery].state = .unknown) : evaluated v k l = noLevelPath v k l := by
  unfold evaluated
  dsimp only
  refine if_pos ?_
  rcases h with h | h | h <;> rw [h] <;> simp

/-- A stale delivery reservoir takes the stale hold path (R36, R46). -/
theorem evaluated_stale {v : View} {k : Fin 8} {l : StageLive} (he : v.tab.t1[v.tab.t2[k].delivery].enabled = true)
    (hk : v.tab.t1[v.tab.t2[k].delivery].kind = .metered) (hs : v.levels[v.tab.t2[k].delivery].state = .stale) :
    evaluated v k l = stalePath v k l := by
  unfold evaluated
  dsimp only
  rw [he, hk, hs]
  rfl

/-- A delivery reservoir with a level takes the full computation (R36). -/
theorem evaluated_full {v : View} {k : Fin 8} {l : StageLive} (he : v.tab.t1[v.tab.t2[k].delivery].enabled = true)
    (hk : v.tab.t1[v.tab.t2[k].delivery].kind = .metered) (hu : v.levels[v.tab.t2[k].delivery].state ≠ .unknown)
    (hs : v.levels[v.tab.t2[k].delivery].state ≠ .stale) : evaluated v k l = fullPath v k l := by
  unfold evaluated
  dsimp only
  rw [he, hk, if_neg, if_neg hs]
  simpa using hu

/-- Settles O25: each path by its conditions, the ranges by `evaluated_ok`, and the order of the stages. -/
theorem evaluationPathsInRange : Obligations.EvaluationPathsInRange := by
  refine ⟨?_, fun v k l he hl => evaluated_ok he ⟨hl.1, hl.2.1, hl.2.2.1, hl.2.2.2.1⟩, fun v r changed c x =>
    ⟨rfl, rfl⟩⟩
  rintro v k l new e d dl dry rfl rfl rfl rfl rfl
  refine ⟨fun h => evaluated_noLevel h, fun he hk hs => evaluated_stale he hk hs, fun he hk hu hs => ?_⟩
  rw [evaluated_full he hk hu hs]
  unfold fullPath
  extract_lets e de dl se sl th tl d0 d1 d2 d3
  by_cases hd : dryCondition se sl = true
  · rw [if_pos hd]
    exact ⟨rfl, rfl, rfl, rfl, fun _ => ⟨rfl, rfl⟩, fun h => absurd (h.symm.trans hd) (by decide),
      fun h => absurd (h.symm.trans hd) (by decide), rfl, rfl, rfl, rfl⟩
  · rw [if_neg hd]
    by_cases hh : dl.state = .highAlarm
    · rw [if_pos hh]
      exact ⟨rfl, rfl, rfl, rfl, fun h => absurd h hd, fun _ _ => ⟨rfl, rfl⟩, fun _ h => absurd hh h, rfl, rfl, rfl,
        rfl⟩
    · rw [if_neg hh]
      exact ⟨rfl, rfl, rfl, rfl, fun h => absurd h hd, fun _ h => absurd h hh, fun _ _ => ⟨rfl, rfl⟩, rfl, rfl, rfl,
        rfl⟩

end Sys2Proof.Machine
end

section
/-!
PROOFS. The time-driven events of reservoirs, pumps, stages and feeders, and the loss of the upline (R9, R65, R68, R72
to R74, R86, R103, R113, R115, R116, R118, R137, R159).
-/

namespace Sys2Proof.Machine

/-- A command whose event is an operation of the scheduling blocks ends with the records as that operation leaves
them. -/
theorem exec_onPlant {c : Instr} {f : View → Plant → Plant} (hc : ofPower c = false)
    (he : eventOf c = fun t => t.onPlant f) {s : State} (hp : s.part.power = .on) :
    exec c s = .next (s.ending (f s.part.view s.part.plant)) := by
  rw [exec_running hc hp, he]
  rfl

/-! ### The expiries of a pump's timers -/

/-- Settles O15: each event by its cases. -/
theorem pumpTimersExpire : Obligations.PumpTimersExpire := by
  refine ⟨fun p s hp => ⟨fun hd => ⟨_, rfl, ?_⟩, fun hd hs => ⟨_, rfl, ?_⟩⟩,
    fun p s hp => ⟨fun hd hs => ⟨_, rfl, ?_⟩, fun hd hst => ⟨_, exec_running rfl hp, rfl, ?_⟩⟩⟩
  · rw [exec_onPlant (f := fun v => minRunEvent v p) rfl rfl hp]
    simp only [minRunEvent, Part.view, hd, if_true, minRunExpires]
  · rw [exec_onPlant (f := fun v => minRestEvent v p) rfl rfl hp]
    simp only [minRestEvent, Part.view, hd, if_true, hs]
    rfl
  · rw [exec_onPlant (f := fun v => retryEvent v p) rfl rfl hp]
    simp only [retryEvent, Part.view, hd, if_true, hs, leaveTripped, true_and, Bool.not_eq_true']
  · have e : eventOf (.provingExpiry p) s.part = { s.part with
        plant := s.part.plant.setPump p { s.part.plant.pump p with provingT := none, retries := 0 } } := by
      simp only [eventOf, Part.onPlant, provingEvent, Part.view, hd, if_true]
    have hset : Settled (s.part.plant.setPump p { s.part.plant.pump p with provingT := none, retries := 0 }) := hst.2.1
    simp only [State.endingAt, e, finish_plant]
    exact ⟨settle_settled _ hset, rfl, rfl, rfl, rfl, rfl, rfl, rfl⟩

/-- Settles O16: the commands that the confirm timers clear, and the ends of the two waits. -/
theorem confirmTimersExpire : Obligations.ConfirmTimersExpire := by
  intro p s hp
  refine ⟨fun hd => ?_, fun hd => ⟨_, rfl, ?_⟩⟩
  · rw [exec_onPlant (f := fun v => startConfirmEvent v p) rfl rfl hp]
    simp only [startConfirmEvent, Part.view, hd, if_true, noFeedbackTrip]
    refine ⟨_, ?_, ?_, ?_, rfl⟩
    · split <;> exact ⟨rfl, rfl, rfl, rfl, rfl⟩
    · have r := (OnlyPump.refl p s.part.plant).setPump (s.part.plant.pump p).dropCmd
      exact OnlyPump.ite (r.makePending _ _) r
    · by_cases hr : (s.part.plant.pump p).reachable = true
      · have hr' : (s.part.plant.pump p).owner ≠ .outOfService ∧ (s.part.plant.pump p).localSel = false := by
          simpa [Pump.reachable] using hr
        rw [if_pos hr, if_pos hr']
        simp [Plant.makePending, Plant.pump, Plant.setPump, Pump.dropCmd]
      · have hr' : ¬((s.part.plant.pump p).owner ≠ .outOfService ∧ (s.part.plant.pump p).localSel = false) := by
          simpa [Pump.reachable] using hr
        rw [if_neg hr, if_neg hr', Plant.pump_setPump_same]
        rfl
  · rw [exec_onPlant (f := fun v => stopConfirmEvent v p) rfl rfl hp]
    simp only [stopConfirmEvent, Part.view, hd, if_true, Plant.setPump_setPump, Plant.pump_setPump_same]
    congr 2
    split_ifs <;> rfl

/-! ### Spacing timers and start slots -/

/-- Settles O17: the two expiries, and the start slots as leaving STARTING leaves them. -/
theorem spacingTimersExpire : Obligations.SpacingTimersExpire := by
  refine ⟨fun k s hp hd => ?_, fun f s hp hd => ?_, ?_⟩
  · rw [exec_onPlant (f := fun v => stopSpacingEvent v k) rfl rfl hp]
    simp only [stopSpacingEvent, Part.view, hd, if_true]
  · rw [exec_onPlant (f := fun v => feederSpacingEvent v f) rfl rfl hp]
    simp only [feederSpacingEvent, Part.view, hd, if_true, FeederLive.spacingExpires, FeederLive.release,
      Bool.and_eq_true]
  · rintro p x y rfl
    refine ⟨rfl, ?_⟩
    rintro f l rfl
    have e : (leaveStarting p x).feeder f = (x.feeder f).holderLeaves p := by cases f <;> rfl
    rw [e, FeederLive.holderLeaves]
    simp only [Bool.and_eq_true, beq_iff_eq, Bool.not_eq_true', and_assoc, FeederLive.release]
    split
    · cases (x.feeder f).spacingT <;> simp
    · rfl

/-! ### Writes of several pump records -/

theorem mem_stageSlots {k : Fin 8} {p : Fin 32} : p ∈ stageSlots k ↔ stageOf p = k := by
  simp only [stageSlots, List.mem_cons, List.not_mem_nil, or_false, slotAt, stageOf, Fin.ext_iff]
  omega

theorem stageSlots_nodup (k : Fin 8) : (stageSlots k).Nodup := by
  simp [stageSlots, slotAt, Fin.ext_iff]

/-- The pump records after one change of each slot of a list. -/
theorem foldl_setPump_pump (g : Pump → Pump) {ps : List (Fin 32)} (hd : ps.Nodup) (x : Plant) (p : Fin 32) :
    (ps.foldl (fun z p => z.setPump p (g (z.pump p))) x).pump p = if p ∈ ps then g (x.pump p) else x.pump p := by
  induction ps generalizing x with
  | nil => simp
  | cons p' ps ih =>
    obtain ⟨hp', hd⟩ := List.nodup_cons.1 hd
    rw [List.foldl_cons, ih hd]
    by_cases h : p = p'
    · subst h
      simp [hp']
    · simp [Plant.pump_setPump_ne _ h, h]

theorem foldl_setPump_onlyPumps (g : Pump → Pump) (ps : List (Fin 32)) (x : Plant) :
    OnlyPumps x (ps.foldl (fun z p => z.setPump p (g (z.pump p))) x) :=
  List.foldlRecOn (motive := OnlyPumps x) ps _ ⟨rfl, rfl, rfl, rfl, rfl⟩ fun _ hy _ _ => hy

/-! ### The ageing of start histories (R73, R74) -/

theorem startLimited_eq_true (tab : Settings) (p : Fin 32) (q : Pump) :
    startLimited tab p q = true ↔ tab.t3[p].startsPerHour ≤ q.history.length := decide_eq_true_iff

theorem startLimited_eq_false (tab : Settings) (p : Fin 32) (q : Pump) :
    startLimited tab p q = false ↔ q.history.length < tab.t3[p].startsPerHour :=
  decide_eq_false_iff_not.trans Nat.not_le

/-- A pump record whose aged starts have left its history (R73). -/
def Pump.aged (now : Uptime) (q : Pump) : Pump := { q with history := youngStarts now q.history }

/-- The records of a stage's pumps after the ageing of their histories. -/
def agedPlant (now : Uptime) (k : Fin 8) (x : Plant) : Plant :=
  (stageSlots k).foldl (fun z p => z.setPump p ((z.pump p).aged now)) x

theorem ageingEvent_eq (v : View) (k : Fin 8) (x : Plant) : ageingEvent v k x =
    if (stagePumps v.tab k).any fun p =>
        startLimited v.tab p (x.pump p) && !startLimited v.tab p ((agedPlant v.now k x).pump p)
    then reconcile v k (agedPlant v.now k x) else agedPlant v.now k x := rfl

/-- Settles O14: the aged starts leave every history of the stage's pumps, and the pumps whose limit ends are those
that the event counts. -/
theorem agedStartsLeave : Obligations.AgedStartsLeave := by
  intro k s hp
  rw [exec_onPlant (f := fun v => ageingEvent v k) rfl rfl hp, ageingEvent_eq]
  refine ⟨agedPlant s.part.cal.uptime k s.part.plant, foldl_setPump_onlyPumps (Pump.aged _) _ _, fun p => ?_, ?_⟩
  · rw [agedPlant, foldl_setPump_pump (Pump.aged _) (stageSlots_nodup k)]
    exact if_congr mem_stageSlots rfl rfl
  · refine congrArg (fun y => Host.Outcome.next (s.ending y)) (if_congr ?_ rfl rfl)
    simp only [List.any_eq_true, stagePumps, List.mem_filter, mem_stageSlots, startLimited_eq_true,
      startLimited_eq_false, Bool.and_eq_true, Bool.not_eq_true', and_assoc, Part.view]

/-! ### The loss of the upline (R137, R159) -/

/-- MANUAL pumps that become AUTO change their ownership and nothing else (R153, R159). -/
theorem foldl_changeOwner_auto (v : View) {ps : List (Fin 32)} (hd : ps.Nodup) {x : Plant}
    (hm : ∀ p ∈ ps, (x.pump p).owner = .manual) :
    ps.foldl (fun y p => changeOwner v p .auto y) x =
      ps.foldl (fun y p => y.setPump p { y.pump p with owner := .auto }) x := by
  induction ps generalizing x with
  | nil => rfl
  | cons p ps ih =>
    obtain ⟨hp, hd⟩ := List.nodup_cons.1 hd
    have hown : (x.pump p).owner = .manual := hm p List.mem_cons_self
    have e : changeOwner v p .auto x = x.setPump p { x.pump p with owner := .auto } := by
      simp [changeOwner, hown]
    rw [List.foldl_cons, List.foldl_cons, e]
    refine ih hd fun p' hp' => ?_
    rw [Plant.pump_setPump_ne x fun h : p' = p => hp (h ▸ hp')]
    exact hm p' (List.mem_cons_of_mem _ hp')

theorem fallsBack_iff (v : View) (x : Plant) (p : Fin 32) : fallsBack v x p = true ↔
    assigned v.tab p = true ∧ (x.pump p).owner = .manual ∧ v.tab.t3[p].fallback = true := by
  simp only [fallsBack, Bool.and_eq_true, beq_iff_eq, and_assoc]

/-- Pumps that become AUTO, one stage reconciled after another (R159). -/
theorem becomeAuto_eq {v : View} {x : Plant} {falls : Fin 32 → Bool}
    (hm : ∀ p : Fin 32, falls p = true → (x.pump p).owner = .manual) :
    ∃ y : Plant, (∀ p : Fin 32, y.pump p = if falls p = true then { x.pump p with owner := .auto } else x.pump p) ∧
      OnlyPumps x y ∧ becomeAuto (slots.filter falls) v x =
        reconcileAll v (stageList.filter fun k => slots.any fun p => stageOf p == k && falls p) y := by
  have hd : (slots.filter falls).Nodup := (List.nodup_finRange 32).filter _
  refine ⟨(slots.filter falls).foldl (fun y p => y.setPump p { y.pump p with owner := .auto }) x, fun p => ?_,
    foldl_setPump_onlyPumps (fun q => { q with owner := .auto }) _ _, ?_⟩
  · rw [foldl_setPump_pump (fun q => { q with owner := .auto }) hd]
    simp [slots]
  · unfold becomeAuto
    rw [foldl_changeOwner_auto v hd fun p hp => hm p (List.mem_filter.1 hp).2]
    simp only [stagesOf, List.any_filter, Bool.and_comm]

/-- Settles O18: the pumps that fall back, and the stages reconciled for them. -/
theorem uplineQuietExpires : Obligations.UplineQuietExpires := by
  intro s hp hd
  obtain ⟨y, hpump, honly, e⟩ := becomeAuto_eq (v := s.part.view) (x := s.part.plant.raise .uplineLost)
    (falls := fallsBack s.part.view (s.part.plant.raise .uplineLost)) fun p h => ((fallsBack_iff ..).1 h).2.1
  refine ⟨y, _, fun p => fallsBack_iff s.part.view (s.part.plant.raise .uplineLost) p, hpump, honly, ?_⟩
  rw [exec_running rfl hp]
  simp only [eventOf, quietEvent, hd, if_true]
  rw [← e]
  rfl

/-! ### The entry to STALE (R9, R10) -/

theorem staleTested_iff (e : ResEntry) (l : ResLive) : staleTested e l = true ↔
    e.enabled = true ∧ e.kind = .metered ∧ l.state ≠ .unknown ∧ l.state ≠ .stale := by
  simp only [staleTested, ResLive.noLevel, Bool.and_eq_true, Bool.not_eq_true', Bool.or_eq_false_iff, beq_iff_eq,
    beq_eq_false_iff_ne, and_assoc, ne_eq]

/-- Settles O13: the entry is that of `enterStale`, and its notification is taken with the scans that follow. -/
theorem staleEntryStopsRate : Obligations.StaleEntryStopsRate := by
  intro r s hst hdue he hk hu hs
  have ht : staleTested s.part.tab.t1[r] s.part.levels[r] = true :=
    (staleTested_iff _ _).2 ⟨he, hk, hu, hs⟩
  have e : eventOf (.staleEntry r) s.part = enterStale r s.part := by
    simp only [eventOf, staleEvent, hdue, ht, Bool.and_self, if_true]
  refine ⟨_, exec_running rfl hst.1, rfl, ?_, fun r' hr' => ?_, ?_, ?_, ?_, ?_, ?_⟩
  all_goals rw [e]
  · simp [State.endingAt, enterStale]
  · have hne : r.val ≠ r'.val := fun h => hr' (Fin.ext h.symm)
    simp [State.endingAt, enterStale, hne]
  all_goals rfl

end Sys2Proof.Machine
end

section
/-!
PROOFS. The first of a list by an order, and with it the current tariff class (R26, R27) and the selections of pumps
and requests (R81, R82, R84, R85, R88).
-/

namespace Sys2Proof.Machine

/-! ### The first of a list -/

section PickFirst

variable {α : Type} {before : α → α → Bool} {l : List α} {a : α}

@[simp] theorem pickFirst_eq_none : pickFirst before l = none ↔ l = [] := by
  cases l with
  | nil => simp [pickFirst]
  | cons a l =>
    simp only [pickFirst, reduceCtorEq, iff_false]
    split
    · simp
    · split <;> simp

/-- An element that stands before every other is the first. -/
theorem pickFirst_of_before (ha : a ∈ l) (h : ∀ b ∈ l, b ≠ a → before a b = true ∧ before b a = false) :
    pickFirst before l = some a := by
  induction l with
  | nil => simp at ha
  | cons c l ih =>
    have hl : ∀ b ∈ l, b ≠ a → before a b = true ∧ before b a = false := fun b hb => h b (List.mem_cons_of_mem _ hb)
    simp only [pickFirst]
    by_cases hal : a ∈ l
    · rw [ih hal hl]
      by_cases hc : c = a
      · subst hc
        simp
      · simp [(h c List.mem_cons_self hc).1]
    · have hac : a = c := (List.mem_cons.1 ha).resolve_right hal
      subst hac
      split
      · rfl
      · next b hb =>
        have hmem := mem_of_pickFirst hb
        have hne : b ≠ a := fun e => hal (e ▸ hmem)
        simp [(hl b hmem hne).2]

/-- Where the order of the list breaks the ties of `before` into a total order, the first is the least element. -/
theorem pickFirst_eq_some_iff {Lt : α → α → Prop} (trans : ∀ {a b c}, Lt a b → Lt b c → Lt a c)
    (asymm : ∀ {a b}, Lt a b → ¬Lt b a) (hl : l.Pairwise fun a b => if before b a then Lt b a else Lt a b) :
    pickFirst before l = some a ↔ a ∈ l ∧ ∀ b ∈ l, b ≠ a → Lt a b := by
  have least : ∀ a, pickFirst before l = some a → a ∈ l ∧ ∀ b ∈ l, b ≠ a → Lt a b := by
    induction l with
    | nil => simp [pickFirst]
    | cons c l ih =>
      obtain ⟨hc, hl⟩ := List.pairwise_cons.1 hl
      intro a ha
      simp only [pickFirst] at ha
      split at ha
      · next hnone =>
        obtain rfl := pickFirst_eq_none.1 hnone
        simp_all
      · next b hb =>
        obtain ⟨hmem, hleast⟩ := ih hl b hb
        have hcb := hc b hmem
        split at ha
        · next hbc =>
          cases ha
          rw [if_pos hbc] at hcb
          refine ⟨List.mem_cons_of_mem _ hmem, fun d hd hne => ?_⟩
          rcases List.mem_cons.1 hd with rfl | hd
          exacts [hcb, hleast d hd hne]
        · next hbc =>
          cases ha
          rw [if_neg hbc] at hcb
          refine ⟨List.mem_cons_self, fun d hd hne => ?_⟩
          have hd := (List.mem_cons.1 hd).resolve_left hne
          by_cases hdb : d = b
          · exact hdb ▸ hcb
          · exact trans hcb (hleast d hd hdb)
  refine ⟨least a, fun ⟨hmem, hleast⟩ => ?_⟩
  cases hp : pickFirst before l with
  | none => rw [pickFirst_eq_none.1 hp] at hmem; simp at hmem
  | some b =>
    obtain ⟨hb, hbleast⟩ := least b hp
    by_cases hba : b = a
    · rw [hba]
    · exact absurd (hbleast a hmem fun e => hba e.symm) (asymm (hleast b hb hba))

end PickFirst

/-! ### The current class (R26, R27) -/

/-- The windows among which the governing one is found. -/
theorem mem_windows {tab : Settings} {c : Calendar} {w : WindowEntry} :
    w ∈ (tab.t5.toList.filter fun w => w.used && w.dayType == tab.t6[c.day] && decide (w.start ≤ c.minute)) ↔
      ∃ i : Fin 24, tab.t5[i] = w ∧ w.used = true ∧ w.dayType = tab.t6[c.day] ∧ w.start ≤ c.minute := by
  simp only [List.mem_filter, Vector.mem_toList_iff, Bool.and_eq_true, beq_iff_eq, decide_eq_true_eq, and_assoc]
  constructor
  · rintro ⟨hw, h⟩
    obtain ⟨i, hi, e⟩ := Vector.mem_iff_getElem.1 hw
    exact ⟨⟨i, hi⟩, e, h⟩
  · rintro ⟨i, rfl, h⟩
    exact ⟨Vector.getElem_mem i.isLt, h⟩

/-- Settles O12: a due boundary is taken by `boundaryEvent`, and the governing window starts after every other. -/
theorem classFollowsClock : Obligations.ClassFollowsClock := by
  refine ⟨fun s hst hdue => ⟨_, exec_running rfl hst.1, rfl, ?_⟩, fun tab c => ⟨fun h => by simp [classAt, h],
    fun h => ⟨fun i hu hd hm hgov => ?_, fun hnone => ?_⟩⟩⟩
  · have e : eventOf .minuteBoundary s.part = if classAt s.part.tab s.part.cal = s.part.cal.cls then
        { s.part with cal := { s.part.cal with cls := classAt s.part.tab s.part.cal, boundaryDue := false } }
        else ({ s.part with cal := { s.part.cal with cls := classAt s.part.tab s.part.cal, boundaryDue := false } }
          : Part).onPlant fun v => evaluateAll v .classChange := by
      simp only [eventOf, boundaryEvent, hdue, if_true]
    rw [e]
    by_cases hc : classAt s.part.tab s.part.cal = s.part.cal.cls
    · rw [if_pos hc]
      exact ⟨rfl, rfl, rfl, rfl, rfl, fun _ => settle_settled _ hst.2.1, fun h => absurd hc h⟩
    · rw [if_neg hc]
      exact ⟨rfl, rfl, rfl, rfl, rfl, fun h => absurd h hc, fun _ => rfl⟩
  · have hfirst : pickFirst laterWindow (tab.t5.toList.filter fun w =>
        w.used && w.dayType == tab.t6[c.day] && decide (w.start ≤ c.minute)) = some tab.t5[i] := by
      refine pickFirst_of_before (mem_windows.2 ⟨i, rfl, hu, hd, hm⟩) fun w hw hne => ?_
      obtain ⟨j, rfl, hu', hd', hm'⟩ := mem_windows.1 hw
      have hlt := hgov j (fun e => hne (by rw [e])) hu' hd' hm'
      exact ⟨decide_eq_true hlt, decide_eq_false hlt.le.not_gt⟩
    simp only [classAt, h, if_true]
    rw [hfirst]
  · have hnil : (tab.t5.toList.filter fun w =>
        w.used && w.dayType == tab.t6[c.day] && decide (w.start ≤ c.minute)) = [] :=
      List.eq_nil_iff_forall_not_mem.2 fun w hw => by
        obtain ⟨i, rfl, hu, hd, hm⟩ := mem_windows.1 hw
        exact absurd hm (Nat.not_le.2 (hnone i hu hd))
    simp only [classAt, h, if_true]
    rw [hnil]
    rfl

/-! ### The selections (R81, R82, R84, R85, R88) -/

theorem eligible_iff (v : View) (x : Plant) (p : Fin 32) : eligible v x p = true ↔
    (x.pump p).owner = .auto ∧ (x.pump p).localSel = false ∧ (x.pump p).state = .off ∧
      (x.pump p).history.length < v.tab.t3[p].startsPerHour := by
  simp only [eligible, Pump.isAuto, Bool.and_eq_true, Bool.not_eq_true', beq_iff_eq, startLimited_eq_false, and_assoc]

theorem mem_stagePumps {tab : Settings} {k : Fin 8} {p : Fin 32} :
    p ∈ stagePumps tab k ↔ stageOf p = k ∧ assigned tab p = true := by
  simp only [stagePumps, List.mem_filter, mem_stageSlots]

/-- The pumps of a stage stand in order of position. -/
theorem stagePumps_pairwise (tab : Settings) (k : Fin 8) : (stagePumps tab k).Pairwise (· < ·) := by
  refine List.Pairwise.filter _ ?_
  exact (by decide : ∀ k : Fin 8, (stageSlots k).Pairwise (· < ·)) k

/-- What orders the pumps of a stage for a start: the warn flag, the run seconds and the position (R82). -/
def startKey (v : View) (x : Plant) (p : Fin 32) : Bool ×ₗ ℕ ×ₗ Fin 32 :=
  toLex ((x.pump p).warn, toLex (v.tab.t14[p].toNat, p))

theorem startsFirst_iff {v : View} {x : Plant} {p p' : Fin 32} :
    StartsFirst v x p p' ↔ startKey v x p < startKey v x p' := by
  simp only [StartsFirst, startKey, Prod.Lex.toLex_lt_toLex, Bool.lt_iff, BitVec.lt_def, ← BitVec.toNat_inj]

/-- What orders the pumps of a stage for a stop: the warn flag and the age of the uptime of run start, each the greater
first, and the position (R85). -/
def stopKey (v : View) (x : Plant) (p : Fin 32) : Boolᵒᵈ ×ₗ ℕᵒᵈ ×ₗ Fin 32 :=
  toLex (OrderDual.toDual (x.pump p).warn, toLex (OrderDual.toDual (age v.now (x.pump p).runStart), p))

theorem stopsFirst_iff {v : View} {x : Plant} {p p' : Fin 32} :
    StopsFirst v x p p' ↔ stopKey v x p < stopKey v x p' := by
  simp only [StopsFirst, stopKey, Prod.Lex.toLex_lt_toLex, OrderDual.toDual_lt_toDual, Bool.lt_iff,
    OrderDual.toDual_inj, eq_comm, and_comm]

/-- Of two pumps in order of position the later is chosen only where R82 sets it first. -/
theorem startsBefore_pairwise (v : View) (k : Fin 8) (x : Plant) (p : Fin 32 → Bool) :
    ((stagePumps v.tab k).filter p).Pairwise fun a b =>
      if startsBefore v x b a then StartsFirst v x b a else StartsFirst v x a b := by
  refine ((stagePumps_pairwise v.tab k).filter _).imp fun {a b} hab => ?_
  by_cases hw : (x.pump b).warn = (x.pump a).warn
  · have e : startsBefore v x b a = decide (v.tab.t14[b].toNat < v.tab.t14[a].toNat) := if_pos hw
    rw [e]
    split
    · next h => exact .inr ⟨hw, .inl (of_decide_eq_true h)⟩
    · next h =>
      have hle := Nat.not_lt.1 fun hl => h (decide_eq_true hl)
      exact .inr ⟨hw.symm, (Nat.lt_or_eq_of_le hle).imp id fun e => ⟨BitVec.eq_of_toNat_eq e, hab⟩⟩
  · have e : startsBefore v x b a = !(x.pump b).warn := if_neg hw
    rw [e]
    unfold StartsFirst
    cases hb : (x.pump b).warn <;> cases ha : (x.pump a).warn <;> simp_all

/-- Of two pumps in order of position the later is chosen only where R85 sets it first. -/
theorem stopsBefore_pairwise (v : View) (k : Fin 8) (x : Plant) (p : Fin 32 → Bool) :
    ((stagePumps v.tab k).filter p).Pairwise fun a b =>
      if stopsBefore v x b a then StopsFirst v x b a else StopsFirst v x a b := by
  refine ((stagePumps_pairwise v.tab k).filter _).imp fun {a b} hab => ?_
  by_cases hw : (x.pump b).warn = (x.pump a).warn
  · have e : stopsBefore v x b a = decide (age v.now (x.pump a).runStart < age v.now (x.pump b).runStart) := if_pos hw
    rw [e]
    split
    · next h => exact .inr ⟨hw, .inl (of_decide_eq_true h)⟩
    · next h =>
      have hle := Nat.not_lt.1 fun hl => h (decide_eq_true hl)
      exact .inr ⟨hw.symm, (Nat.lt_or_eq_of_le hle).imp id fun e => ⟨e, hab⟩⟩
  · have e : stopsBefore v x b a = (x.pump b).warn := if_neg hw
    rw [e]
    unfold StopsFirst
    cases hb : (x.pump b).warn <;> cases ha : (x.pump a).warn <;> simp_all

theorem stopCandidate_iff (k : Fin 8) (x : Plant) (p : Fin 32) : stopCandidate k x p = true ↔
    (x.pump p).owner = .auto ∧ (x.pump p).localSel = false ∧ (x.pump p).state = .running ∧
      ((x.pump p).minRunMet = true ∨ (x.stage k).override = .overflow) := by
  simp only [stopCandidate, Pump.isAuto, Bool.and_eq_true, Bool.or_eq_true, Bool.not_eq_true', beq_iff_eq, and_assoc]

/-- The first eligible pump by the order of R82. -/
theorem startChoice_iff (v : View) (k : Fin 8) (x : Plant) (p : Fin 32) : startChoice v k x = some p ↔
    (stageOf p = k ∧ assigned v.tab p = true ∧ eligible v x p = true) ∧
      ∀ p' : Fin 32, stageOf p' = k → assigned v.tab p' = true → eligible v x p' = true → p' ≠ p →
        StartsFirst v x p p' := by
  rw [startChoice, pickFirst_eq_some_iff (Lt := StartsFirst v x)
    (fun h h' => startsFirst_iff.2 ((startsFirst_iff.1 h).trans (startsFirst_iff.1 h')))
    (fun h h' => lt_asymm (startsFirst_iff.1 h) (startsFirst_iff.1 h')) (startsBefore_pairwise v k x _)]
  simp only [List.mem_filter, mem_stagePumps, and_assoc, and_imp]

/-- The request of the stage that entered last, where the entry ranks are distinct (R84). -/
theorem latestRequest_iff {k : Fin 8} {q : List Request} {e : Request} (hd : (q.map Request.rank).Nodup) :
    latestRequest k q = some e ↔ e ∈ q ∧ stageOf e.pump = k ∧
      ∀ e' ∈ q, stageOf e'.pump = k → e' ≠ e → e'.rank < e.rank := by
  have hpair : (q.filter fun e => stageOf e.pump == k).Pairwise fun a b =>
      if decide (a.rank < b.rank) then a.rank < b.rank else b.rank < a.rank := by
    refine ((List.pairwise_map.1 hd).filter _).imp fun {a b} hne => ?_
    split
    · next h => exact of_decide_eq_true h
    · next h => exact (Nat.lt_or_gt_of_ne hne).resolve_left fun hl => h (decide_eq_true hl)
  rw [latestRequest, pickFirst_eq_some_iff (Lt := fun a b : Request => b.rank < a.rank) (fun h h' => h'.trans h)
    (fun h h' => lt_asymm h h') hpair]
  simp only [List.mem_filter, beq_iff_eq, and_assoc, and_imp]

/-- Settles O32: each choice is the first of its candidates by a total order. -/
theorem startSelection : Obligations.StartSelection := by
  refine ⟨startChoice_iff, eligible_iff, fun k q e hd => latestRequest_iff hd, fun v k x p able hable => ?_⟩
  have hmem : ∀ p' : Fin 32, p' ∈ (stagePumps v.tab k).filter (stopCandidate k x) ↔ able p' := fun p' => by
    rw [hable, List.mem_filter, mem_stagePumps, stopCandidate_iff, and_assoc]
  unfold stopChoice
  by_cases hs : (x.stage k).spacingT = none
  · rw [if_pos hs, pickFirst_eq_some_iff (Lt := StopsFirst v x)
      (fun h h' => stopsFirst_iff.2 ((stopsFirst_iff.1 h).trans (stopsFirst_iff.1 h')))
      (fun h h' => lt_asymm (stopsFirst_iff.1 h) (stopsFirst_iff.1 h')) (stopsBefore_pairwise v k x _)]
    simp only [hmem, hs, true_and]
  · rw [if_neg hs]
    exact ⟨fun h => (nomatch h), fun h => absurd h.1 hs⟩

end Sys2Proof.Machine
end

section
/-!
PROOFS. A level arrival, the settle expiry and the step of the seconds timebase (R6, R9, R11, R15 to R21, R57, R169).
-/

namespace Sys2Proof.Machine

/-! ### A level arrival (R6, R11, R15 to R17) -/

theorem noLevel_iff (l : ResLive) : l.noLevel = true ↔ l.state = .unknown ∨ l.state = .stale := by
  simp only [ResLive.noLevel, Bool.or_eq_true, beq_iff_eq]

/-- The three cases of the rate sample (R11). -/
theorem rateStep_cases (e : ResEntry) (now : Uptime) (l : Nat) (rec : ResLive) :
    (rec.noLevel = true → rateStep e now l rec = { rec with rate := 0, sampleLevel := l, sampleTime := now }) ∧
      (rec.noLevel = false → e.rateInterval ≤ age now rec.sampleTime → rateStep e now l rec = { rec with
        rate := max (-500) (min 500 ((((rec.sampleLevel : Int) - l) * 60).tdiv (age now rec.sampleTime)))
        sampleLevel := l, sampleTime := now }) ∧
      (rec.noLevel = false → age now rec.sampleTime < e.rateInterval → rateStep e now l rec = rec) := by
  unfold rateStep
  refine ⟨fun h => if_pos h, fun h hi => ?_, fun h hi => ?_⟩
  · rw [if_neg (by simp [h]), if_pos hi, sampleRate, clampInt_eq (by decide)]
  · rw [if_neg (by simp [h]), if_neg (Nat.not_le.2 hi)]

theorem handState_plant (r : Fin 10) (old new : ResState) (s : Part) : (handState r old new s).plant =
    if new ≠ old ∧ (new = .lowAlarm ∨ new = .highAlarm) then
      (if new = .lowAlarm ∧ old ≠ .lowAlarm then escalate s.view r s.plant else s.plant).raise .levelAlarm
    else if new = .lowAlarm ∧ old ≠ .lowAlarm then escalate s.view r s.plant else s.plant := by
  have he : entersAlarm old new = true ↔ new ≠ old ∧ (new = .lowAlarm ∨ new = .highAlarm) := by
    simp only [entersAlarm, Bool.and_eq_true, Bool.or_eq_true, bne_iff_ne, beq_iff_eq]
  unfold handState
  simp only [he]
  split_ifs <;> rfl

theorem handState_onlyPlant (r : Fin 10) (old new : ResState) (s : Part) : OnlyPlant s (handState r old new s) := by
  unfold handState
  dsimp only
  split_ifs <;> exact ⟨rfl, rfl, rfl, rfl, rfl, rfl, rfl⟩

/-- Settles O21: the record of `arrivalRecord`, and what is handed on in its order. -/
theorem levelArrivalTaken : Obligations.LevelArrivalTaken := by
  rintro r l s e old rec rfl rfl he hk hrec
  have harr : levelArrival r l s = (handState r s.levels[r].state
      (arrivalRecord s.tab.t1[r] s.cal.uptime l s.levels[r]).state
      (s.setLevel r (arrivalRecord s.tab.t1[r] s.cal.uptime l s.levels[r]))).onPlant fun v =>
        notify v r ((arrivalRecord s.tab.t1[r] s.cal.uptime l s.levels[r]).state != s.levels[r].state) := by
    unfold levelArrival
    dsimp only
    rw [if_pos (by rw [he, hk]; rfl)]
  have hlevels : (levelArrival r l s).levels =
      s.levels.set r (arrivalRecord s.tab.t1[r] s.cal.uptime l s.levels[r]) := by
    rw [harr]
    simp
  have hr : rec = arrivalRecord s.tab.t1[r] s.cal.uptime l s.levels[r] := by
    rw [hrec, hlevels]
    simp
  obtain ⟨hfirst, hsample, hkeep⟩ := rateStep_cases s.tab.t1[r] s.cal.uptime l s.levels[r]
  have hno : s.levels[r].state ≠ .unknown → s.levels[r].state ≠ .stale → s.levels[r].noLevel = false := fun h h' =>
    Bool.eq_false_iff.2 fun hn => ((noLevel_iff _).1 hn).elim h h'
  have hview : (handState r s.levels[r].state rec.state (s.setLevel r rec)).view = (levelArrival r l s).view := by
    rw [harr, hr]
    rfl
  refine ⟨by rw [hr]; rfl, by rw [hr]; rfl, by rw [hr]; rfl, fun h => ?_, fun h h' hi => ?_, fun h h' hi => ?_,
    fun r' hr' => ?_, _, _, rfl, rfl, ?_, ?_⟩
  · rw [hr, arrivalRecord, hfirst ((noLevel_iff _).2 h)]
    exact ⟨rfl, rfl, rfl⟩
  · rw [hr, arrivalRecord, hsample (hno h h') hi]
    exact ⟨rfl, rfl, rfl⟩
  · rw [hr, arrivalRecord, hkeep (hno h h') hi]
    exact ⟨rfl, rfl, rfl⟩
  · have hne : r.val ≠ r'.val := fun h => hr' (Fin.ext h.symm)
    rw [hlevels]
    simp [hne]
  · rw [← hview, harr, ← hr, Part.onPlant_plant, handState_plant]
    rfl
  · rw [harr, ← hr]
    have h := handState_onlyPlant r s.levels[r].state rec.state (s.setLevel r rec)
    exact h

/-! ### The settle expiry (R169) -/

/-- A change from a mode other than ACTIVE to ACTIVE or PASSIVE (R91, R167). -/
theorem changeMode_plant {m : Mode} {s : Part} (h : s.mgmt.mode ≠ .active) : changeMode m s =
    if m = .advisory ∨ m = .active then
      { s with
        mgmt := { s.mgmt with mode := m, settleT := none }
        plant := evaluateAll { s.view with mode := m } .modeEntry (updateStages m s.plant) }
    else
      { s with
        mgmt := { s.mgmt with mode := m, settleT := none }
        plant := updateStages m s.plant } := by
  have hnone : stagesOf [] = [] := by simp [stagesOf]
  unfold changeMode
  simp only [if_neg h, hnone]
  rfl

/-- Settles O19: the checks are kept, and the mode is changed by their outcome. -/
theorem settleTimerExpires : Obligations.SettleTimerExpires := by
  intro s hst hmode hdue
  have hna : s.part.mgmt.mode ≠ .active := by rw [hmode]; decide
  have e : eventOf .settleExpiry s.part = changeMode (if settleCheck s.part = .passed then .active else .passive)
      (keepCheck (settleCheck s.part) { s.part with mgmt := { s.part.mgmt with settleT := none } }) := by
    simp only [eventOf, settleEvent, hdue, if_true, hmode]
  refine ⟨_, settleCheck s.part, exec_running rfl hst.1, rfl, rfl, ?_⟩
  rw [e, changeMode_plant (by exact hna)]
  by_cases hc : settleCheck s.part = .passed
  · simp only [hc, if_true, or_true]
    exact ⟨rfl, rfl, rfl, rfl, rfl, fun h => absurd rfl h, fun _ => rfl⟩
  · simp only [if_neg hc, reduceCtorEq, or_self, if_false]
    exact ⟨rfl, rfl, rfl, rfl, rfl, fun _ => settle_settled _ hst.2.1, fun h => absurd h hc⟩

end Sys2Proof.Machine
end

section
/-!
PROOFS. The scans that follow an event come to an end: a grant leaves its slot BUSY with its spacing timer running, so
that at most one grant of each feeder follows, and a scan without a grant asks for no other (R100 to R103).
-/

namespace Sys2Proof.Machine

/-! ### A BUSY slot whose spacing timer runs -/

/-- The slot is BUSY and its spacing timer runs, so that no event but the expiry of the timer frees it (R103). -/
def FeederLive.fixed (l : FeederLive) : Bool := l.busy && l.spacingT.isSome

theorem fixed_of_slotsFrom {x y : Plant} {f : Feeder} (h : SlotsFrom x y) (hx : (x.feeder f).fixed = true) :
    (y.feeder f).fixed = true := by
  obtain ⟨hb, -, -, ht, -⟩ := h f
  rw [FeederLive.fixed, hb, ht]
  exact hx

theorem fixed_leaveStarting {x : Plant} {f : Feeder} (p : Fin 32) (hx : (x.feeder f).fixed = true) :
    ((leaveStarting p x).feeder f).fixed = true := by
  have e : (leaveStarting p x).feeder f = (x.feeder f).holderLeaves p := by cases f <;> rfl
  simp only [FeederLive.fixed, Bool.and_eq_true] at hx
  rw [e, FeederLive.holderLeaves]
  simp only [hx.2, if_true]
  split <;> simp [FeederLive.fixed, hx]

theorem slotsFrom_leaveQueue (x : Plant) (p : Fin 32) : SlotsFrom x (x.leaveQueue p) := by
  unfold Plant.leaveQueue
  split
  · exact SlotsFrom.dequeue _ _
  · exact SlotsFrom.refl _

/-- No part of a reconciliation frees a BUSY slot whose spacing timer runs. -/
theorem fixed_kept (tab : Settings) (f : Feeder) : KeptByReconcile tab fun x => (x.feeder f).fixed = true where
  events hx _ := fixed_of_slotsFrom (.of_eq fun f => by cases f <;> rfl) hx
  nextId _ hx := fixed_of_slotsFrom (.of_eq fun f => by cases f <;> rfl) hx
  shortfall _ hx _ := by rwa [Plant.feeder_setStage]
  advice hx _ _ _ := by rwa [Plant.feeder_setStage]
  spacing hx _ := by rwa [Plant.feeder_setStage]
  quiet hx _ := by rwa [Plant.feeder_setPump]
  report hx _ _ := fixed_of_slotsFrom ((SlotsFrom.setPump _ _ _).trans (.handCommitted _ _ _)) hx
  move {x p _} hx _ _ _ := fixed_of_slotsFrom
    ((slotsFrom_leaveQueue x p).trans ((SlotsFrom.setPump _ _ _).trans (.handCommitted _ _ _))) hx
  leave {x p q} hx _ _ _ := by
    have hy : (((x.leaveQueue p).setPump p q).feeder f).fixed = true :=
      fixed_of_slotsFrom ((slotsFrom_leaveQueue x p).trans (.setPump _ _ _)) hx
    exact fixed_of_slotsFrom (.handCommitted _ _ _) (fixed_leaveStarting p hy)
  enqueue v _ hx _ := fixed_of_slotsFrom
    ((SlotsFrom.setPump _ _ _).trans ((SlotsFrom.enterRequest _ _ _).trans (.handCommitted _ _ _))) hx

/-! ### The scans still to come -/

/-- What a feeder can still cost: three scans while its slot can be granted, and one where a scan is due. -/
def FeederLive.weight (l : FeederLive) : Nat := (if l.fixed then 0 else 3) + (if l.scanDue then 1 else 0)

/-- A bound on the scans that follow. -/
def scansLeft (x : Plant) : Nat := x.feedA.weight + x.feedB.weight

theorem weight_le (l : FeederLive) : l.weight ≤ 4 := by unfold FeederLive.weight; split_ifs <;> omega

theorem scansLeft_eq (x : Plant) {f g : Feeder} (h : g ≠ f) :
    scansLeft x = (x.feeder f).weight + (x.feeder g).weight := by
  cases f <;> cases g <;> first | exact absurd rfl h | simp only [scansLeft, Plant.feeder_a, Plant.feeder_b, Nat.add_comm]

/-- A scan that is due leaves fewer to come. -/
theorem scansLeft_scan (v : View) {f : Feeder} {x : Plant} (hd : (x.feeder f).scanDue = true) :
    scansLeft (scan v f x) < scansLeft x := by
  obtain ⟨g, hg⟩ : ∃ g : Feeder, g ≠ f := by cases f; exacts [⟨.b, by decide⟩, ⟨.a, by decide⟩]
  have cleared : scansLeft (x.setFeeder f { x.feeder f with scanDue := false }) < scansLeft x := by
    rw [scansLeft_eq _ hg, scansLeft_eq _ hg, Plant.feeder_setFeeder_same, Plant.feeder_setFeeder_ne x hg]
    simp [FeederLive.weight, FeederLive.fixed, hd]
  unfold scan
  dsimp only
  split
  · exact cleared
  · next hbusy =>
    split
    · exact cleared
    · next passed e hw =>
      generalize hy : x.setFeeder f { x.feeder f with scanDue := false } = y at hbusy ⊢
      generalize hz : ({ y with queue := y.queue.map (passOver v.tab.t9.bypassLimit passed) } : Plant) = z
      have hzf : ∀ f' : Feeder, (z.feeder f').fixed = (x.feeder f').fixed := by
        intro f'
        rw [← hz, Plant.feeder_setQueue, ← hy]
        by_cases h : f' = f
        · subst h
          rw [Plant.feeder_setFeeder_same]
          rfl
        · rw [Plant.feeder_setFeeder_ne x h]
      have hfree : (x.feeder f).fixed = false := by
        rw [← hy, Plant.feeder_setFeeder_same] at hbusy
        rw [FeederLive.fixed, Bool.eq_false_iff.2 hbusy, Bool.false_and]
      have hf : ((finishPump v e.pump (grant v f e.pump z)).feeder f).fixed = true := by
        refine (fixed_kept v.tab f).finishPump ?_
        rw [grant_eq]
        refine fixed_of_slotsFrom (.handCommitted _ _ _) ?_
        rw [startedOn_feeder_same]
        rfl
      have hother : (x.feeder g).fixed = true → ((finishPump v e.pump (grant v f e.pump z)).feeder g).fixed = true := by
        intro h
        refine (fixed_kept v.tab g).finishPump ?_
        rw [grant_eq]
        refine fixed_of_slotsFrom (.handCommitted _ _ _) ?_
        rw [startedOn_feeder_ne v hg, Plant.feeder_setQueue, hzf]
        exact h
      generalize finishPump v e.pump (grant v f e.pump z) = y at hf hother
      rw [scansLeft_eq _ hg, scansLeft_eq _ hg]
      simp only [FeederLive.weight, hf, hfree, hd, if_true, Bool.false_eq_true, if_false]
      split_ifs <;> first | omega | (exfalso; simp_all)

/-! ### Every scan is taken -/

theorem settleScans_succ (v : View) (n : Nat) (x : Plant) : settleScans v (n + 1) x =
    if x.feedA.scanDue then settleScans v n (scan v .a x)
    else if x.feedB.scanDue then settleScans v n (scan v .b x) else x := rfl

theorem settleScans_settled (v : View) {n : Nat} {x : Plant} (h : scansLeft x ≤ n) : Settled (settleScans v n x) := by
  induction n generalizing x with
  | zero =>
    simp only [scansLeft, FeederLive.weight, Nat.le_zero, Nat.add_eq_zero_iff] at h
    obtain ⟨⟨-, ha⟩, -, hb⟩ := h
    have h0 : Settled x := ⟨by simpa using ha, by simpa using hb⟩
    exact h0
  | succ n ih =>
    rw [settleScans_succ]
    split
    · next ha =>
      have := scansLeft_scan v (f := .a) (x := x) ha
      exact ih (by omega)
    · next ha =>
      split
      · next hb =>
        have := scansLeft_scan v (f := .b) (x := x) hb
        exact ih (by omega)
      · next hb => exact ⟨by simpa using ha, by simpa using hb⟩

/-- Any two bounds that suffice give the same end. -/
theorem settleScans_bound (v : View) {n m : Nat} {x : Plant} (hn : scansLeft x ≤ n) (hm : scansLeft x ≤ m) :
    settleScans v n x = settleScans v m x := by
  induction n generalizing m x with
  | zero =>
    have h : Settled x := settleScans_settled v hn
    cases m with
    | zero => rfl
    | succ m =>
      rw [settleScans_succ, h.1, h.2]
      rfl
  | succ n ih =>
    cases m with
    | zero =>
      have h : Settled x := settleScans_settled v hm
      rw [settleScans_succ, h.1, h.2]
      rfl
    | succ m =>
      rw [settleScans_succ, settleScans_succ]
      split
      · next ha =>
        have := scansLeft_scan v (f := .a) (x := x) ha
        exact ih (by omega) (by omega)
      · split
        · next hb =>
          have := scansLeft_scan v (f := .b) (x := x) hb
          exact ih (by omega) (by omega)
        · rfl

theorem scansLeft_le (x : Plant) : scansLeft x ≤ 8 := by
  have ha := weight_le x.feedA
  have hb := weight_le x.feedB
  unfold scansLeft
  omega

/-- No scan is left over after an event (R100). -/
theorem settled_settle (v : View) (x : Plant) : Settled (settle v x) :=
  settleScans_settled v ((scansLeft_le x).trans (by decide))

/-- Settles O6: sixteen scans are more than `scansLeft` allows, and the ends of events are their definitions. -/
theorem settleTakesEveryScan : Obligations.SettleTakesEveryScan := by
  refine ⟨fun v x => ⟨settled_settle v x, settle_settled v, fun ha => ?_, fun ha hb => ?_⟩, ?_, ?_⟩
  · unfold settle
    rw [settleScans_succ, if_pos ha]
    have := scansLeft_le (scan v .a x)
    exact settleScans_bound v (by omega) (by omega)
  · unfold settle
    rw [settleScans_succ, if_neg (by simp [ha]), if_pos hb]
    have := scansLeft_le (scan v .b x)
    exact settleScans_bound v (by omega) (by omega)
  · rintro s y rfl
    exact ⟨rfl, rfl⟩
  · rintro v p x y z rfl rfl
    unfold finishPump minRunExpires
    simp only [due, beq_iff_eq]

end Sys2Proof.Machine
end

section
/-!
PROOFS. Power-on, the RESET input, a management restart, the loss of power and the completion of a save (sections 11.7
and 11.9).
-/

namespace Sys2Proof.Machine

/-! ### The records after a reset -/

/-- An assigned slot is UNSEEN after a reset, and therefore committed (R59, R60). -/
theorem countsOn_reset (tab : Settings) (w : Events) (f : Feeder) (x : Plant)
    (hx : ∀ p : Fin 32, x.pump p = (resetPlant tab w).pump p) (p : Fin 32) :
    countsOn tab x f p = (assigned tab p && tab.t3[p].feeder == f) := by
  rw [countsOn, hx, resetPlant_pump]
  cases h : assigned tab p <;> simp [freshPump, Pump.committed]

/-- The live records that a reset gives from the tables. -/
theorem freshRecords_of {t : Part} {w : Events} (hl : t.levels = resetLevels t.tab) (hp : t.plant = resetPlant t.tab w) :
    FreshRecords t := by
  refine ⟨fun r => ?_, fun k => ?_, fun p => ?_, fun f => ?_⟩
  · rw [hl]
    simp [resetLevels, freshRecord]
  · rw [hp]
    simp [resetPlant, Plant.stage]
  · rw [hp, resetPlant_pump]
    split <;> rfl
  · have hc : countsOn t.tab { pumps := resetPumps t.tab, events := w } f =
        fun p => assigned t.tab p && t.tab.t3[p].feeder == f := funext (countsOn_reset t.tab w f _ fun _ => rfl)
    rw [hp, ← hc]
    cases f <;> exact ⟨rfl, rfl, rfl, rfl, rfl⟩

theorem exec_resetInput {phase : ResetPhase} {s : State} {u : Part} (h : resetInputEvent phase s.part = u) :
    exec (.resetInput phase) s = .next { s with part := u } := by
  rw [← h]
  rfl

/-- What power-on and the release of the RESET input give (R170, R171). -/
theorem fullReset_fresh (straps : Straps) (s : Part) :
    FreshFrom s.mgmt.store straps (fullReset straps s) ∧ FreshRecords (fullReset straps s) := by
  refine ⟨⟨rfl, rfl, rfl, rfl, fun h => ?_, fun h => ?_, rfl, rfl, rfl, rfl, rfl, rfl, rfl, rfl, rfl, rfl, rfl, rfl, rfl,
    rfl, rfl, rfl, rfl, rfl, rfl, ?_, ?_, ?_, ⟨rfl, rfl⟩, driveLines_lines _ rfl⟩, freshRecords_of rfl rfl⟩
  · simp [fullReset, loadedTables, resetMgmt, resetMode, resetEvents, resetPlant, h]
  · simp [fullReset, loadedTables, resetMgmt, resetMode, resetEvents, resetPlant, h, Events.raise]
  all_goals
    simp only [fullReset, driveLines_plant, resetPlant, resetEvents]
    split <;> rfl

/-- Settles O8: every reset of this kind is a `fullReset` from the store as it is found. -/
theorem powerOnAndResetLoadStore : Obligations.PowerOnAndResetLoadStore := by
  refine ⟨fun straps s => ⟨_, rfl, rfl, fun h => ?_, fun h => ?_⟩, fun s => ⟨fun h => ?_, fun b h => ?_⟩,
    ⟨rfl, rfl, rfl, rfl⟩, fun straps s => ⟨fun h => ?_, fun h => ?_, fun b h => ?_⟩⟩
  · have e : powerOnEvent straps s.part = fullReset straps (breakSave s.part) := by
      rcases h with h | h <;> simp [powerOnEvent, h]
    rw [e]
    exact fullReset_fresh straps (breakSave s.part)
  · obtain ⟨hf, hr⟩ := fullReset_fresh straps (breakSave s.part)
    refine ⟨fullReset straps (breakSave s.part), hf, hr, ?_⟩
    have e : powerOnEvent straps s.part = resetAssertEvent (fullReset straps (breakSave s.part)) := by
      rcases h with h | h <;> simp [powerOnEvent, h]
    have eb : s.part.mgmt.store.breakOff.breakOff = s.part.mgmt.store.breakOff := by simp [Store.breakOff_eq]
    simp only [e, resetAssertEvent, breakSave]
    have em : (fullReset straps (breakSave s.part)).mgmt.store.breakOff =
      (fullReset straps (breakSave s.part)).mgmt.store := eb
    simp only [breakSave] at em
    rw [em]
    rfl
  · have e : resetInputEvent .asserted s.part = resetAssertEvent s.part := by
      rcases h with h | h <;> simp [resetInputEvent, h]
    refine ⟨{ s with part := resetAssertEvent s.part }, exec_resetInput e, rfl, rfl, rfl, rfl, rfl, rfl, fun hs => ?_⟩
    have : (resetAssertEvent s.part).mgmt.store = s.part.mgmt.store.breakOff := rfl
    rw [this, Store.breakOff_eq]
    cases hv : s.part.mgmt.store.saving with
    | none => exact absurd hv hs
    | some tab => exact Bool.and_false _
  · exact exec_resetInput (by simp [resetInputEvent, h])
  · have e : resetInputEvent (.released straps) s.part = fullReset straps s.part := by simp [resetInputEvent, h]
    obtain ⟨hf, hr⟩ := fullReset_fresh straps s.part
    exact ⟨{ s with part := fullReset straps s.part }, exec_resetInput e, rfl, hf, hr⟩
  · exact exec_resetInput (by simp [resetInputEvent, h])
  · exact exec_resetInput (by simp [resetInputEvent, h])

/-! ### A management restart -/

/-- Settles O10: the restart is carried out and the lines then follow the conditions. -/
theorem restartTakesEffect : Obligations.RestartTakesEffect := by
  intro straps f s hp hu
  have e : eventOf (.uTransmitComplete straps) s.part = managementRestart straps s.part := by
    simp only [eventOf, uCompleteEvent, hu]
  have hs : Settled (managementRestart straps s.part).plant := ⟨rfl, rfl⟩
  have ef : finish (managementRestart straps s.part) = driveLines (managementRestart straps s.part) := by
    rw [finish, settlePart_settled hs]
  refine ⟨s.endingAt (managementRestart straps s.part), (exec_running rfl hp).trans (by rw [e]), rfl, ?_⟩
  simp only [State.endingAt, ef]
  exact ⟨freshRecords_of rfl rfl, rfl, rfl, rfl, rfl, rfl, rfl, rfl, rfl, rfl, rfl, rfl, rfl, rfl, rfl, rfl, rfl, rfl,
    rfl, rfl, rfl, driveLines_lines _ hp⟩

/-! ### The loss of power and the completion of a save -/

/-- Settles O9: the loss of power breaks a save off, and its completion decides what the store holds. -/
theorem saveOutcomes : Obligations.SaveOutcomes := by
  refine ⟨fun s reset h => ?_, fun done tab s hp hs ht => ?_, fun done s hs ht => ?_⟩
  · have ha : s.part.power.applied = true ∧ s.part.power.resetAsserted = reset := by
      rcases h with ⟨h, rfl⟩ | ⟨h, rfl⟩ <;> simp [h]
    refine ⟨{ s with part := powerLossEvent s.part }, rfl, rfl, ?_⟩
    simp only [powerLossEvent, ha.1, Bool.true_eq_false, if_false, ha.2, Store.breakOff_eq]
    trivial
  · have e : eventOf (.settingsSaveComplete done) s.part = ({ s.part with mgmt := { s.part.mgmt with
        store := if done then { copy := tab, checkMatches := true, saving := none }
          else { s.part.mgmt.store with checkMatches := false, saving := none }
        storeState := if done then .valid else .invalid
        outcome := if done then .done else .failed
        storeInvalid := s.part.mgmt.storeInvalid && !done } } : Part).raise .settings := by
      simp only [eventOf, saveComplete, ht]
    have hf : settlePart (eventOf (.settingsSaveComplete done) s.part) = eventOf (.settingsSaveComplete done) s.part :=
      settlePart_settled (by rw [e]; exact hs)
    refine ⟨_, exec_running rfl hp, rfl, ?_⟩
    simp only [State.endingAt, finish, hf]
    rw [e]
    cases done <;> simp [SameRecords]
  · exact (exec_eq_act rfl s).trans (act_unchanged hs (by simp only [eventOf, saveComplete, ht]))

/-! ### The state right after reset -/

theorem assigned_default (p : Fin 32) : assigned {} p = false := by simp [assigned]

/-- The reset values that the default tables give. -/
theorem resetPlant_default (w : Events) : resetPlant {} w = { events := w } := by
  have hp : resetPumps {} = Vector.replicate 32 {} := by
    ext1 i hi
    rw [resetPumps, Vector.getElem_ofFn, assigned_default]
    simp [unassignedPump]
  have hc : ∀ f, committedPower {} { pumps := resetPumps {}, events := w } f = 0 := fun f => by
    have hn : slots.filter (countsOn {} { pumps := resetPumps {}, events := w } f) = [] :=
      List.filter_eq_nil_iff.2 fun p _ => by rw [countsOn, assigned_default]; exact Bool.false_ne_true
    rw [committedPower, hn]
    rfl
  rw [resetPlant, hc, hc, hp]

theorem resetLevels_default : resetLevels {} = Vector.replicate 10 {} := by
  ext1 i hi
  simp [resetLevels, freshRecord]

/-- The conditions and the lines of a new part: the store is invalid, and no record stands in any other condition. -/
theorem reset_lines : conditionSummary Part.reset = 8 ∧ faultLevel Part.reset = true ∧ alertLevel Part.reset = false := by
  decide +kernel

theorem reset_steady : Steady Part.reset := by
  obtain ⟨hc, hf, ha⟩ := reset_lines
  exact ⟨rfl, ⟨rfl, rfl⟩, fun _ => ⟨hc.symm, hf.symm, ha.symm⟩, fun h => nomatch h⟩

/-- A new part after power-on, whose straps alone are free (section 11.9). -/
theorem fullReset_new (straps : Straps) : fullReset straps { Part.reset with power := .off false } =
    { Part.reset with line := { rate := rateOf straps } } := by
  obtain ⟨hc, hf, ha⟩ := reset_lines
  have el : resetLine {} straps = { rate := rateOf straps } := rfl
  have ee : ({} : Events).raise .settings = { pending := 0x8000 } := rfl
  have em : resetMgmt {} = Part.reset.mgmt := rfl
  have e : fullReset straps { Part.reset with power := .off false } = driveLines
      { levels := resetLevels {}, plant := resetPlant {} (({} : Events).raise .settings)
        line := resetLine {} straps, mgmt := resetMgmt {} } := rfl
  have ed : driveLines { Part.reset with line := { rate := rateOf straps }, conditions := 0 } =
      { Part.reset with
        line := { rate := rateOf straps }, conditions := conditionSummary Part.reset
        fault := faultLevel Part.reset, alert := alertLevel Part.reset } := rfl
  rw [hc, hf, ha] at ed
  rw [e, resetPlant_default, resetLevels_default, el, em, ee]
  exact ed

/-- Settles O2: the reset state is written out in the model, and it keeps what every step keeps. -/
theorem resetState : Obligations.ResetState := by
  refine ⟨⟨rfl, rfl, rfl, rfl, rfl, rfl, rfl, rfl, rfl, rfl, rfl, rfl, rfl, rfl, rfl, fullReset_new⟩, ?_, ?_, ?_, ?_, ?_,
    reset_steady⟩
  · exact ⟨⟨Nat.zero_le _, Nat.zero_le _, Nat.zero_le _, Nat.zero_le _⟩, reset_steady.2.2, fun h => nomatch h⟩
  · exact ⟨default_settings_ok, default_settings_ok, fun _ h => nomatch h⟩
  · obtain ⟨hl, ⟨hs, hp⟩, hm, hc⟩ := unpowered_within
    exact ⟨hl, fun k => (stageWithin_iff.1 (hs k)), hp, hm, hc⟩
  · obtain ⟨⟨h1, h2, h3, h4, h5⟩, hw⟩ := unpowered_agrees
    exact ⟨⟨h1, h2⟩, hw, h3, h4, h5⟩
  · intro p hp
    have e : State.reset.part.plant.pump p = ({} : Plant).pump p := rfl
    rw [e, unpowered_pump] at hp
    cases hp

end Sys2Proof.Machine
end

section
/-!
PROOFS. A step of the seconds timebase (section 2.2): what is left over is taken as if each expiry and entry command were
sent once, and the step itself then advances uptime, clock and run seconds.
-/

namespace Sys2Proof.Machine

/-! ### The pins are read by no event of the timebase -/

/-- The part with other levels of the summary and the two lines. -/
def Part.withPins (s : Part) (c : Word) (f a : Bool) : Part := { s with conditions := c, fault := f, alert := a }

/-- The event reads neither the summary nor the lines, and leaves them. -/
def PinFree (g : Part → Part) : Prop := ∀ (s : Part) (c : Word) (f a : Bool), g (s.withPins c f a) = (g s).withPins c f a

theorem pinFree_onPlant (f : View → Plant → Plant) : PinFree fun s => s.onPlant f := fun _ _ _ _ => rfl

theorem PinFree.ite {b : Part → Prop} [DecidablePred b] {g h : Part → Part} (hb : ∀ s c f a, b (Part.withPins s c f a) ↔ b s)
    (hg : PinFree g) (hh : PinFree h) : PinFree fun s => if b s then g s else h s := fun s c f a => by
  by_cases hs : b s
  · simp only [if_pos hs, if_pos ((hb s c f a).2 hs), hg s c f a]
  · simp only [if_neg hs, if_neg (mt (hb s c f a).1 hs), hh s c f a]

theorem pinFree_id : PinFree fun s => s := fun _ _ _ _ => rfl

theorem pinFree_boundaryEvent : PinFree boundaryEvent := by
  unfold boundaryEvent
  exact .ite (fun _ _ _ _ => Iff.rfl) (.ite (fun _ _ _ _ => Iff.rfl) (fun _ _ _ _ => rfl) fun _ _ _ _ => rfl) pinFree_id

theorem pinFree_staleEvent (r : Fin 10) : PinFree (staleEvent r) := by
  unfold staleEvent
  exact .ite (fun _ _ _ _ => Iff.rfl) (fun _ _ _ _ => rfl) pinFree_id

theorem pinFree_quietEvent : PinFree quietEvent := by
  unfold quietEvent
  exact .ite (fun _ _ _ _ => Iff.rfl) (fun _ _ _ _ => rfl) pinFree_id

theorem pinFree_changeMode (m : Mode) : PinFree (changeMode m) := fun s c f a => by
  have e : (s.withPins c f a).mgmt.mode = s.mgmt.mode := rfl
  have ep : (s.withPins c f a).plant = s.plant := rfl
  have el : (if s.mgmt.mode = .active then (s.withPins c f a).onPlant leaveActive else s.withPins c f a) =
      (if s.mgmt.mode = .active then s.onPlant leaveActive else s).withPins c f a := by
    split
    · exact pinFree_onPlant leaveActive s c f a
    · rfl
  unfold changeMode
  dsimp only
  rw [e, ep, el]
  generalize (if s.mgmt.mode = .active then s.onPlant leaveActive else s) = l
  generalize (if s.mgmt.mode = .active then slots.filter fun p => (s.plant.pump p).heldByActive else []) = ps
  generalize (fun (v : View) (x : Plant) => reconcileAll v (stagesOf ps) x) = reconciled
  generalize (fun (_ : View) (x : Plant) => updateStages m x) = updated
  generalize (fun (v : View) (x : Plant) => evaluateAll v .modeEntry x) = evaluated
  split <;> rfl

theorem pinFree_settleEvent : PinFree settleEvent := by
  have hc : ∀ s c f a, settleCheck (Part.withPins s c f a) = settleCheck s := fun _ _ _ _ => rfl
  unfold settleEvent
  refine .ite (fun _ _ _ _ => Iff.rfl) (.ite (fun _ _ _ _ => Iff.rfl) (fun s c f a => ?_) fun _ _ _ _ => rfl) pinFree_id
  rw [hc]
  exact pinFree_changeMode _ (keepCheck (settleCheck s) { s with mgmt := { s.mgmt with settleT := none } }) c f a

/-- The expiry and entry commands read neither the summary nor the lines. -/
theorem pinFree_eventOf {c : Instr} {s : Part} (h : dueAt s c ≠ none) : PinFree (eventOf c) := by
  cases c
  case minuteBoundary => exact pinFree_boundaryEvent
  case staleEntry r => exact pinFree_staleEvent r
  case uplineQuietExpiry => exact pinFree_quietEvent
  case settleExpiry => exact pinFree_settleEvent
  case startHistoryAgeing | minRunExpiry | minRestExpiry | startConfirmExpiry | stopConfirmExpiry | stopSpacingExpiry |
      feederSpacingExpiry | retryTimerExpiry | provingExpiry => exact fun _ _ _ _ => rfl
  all_goals exact absurd rfl h

/-! ### The commands that a step takes first -/

/-- The events of some commands, one after another, the scans of each following it. -/
def runEvents (cs : List Instr) (s : Part) : Part := cs.foldl (fun t c => settlePart (eventOf c t)) s

/-- Sent one after another, commands that do not read the lines have the effect of their events. -/
theorem execAll_runEvents {cs : List Instr} {s : State} (hp : s.part.power = .on)
    (hc : ∀ c ∈ cs, ofPower c = false ∧ PinFree (eventOf c)) {t : Part} {w : Word} {f a : Bool}
    (ht : s.part = t.withPins w f a) : ∃ u : State, execAll cs s = .next u ∧ u.pending = s.pending ∧
      ∃ (w : Word) (f a : Bool), u.part = (runEvents cs t).withPins w f a := by
  induction cs generalizing s t w f a with
  | nil => exact ⟨s, rfl, rfl, w, f, a, ht⟩
  | cons c cs ih =>
    obtain ⟨hof, hfree⟩ := hc c (List.mem_cons_self ..)
    have he : eventOf c s.part = (eventOf c t).withPins w f a := by rw [ht, hfree]
    have hn : (s.endingAt (eventOf c s.part)).part.power = .on := eventOf_power c hp
    obtain ⟨u, hu, hw⟩ := ih (t := settlePart (eventOf c t)) hn (fun d hd => hc d (List.mem_cons_of_mem _ hd))
      (by rw [he]; rfl)
    refine ⟨u, ?_, hw⟩
    rw [execAll, exec_running hof hp]
    exact hu

/-- Every command of `leftovers` waits for what it takes to be due. -/
theorem dueAt_leftovers {c : Instr} (hc : c ∈ leftovers) (s : Part) : dueAt s c ≠ none := by
  simp only [leftovers, List.mem_append, List.mem_map, List.mem_flatMap, List.mem_cons, List.not_mem_nil, or_false] at hc
  rcases hc with ((((rfl | ⟨_, _, rfl⟩) | ⟨_, _, rfl⟩) | ⟨_, _, hc⟩) | ⟨_, _, rfl⟩) | hc
  all_goals try rcases hc with rfl | rfl | rfl | rfl | rfl | rfl
  all_goals exact nofun

theorem takeDue_eq (s : Part) : takeDue s = runEvents leftovers s := by
  simp only [takeDue, runEvents, leftovers, plantExpiries, pumpExpiries, List.foldl_append, List.foldl_map, List.foldl_flatMap,
    List.foldl_cons, List.foldl_nil]
  rfl

/-! ### The clock while what is left over is taken -/

theorem changeMode_cal (m : Mode) (s : Part) : (changeMode m s).cal = s.cal := by
  unfold changeMode
  dsimp only
  split_ifs <;> simp only [Part.onPlant_cal]

theorem boundaryEvent_cal (s : Part) : ∃ c : TariffClass, (boundaryEvent s).cal =
    { s.cal with cls := c, boundaryDue := false } := by
  unfold boundaryEvent
  dsimp only
  split
  · refine ⟨classAt s.tab s.cal, ?_⟩
    split
    · rfl
    · rw [Part.onPlant_cal]
  · next h => exact ⟨s.cal.cls, by rw [← Bool.eq_false_iff.2 h]⟩

theorem quietEvent_cal (s : Part) : (quietEvent s).cal = s.cal := by unfold quietEvent; split; exacts [rfl, rfl]

theorem settleEvent_cal (s : Part) : (settleEvent s).cal = s.cal := by
  unfold settleEvent
  dsimp only
  split
  · split
    · rw [changeMode_cal]
      rfl
    · rfl
  · rfl

theorem staleEvent_cal (r : Fin 10) (s : Part) : (staleEvent r s).cal = s.cal := by
  rcases staleEvent_cases r s with ⟨e, -⟩ | ⟨e, -⟩
  · rw [e, enterStale, Part.onPlant_cal]
    rfl
  · rw [e]

/-- No command of `leftovers` but the minute boundary writes the clock. -/
theorem eventOf_cal {c : Instr} {s : Part} (h : dueAt s c ≠ none) (hb : c ≠ .minuteBoundary) (t : Part) :
    (eventOf c t).cal = t.cal := by
  cases c
  case minuteBoundary => exact absurd rfl hb
  case staleEntry r => exact staleEvent_cal r t
  case uplineQuietExpiry => exact quietEvent_cal t
  case settleExpiry => exact settleEvent_cal t
  case startHistoryAgeing | minRunExpiry | minRestExpiry | startConfirmExpiry | stopConfirmExpiry | stopSpacingExpiry |
      feederSpacingExpiry | retryTimerExpiry | provingExpiry => rfl
  all_goals exact absurd rfl h

theorem runEvents_cons (c : Instr) (cs : List Instr) (s : Part) :
    runEvents (c :: cs) s = runEvents cs (settlePart (eventOf c s)) := rfl

theorem runEvents_cal {cs : List Instr} (s : Part) (hc : ∀ c ∈ cs, dueAt s c ≠ none ∧ c ≠ .minuteBoundary) (t : Part) :
    (runEvents cs t).cal = t.cal := by
  induction cs generalizing t with
  | nil => rfl
  | cons c cs ih =>
    obtain ⟨hd, hb⟩ := hc c (List.mem_cons_self ..)
    exact (ih (fun d hd => hc d (List.mem_cons_of_mem _ hd)) _).trans (eventOf_cal hd hb t)

/-- What is left over changes of the clock the class and the mark of the boundary, which it spends (R26, R27). -/
theorem takeDue_cal (s : Part) : ∃ c : TariffClass, (takeDue s).cal = { s.cal with cls := c, boundaryDue := false } := by
  obtain ⟨c, hc⟩ := boundaryEvent_cal s
  refine ⟨c, ?_⟩
  have el : runEvents leftovers s = runEvents leftovers.tail (settlePart (boundaryEvent s)) :=
    (congrArg (fun cs => runEvents cs s) (show leftovers = .minuteBoundary :: leftovers.tail from rfl)).trans
      (runEvents_cons ..)
  rw [takeDue_eq, ← hc, el]
  refine runEvents_cal s (fun d hd => ⟨dueAt_leftovers (List.mem_of_mem_tail hd) s, ?_⟩) (settlePart (boundaryEvent s))
  rintro rfl
  simp [leftovers] at hd

theorem settled_settlePart (s : Part) : Settled (settlePart s).plant := settled_settle _ _

theorem takeDue_settled (s : Part) : Settled (takeDue s).plant := by
  unfold takeDue
  exact settled_settlePart _

/-! ### Nothing is due -/

theorem dueAt_of_nothingDue {s : Part} (h : NothingDue s) {c : Instr} (hc : c ∈ leftovers) : dueAt s c = some false := by
  obtain ⟨hb, hr, hh, hp, hk, ha, hb', hq, hm⟩ := h
  have ht : ∀ {t : Timer}, t ≠ some s.cal.uptime → due s.cal.uptime t = false := fun h => by simpa [due] using h
  have hd := dueAt_leftovers hc s
  cases c
  case minuteBoundary => rw [dueAt, hb]
  case staleEntry r => rw [dueAt, hr]
  case startHistoryAgeing k =>
    refine congrArg some (List.any_eq_false.2 fun p _ => ?_)
    simpa using hh p
  case feederSpacingExpiry f => cases f; exacts [congrArg some (ht ha), congrArg some (ht hb')]
  case stopSpacingExpiry k => exact congrArg some (ht (hk k))
  case uplineQuietExpiry => exact congrArg some (ht hq)
  case settleExpiry => exact congrArg some (ht hm)
  case minRunExpiry p | minRestExpiry p | startConfirmExpiry p | stopConfirmExpiry p | retryTimerExpiry p |
      provingExpiry p => exact congrArg some (ht (hp p _ (by simp)))
  all_goals exact absurd rfl hd

/-- Commands of which none has an effect leave the state. -/
theorem execAll_same {cs : List Instr} {s : State} (h : ∀ c ∈ cs, exec c s = .next s) : execAll cs s = .next s := by
  induction cs with
  | nil => rfl
  | cons c cs ih =>
    rw [execAll, h c (List.mem_cons_self ..)]
    exact ih fun d hd => h d (List.mem_cons_of_mem _ hd)

/-! ### The step -/

theorem age_eq (now since : Uptime) : (age now since : Int) = ((now.toNat : Int) - since.toNat) % 4294967296 := by
  rw [age, BitVec.toNat_sub]
  omega

/-- A timer started for a time is due at the uptime of that age (R19, R20). -/
theorem age_startTimer (now : Uptime) {n : Nat} (hn : n < 4294967296) : age (now + BitVec.ofNat 32 n) now = n := by
  rw [age, add_sub_cancel_left, BitVec.toNat_ofNat]
  exact Nat.mod_eq_of_lt hn

/-- The end of the step: no scan is left over, so that the records are those that the step leaves. -/
theorem finish_secondsEvent (s : Part) : finish (secondsEvent s) = driveLines (advance (takeDue s)) := by
  have h : Settled (advance (takeDue s)).plant := (advance_plant (takeDue s)).symm ▸ takeDue_settled s
  rw [finish, secondsEvent, settlePart_settled h]

theorem tick_cls (c : Calendar) : c.tick.cls = c.cls := by unfold Calendar.tick; split_ifs <;> rfl

theorem tick_clockSet (c : Calendar) : c.tick.clockSet = c.clockSet := by unfold Calendar.tick; split_ifs <;> rfl

/-- The clock after a step, by the clock before it (R21). -/
theorem advance_cal (s : Part) : (advance s).cal = { s.cal.tick with uptime := s.cal.uptime + 1 } := by
  unfold advance
  rfl

/-- What a step leaves as it is. -/
theorem advance_rest (s : Part) : (advance s).free = s.free ∧ (advance s).tab = { s.tab with t14 := (advance s).tab.t14 } ∧
    (advance s).line = s.line ∧ (advance s).mgmt = s.mgmt := by
  unfold advance
  exact ⟨rfl, rfl, rfl, rfl⟩

/-- The clock after a step with what is left over taken first: the clock of the step alone (R18, R21). -/
theorem secondsEvent_cal (s : Part) : ∃ c : TariffClass, (secondsEvent s).cal =
    { ({ s.cal with cls := c, boundaryDue := false } : Calendar).tick with uptime := s.cal.uptime + 1 } := by
  obtain ⟨c, hc⟩ := takeDue_cal s
  refine ⟨c, ?_⟩
  rw [secondsEvent, advance_cal, hc]

/-- SECONDS_STEP on a running part ends as the step leaves it, with the lines driven. -/
theorem exec_secondsStep {s : State} (hp : s.part.power = .on) :
    exec .secondsStep s = .next { s with part := driveLines (secondsEvent s.part) } := by
  rw [exec_running rfl hp, State.endingAt]
  exact congrArg (fun t => Host.Outcome.next { s with part := t }) (finish_secondsEvent s.part)

/-- Settles O11: the commands left over have the effect of `takeDue`, and the step then is `advance`. -/
theorem secondsStepAdvances : Obligations.SecondsStepAdvances := by
  refine ⟨fun now since n u => ⟨age_eq now since, ?_, by rw [due, beq_iff_eq]⟩, fun s hp => ?_, fun s hp => ?_⟩
  · intro hu hn
    exact ⟨now + BitVec.ofNat 32 n, by rw [← hu, startTimer], age_startTimer now hn⟩
  · obtain ⟨c, hc⟩ := secondsEvent_cal s.part
    refine ⟨_, exec_secondsStep hp, rfl, ?_⟩
    simp only [driveLines_cal, hc, Calendar.tick]
    split_ifs <;> simp_all <;> omega
  · obtain ⟨u, hu, hpend, w, f, a, hw⟩ := execAll_runEvents (cs := leftovers) (s := s) hp
      (fun c hc => ⟨ofPower_of_dueAt (Option.ne_none_iff_exists'.1 (dueAt_leftovers hc s.part)).choose_spec,
        pinFree_eventOf (dueAt_leftovers hc s.part)⟩)
      (t := s.part) (w := s.part.conditions) (f := s.part.fault) (a := s.part.alert) rfl
    rw [← takeDue_eq] at hw
    have hclock : (takeDue s.part).cal.boundaryDue = false := by
      obtain ⟨c, hc⟩ := takeDue_cal s.part
      rw [hc]
    refine ⟨u, _, hu, exec_secondsStep hp, fun hs hn => ?_, ?_⟩
    · have hsame : execAll leftovers s = .next s := execAll_same fun c hc =>
        commandsWithoutEffect.1 c s hs (dueAt_of_nothingDue hn hc)
      rw [hu] at hsame
      injection hsame
    · rw [secondsEvent, hw]
      generalize takeDue s.part = x at hclock ⊢
      obtain ⟨hfree, htab, hline, hmgmt⟩ := advance_rest x
      simp only [Part.withPins, driveLines_free, driveLines_cal, driveLines_tab, driveLines_plant, driveLines_line,
        driveLines_mgmt, driveLines_levels]
      refine ⟨hpend.symm, hfree, ?_, fun h => ?_, fun p => ?_, htab, advance_plant x, hline, hmgmt, fun r => ?_⟩
      · exact (congrArg Calendar.cls (advance_cal x)).trans (tick_cls x.cal)
      · rw [advance_cal] at h ⊢
        have hc : x.cal.tick = x.cal := by rw [Calendar.tick, ← tick_clockSet, h]; rfl
        rw [hc]
        exact hclock
      · have ht : (advance x).tab.t14[p] = runSeconds x.tab x.plant p := by simp [advance]
        rw [ht, runSeconds]
        exact if_congr Iff.rfl rfl rfl
      · have hn : (!x.levels[r].noLevel) = (x.levels[r].state != .unknown && x.levels[r].state != .stale) :=
          Bool.not_or _ _
        have hl : (advance x).levels[r] =
            { x.levels[r] with staleDue := staleReached x.tab.t1[r] (x.cal.uptime + 1) x.levels[r] } := by simp [advance]
        rw [hl, staleReached, staleTested, hn]
        rfl

end Sys2Proof.Machine
end

section
/-!
PROOFS. The events of one pump: the rest test, run feedback and the taking of a trip (sections 4.7 and 7.3). Each is
first written as one record that the pump takes, on the queue and the slots that it leaves.
-/

namespace Sys2Proof.Machine

/-! ### A pump takes a record -/

/-- The pump takes the record `q`, and its committed change is handed on (R60). -/
def Plant.became (x : Plant) (tab : Settings) (p : Fin 32) (q : Pump) : Plant := handCommitted tab p (x.setPump p q)

@[simp] theorem Plant.became_pump (x : Plant) (tab : Settings) (p : Fin 32) (q : Pump) :
    (x.became tab p q).pump p = q := by simp [Plant.became]

@[simp] theorem Plant.became_queue (x : Plant) (tab : Settings) (p : Fin 32) (q : Pump) :
    (x.became tab p q).queue = x.queue := by simp [Plant.became]

@[simp] theorem Plant.became_events (x : Plant) (tab : Settings) (p : Fin 32) (q : Pump) :
    (x.became tab p q).events = x.events := by simp [Plant.became]

/-- Nothing has changed but the record of one pump, the committed power and the scans asked for. -/
def RecordOnly (p : Fin 32) (x y : Plant) : Prop :=
  OnlyPump p x y ∧ y.events = x.events ∧ y.queue = x.queue ∧ SlotsFrom x y

namespace RecordOnly

theorem setPump (p : Fin 32) (x : Plant) (q : Pump) : RecordOnly p x (x.setPump p q) :=
  ⟨(OnlyPump.refl p x).setPump q, rfl, rfl, SlotsFrom.setPump p q x⟩

theorem became (tab : Settings) (p : Fin 32) (x : Plant) (q : Pump) : RecordOnly p x (x.became tab p q) :=
  ⟨((OnlyPump.refl p x).setPump q).handCommitted tab p, x.became_events tab p q, x.became_queue tab p q,
    (SlotsFrom.setPump p q x).trans (.handCommitted tab p _)⟩

theorem trans {p : Fin 32} {x y z : Plant} (h : RecordOnly p x y) (h' : RecordOnly p y z) : RecordOnly p x z :=
  ⟨h.1.trans h'.1, h'.2.1.trans h.2.1, h'.2.2.1.trans h.2.2.1, h.2.2.2.trans h'.2.2.2⟩

end RecordOnly

theorem leaveQueue_queue (x : Plant) (p : Fin 32) : (x.leaveQueue p).queue =
    if (x.pump p).state = .queued then removeRequest p x.queue else x.queue := by
  unfold Plant.leaveQueue
  split
  · exact dequeue_queue p x
  · rfl

theorem leaveQueue_events (x : Plant) (p : Fin 32) : (x.leaveQueue p).events = x.events := by
  unfold Plant.leaveQueue
  split <;> simp

theorem slotsFrom_raise (x : Plant) (e : Event) : SlotsFrom x (x.raise e) := .of_eq fun f => Plant.feeder_raise x e f

/-! ### The uncommanded run and the rest test -/

/-- The record of a pump after an uncommanded run (R62). -/
def Pump.ranUncommanded (q : Pump) (now : Uptime) (e : PumpEntry) : Pump :=
  (({ q with feedback := .running, uncommanded := true }.enterRunning now e).recordStart now).startMinRun now e

section
variable {v : View} {p : Fin 32} {x : Plant}

theorem restTest_stop (h : (x.pump p).holds .stop = true) :
    restTest v p x = x.became v.tab p ((x.pump p).goto .stopping) := by
  simp only [restTest, h, if_true]
  rfl

theorem restTest_running (h : (x.pump p).holds .stop = false) (hf : (x.pump p).feedback = .running) :
    restTest v p x = uncommandedRun v p x := by
  simp only [restTest, h, Bool.false_eq_true, if_false, hf, if_true]

theorem restTest_resting (h : (x.pump p).holds .stop = false) (hf : (x.pump p).feedback ≠ .running)
    (hr : (x.pump p).stopRecorded = true) (ha : age v.now (x.pump p).stopAt < v.tab.t3[p].minRest) :
    restTest v p x = x.became v.tab p { (x.pump p).goto .resting with
      minRestT := startTimer v.now (v.tab.t3[p].minRest - age v.now (x.pump p).stopAt) } := by
  simp only [restTest, h, Bool.false_eq_true, if_false, hf]
  exact if_pos ⟨hr, ha⟩

theorem restTest_off (h : (x.pump p).holds .stop = false) (hf : (x.pump p).feedback ≠ .running)
    (ha : (x.pump p).stopRecorded = false ∨ v.tab.t3[p].minRest ≤ age v.now (x.pump p).stopAt) :
    restTest v p x = x.became v.tab p ((x.pump p).goto .off) := by
  simp only [restTest, h, Bool.false_eq_true, if_false, hf]
  refine if_neg fun ⟨hr, hlt⟩ => ?_
  rcases ha with ha | ha
  · rw [hr] at ha
    cases ha
  · omega

/-- Without a STOP held and without running feedback the pump rests or is OFF. -/
theorem restTest_still (h : (x.pump p).holds .stop = false) (hf : (x.pump p).feedback ≠ .running) :
    ∃ (st : PumpState) (t : Timer), (st = .resting ∨ st = .off) ∧
      restTest v p x = x.became v.tab p { (x.pump p).goto st with minRestT := t } := by
  by_cases ha : (x.pump p).stopRecorded = true ∧ age v.now (x.pump p).stopAt < v.tab.t3[p].minRest
  · exact ⟨.resting, _, .inl rfl, restTest_resting h hf ha.1 ha.2⟩
  · refine ⟨.off, none, .inr rfl, restTest_off h hf ?_⟩
    rw [not_and_or, Bool.not_eq_true, Nat.not_lt] at ha
    exact ha

/-- The rest test changes nothing but the record of its pump, unless it finds an uncommanded run. -/
theorem restTest_recordOnly (h : (x.pump p).holds .stop = true ∨ (x.pump p).feedback ≠ .running) :
    RecordOnly p x (restTest v p x) := by
  by_cases hs : (x.pump p).holds .stop = true
  · rw [restTest_stop hs]
    exact .became ..
  · obtain ⟨st, t, -, e⟩ := restTest_still (v := v) (Bool.eq_false_iff.2 hs) (h.resolve_left hs)
    rw [e]
    exact .became ..

end

/-- The end of a rest is the stop plus the rest time (R65). -/
theorem startTimer_rest {now stop : Uptime} {rest : Nat} (h : age now stop < rest) :
    startTimer now (rest - age now stop) = some (stop + BitVec.ofNat 32 rest) := by
  unfold age at h ⊢
  refine congrArg some (BitVec.eq_of_toNat_eq ?_)
  rw [BitVec.toNat_sub] at h
  simp only [BitVec.toNat_add, BitVec.toNat_ofNat, BitVec.toNat_sub]
  omega

/-- Settles O27: the branches of the rest test. -/
theorem restTestOutcome : Obligations.RestTestOutcome := by
  refine fun v p x _ => ⟨restTest_frame v p x, fun h => ?_, fun h => ?_, restTest_running, fun h hf hr ha => ?_,
    fun h hf ha => ?_⟩
  · obtain ⟨-, he, hq, hs⟩ := restTest_recordOnly (v := v) h
    exact ⟨hq, he, hs⟩
  · rw [restTest_stop h]
    simp
  · rw [restTest_resting h hf hr ha, startTimer_rest ha]
    simp
  · rw [restTest_off h hf ha]
    simp

/-! ### The taking of a trip -/

/-- A RUN held is cleared by a trip, and a STOP kept (R114). -/
def Pump.tripCleared (q : Pump) (c : TripCause) : Pump := { (if q.holds .run then q.dropCmd else q) with cause := c }

/-- The record of a pump after a trip that moves it (R114). -/
def Pump.trippedBy (q : Pump) (now : Uptime) (e : PumpEntry) (c : TripCause) : Pump :=
  if e.retryLimit ≤ q.retries then (q.tripCleared c).goto .lockedOut
  else { (q.tripCleared c).goto .tripped with retries := q.retries + 1, retryT := startTimer now e.retryInterval }

/-- The event of a trip that moves the pump (R114). -/
def Pump.tripEvent (q : Pump) (e : PumpEntry) : Event := if e.retryLimit ≤ q.retries then .pumpLockout else .pumpTrip

section
variable {v : View} {p : Fin 32} {c : TripCause} {x : Plant}

theorem takeTrip_kept (h : (x.pump p).state = .tripped ∨ (x.pump p).state = .lockedOut ∨ (x.pump p).state = .unseen) :
    takeTrip v p c x = x.setPump p { x.pump p with cause := c } := by
  rw [takeTrip]
  exact if_pos h

theorem takeTrip_moved (h : ¬((x.pump p).state = .tripped ∨ (x.pump p).state = .lockedOut ∨ (x.pump p).state = .unseen)) :
    takeTrip v p c x = ((leaveStarting p (x.leaveQueue p)).became v.tab p
      ((x.pump p).trippedBy v.now v.tab.t3[p] c)).raise ((x.pump p).tripEvent v.tab.t3[p]) := by
  rw [takeTrip]
  refine (if_neg h).trans ?_
  unfold Pump.trippedBy Pump.tripEvent
  by_cases hr : v.tab.t3[p].retryLimit ≤ (x.pump p).retries
  · simp only [if_pos hr]
    rfl
  · simp only [if_neg hr]
    rfl

end

theorem tripCleared_facts (q : Pump) (c : TripCause) : (q.tripCleared c).feedback = q.feedback ∧
    (q.tripCleared c).cause = c ∧ (q.tripCleared c).retries = q.retries ∧
    (q.holds .run = true → (q.tripCleared c).cmd = none ∧ (q.tripCleared c).startT = none) ∧
    (q.holds .run = false → (q.tripCleared c).cmd = q.cmd ∧ (q.tripCleared c).stopT = q.stopT) := by
  unfold Pump.tripCleared
  cases h : q.holds .run <;> simp

/-- Settles O30: a trip leaves the cause alone, or moves the pump by its retries. -/
theorem tripTaken : Obligations.TripTaken := by
  rintro v p c x q r rfl rfl
  obtain ⟨hf, hc, hr, hrun, hstop⟩ := tripCleared_facts (x.pump p) c
  by_cases h : (x.pump p).state = .tripped ∨ (x.pump p).state = .lockedOut ∨ (x.pump p).state = .unseen
  · refine ⟨takeTrip_frame v p c x, ?_, ?_, fun _ => takeTrip_kept h, fun h1 h2 h3 => ?_⟩
    · rw [takeTrip_kept h]; simp
    · rw [takeTrip_kept h]; simp
    · rcases h with h | h | h <;> contradiction
  · have hm := takeTrip_moved (v := v) (c := c) h
    refine ⟨takeTrip_frame v p c x, ?_, ?_, fun h' => absurd h' h, fun _ _ _ => ?_⟩
    · rw [hm]
      simp only [Plant.pump_raise, Plant.became_pump, Pump.trippedBy]
      split <;> exact hc
    · rw [hm]
      simp only [Plant.pump_raise, Plant.became_pump, Pump.trippedBy]
      split <;> exact hf
    · rw [hm]
      simp only [Plant.raise_queue, Plant.became_queue, leaveStarting_queue, leaveQueue_queue, Plant.pump_raise,
        Plant.became_pump, Plant.raise_events, Plant.became_events, leaveStarting_events, leaveQueue_events]
      refine ⟨trivial, (RecordOnly.became _ _ _ _).2.2.2.trans (slotsFrom_raise _ _), ?_⟩
      by_cases hl : v.tab.t3[p].retryLimit ≤ (x.pump p).retries
      · simp only [Pump.trippedBy, Pump.tripEvent, if_pos hl]
        exact ⟨rfl, rfl, hrun, hstop, fun _ => ⟨rfl, hr, trivial⟩, fun hl' => absurd hl (Nat.not_le.2 hl')⟩
      · simp only [Pump.trippedBy, Pump.tripEvent, if_neg hl]
        exact ⟨rfl, rfl, hrun, hstop, fun hl' => absurd hl' hl, fun _ => ⟨rfl, trivial, trivial, trivial⟩⟩

theorem takeTrip_feedback (v : View) (p : Fin 32) (c : TripCause) (x : Plant) :
    ((takeTrip v p c x).pump p).feedback = (x.pump p).feedback := (tripTaken v p c x _ _ rfl rfl).2.2.1

/-! ### Running feedback -/

/-- The record of a pump adopted from UNSEEN as running (R63). -/
def Pump.adopted (q : Pump) (now : Uptime) (e : PumpEntry) : Pump :=
  { q.enterRunning now e with feedback := .running, minRunMet := true, runStart := now }

/-- The record of a pump whose start is confirmed (R63, R73). -/
def Pump.started (q : Pump) (now : Uptime) (e : PumpEntry) : Pump :=
  (({ q.dropCmd with feedback := .running }.enterRunning now e).recordStart now).startMinRun now e

section
variable {v : View} {p : Fin 32} {x : Plant}

theorem tripIfIndicated_clear (h : (x.pump p).tripInd = false) : tripIfIndicated v p x = x := by
  simp [tripIfIndicated, h]

theorem tripIfIndicated_set (h : (x.pump p).tripInd = true) :
    tripIfIndicated v p x = takeTrip v p .starterTrip x := by
  simp [tripIfIndicated, h]

theorem feedbackRunning_unseen (h : (x.pump p).state = .unseen) : feedbackRunning v p x =
    tripIfIndicated v p (x.became v.tab p ((x.pump p).adopted v.now v.tab.t3[p])) := by
  simp only [feedbackRunning, h]
  rfl

theorem feedbackRunning_uncommanded (h : (x.pump p).state = .off ∨ (x.pump p).state = .resting ∨ (x.pump p).state = .queued) :
    feedbackRunning v p x = uncommandedRun v p x := by
  rcases h with h | h | h <;> simp only [feedbackRunning, h]

theorem feedbackRunning_starting (h : (x.pump p).state = .starting) : feedbackRunning v p x =
    (leaveStarting p x).became v.tab p ((x.pump p).started v.now v.tab.t3[p]) := by
  simp only [feedbackRunning, h]
  rfl

theorem feedbackRunning_kept (h : (x.pump p).state = .running ∨ (x.pump p).state = .stopping ∨ (x.pump p).state = .stopFailed) :
    feedbackRunning v p x = x.became v.tab p { x.pump p with feedback := .running } := by
  rcases h with h | h | h <;> simp only [feedbackRunning, h] <;> rfl

theorem feedbackRunning_tripped (h : (x.pump p).state = .tripped ∨ (x.pump p).state = .lockedOut) : feedbackRunning v p x =
    if (x.pump p).feedback = .running then
      x.became v.tab p { x.pump p with feedback := .running, uncommanded := true }
    else (x.became v.tab p { x.pump p with feedback := .running, uncommanded := true }).raise .uncommandedRun := by
  rcases h with h | h <;> simp only [feedbackRunning, h] <;> rfl

/-- What an uncommanded run gives, by the record that it leaves (R62). -/
theorem feedbackRunning_uncommanded_eq
    (h : (x.pump p).state = .off ∨ (x.pump p).state = .resting ∨ (x.pump p).state = .queued) : feedbackRunning v p x =
    ((x.leaveQueue p).became v.tab p ((x.pump p).ranUncommanded v.now v.tab.t3[p])).raise .uncommandedRun :=
  feedbackRunning_uncommanded h

end

/-- The states of a pump as run feedback takes them together. -/
theorem PumpState.feedback_cases (st : PumpState) : st = .unseen ∨ (st = .off ∨ st = .resting ∨ st = .queued) ∨
    st = .starting ∨ (st = .running ∨ st = .stopping ∨ st = .stopFailed) ∨ (st = .tripped ∨ st = .lockedOut) := by
  cases st <;> simp

/-- Settles O28: one record for each state of the pump. -/
theorem runningFeedback : Obligations.RunningFeedback := by
  rintro v p x q r rfl rfl
  refine ⟨feedbackRunning_frame v p x, ?_, fun h => ?_, fun h hi => ?_, fun h hi => ?_, fun h => ?_, fun h => ?_,
    fun h => ?_, fun h => ?_⟩
  · rcases (x.pump p).state.feedback_cases with h | h | h | h | h
    · rw [feedbackRunning_unseen h]
      cases hi : (x.pump p).tripInd
      · rw [tripIfIndicated_clear (by rwa [Plant.became_pump]), Plant.became_pump]
        rfl
      · rw [tripIfIndicated_set (by rwa [Plant.became_pump]), takeTrip_feedback, Plant.became_pump]
        rfl
    · rw [feedbackRunning_uncommanded_eq h, Plant.pump_raise, Plant.became_pump]
      rfl
    · rw [feedbackRunning_starting h, Plant.became_pump]
      rfl
    · rw [feedbackRunning_kept h, Plant.became_pump]
    · rw [feedbackRunning_tripped h]
      split <;> simp
  · rcases (x.pump p).state.feedback_cases with hs | hs | hs | hs | hs
    · have hi : (x.pump p).tripInd = false := h.resolve_left fun h => h hs
      rw [feedbackRunning_unseen hs, tripIfIndicated_clear (by rwa [Plant.became_pump]), hs]
      exact ⟨x.became_queue _ _ _, (RecordOnly.became ..).2.2.2⟩
    · rw [feedbackRunning_uncommanded_eq hs, Plant.raise_queue, Plant.became_queue, leaveQueue_queue]
      have hne : (x.pump p).state ≠ .starting := by rcases hs with h | h | h <;> simp [h]
      rw [if_neg hne]
      exact ⟨rfl, (RecordOnly.became ..).2.2.2.trans (slotsFrom_raise _ _)⟩
    · rw [feedbackRunning_starting hs, hs]
      exact ⟨Plant.became_queue _ _ _ _, (RecordOnly.became ..).2.2.2⟩
    · have hne : (x.pump p).state ≠ .queued ∧ (x.pump p).state ≠ .starting := by rcases hs with h | h | h <;> simp [h]
      rw [feedbackRunning_kept hs, if_neg hne.1, if_neg hne.1, if_neg hne.2]
      exact ⟨x.became_queue _ _ _, (RecordOnly.became ..).2.2.2⟩
    · have hne : (x.pump p).state ≠ .queued ∧ (x.pump p).state ≠ .starting := by rcases hs with h | h <;> simp [h]
      rw [feedbackRunning_tripped hs, if_neg hne.1, if_neg hne.1, if_neg hne.2]
      split
      · exact ⟨x.became_queue _ _ _, (RecordOnly.became ..).2.2.2⟩
      · exact ⟨x.became_queue _ _ _, (RecordOnly.became ..).2.2.2.trans (slotsFrom_raise _ _)⟩
  · rw [feedbackRunning_unseen h, tripIfIndicated_clear (by rwa [Plant.became_pump])]
    simp [Pump.adopted, Pump.enterRunning]
  · rw [feedbackRunning_unseen h, tripIfIndicated_set (by rwa [Plant.became_pump])]
    obtain ⟨ho, he, hq, hs⟩ := RecordOnly.became v.tab p x ((x.pump p).adopted v.now v.tab.t3[p])
    exact ⟨_, x.became_pump v.tab p _, ho, he, hq, hs, rfl⟩
  · rw [feedbackRunning_uncommanded_eq h]
    simp [Pump.ranUncommanded, leaveQueue_events, Pump.enterRunning, Pump.goto]
  · rw [feedbackRunning_starting h]
    simp [Pump.started, Pump.enterRunning]
  · rw [feedbackRunning_kept h]
    simp
  · rw [feedbackRunning_tripped h]
    split <;> simp

/-! ### Stopped feedback -/

/-- What a stopped report sets in every state (R64). -/
def Pump.reportedStopped (q : Pump) : Pump := { q with feedback := .stopped, uncommanded := false }

/-- The stop of a TRIPPED or LOCKED_OUT pump is recorded where the pump ran (R65). -/
def Pump.stoppedTripped (q : Pump) (now : Uptime) : Pump :=
  if q.feedback = .running then q.reportedStopped.recordStop now else q.reportedStopped

section
variable {v : View} {p : Fin 32} {x : Plant}

/-- A trip leaves what the feedback has recorded. -/
theorem takeTrip_fields (v : View) (p : Fin 32) (c : TripCause) (x : Plant) :
    ((takeTrip v p c x).pump p).uncommanded = (x.pump p).uncommanded ∧
    ((takeTrip v p c x).pump p).stopAt = (x.pump p).stopAt ∧
    ((takeTrip v p c x).pump p).stopRecorded = (x.pump p).stopRecorded := by
  by_cases h : (x.pump p).state = .tripped ∨ (x.pump p).state = .lockedOut ∨ (x.pump p).state = .unseen
  · rw [takeTrip_kept h, Plant.pump_setPump_same]
    exact ⟨rfl, rfl, rfl⟩
  · rw [takeTrip_moved h, Plant.pump_raise, Plant.became_pump]
    unfold Pump.trippedBy Pump.tripCleared
    split_ifs <;> exact ⟨rfl, rfl, rfl⟩

/-- The record that the rest test leaves, unless it finds an uncommanded run. -/
theorem restTest_record (h : (x.pump p).holds .stop = true ∨ (x.pump p).feedback ≠ .running) :
    ∃ (st : PumpState) (t : Timer), (restTest v p x).pump p = { (x.pump p).goto st with minRestT := t } ∧
      ((x.pump p).holds .stop = true → st = .stopping) ∧
      ((x.pump p).holds .stop = false → st = .resting ∨ st = .off) := by
  cases hs : (x.pump p).holds .stop
  · obtain ⟨st, t, hst, e⟩ := restTest_still (v := v) hs (h.resolve_left (by simp [hs]))
    exact ⟨st, t, by rw [e, Plant.became_pump], nofun, fun _ => hst⟩
  · exact ⟨.stopping, none, by rw [restTest_stop hs, Plant.became_pump]; rfl, fun _ => rfl, nofun⟩

/-- The branches of a stopped report, by the records that they start from. -/
theorem feedbackStopped_eq (v : View) (p : Fin 32) (x : Plant) : feedbackStopped v p x =
    match (x.pump p).state with
    | .unseen => tripIfIndicated v p (x.became v.tab p ((x.pump p).reportedStopped.goto .off))
    | .off | .resting | .queued | .starting => x.became v.tab p (x.pump p).reportedStopped
    | .running =>
      if (x.pump p).reachable then takeTrip v p .lostRun (x.became v.tab p ((x.pump p).reportedStopped.recordStop v.now))
      else restTest v p (x.became v.tab p ((x.pump p).reportedStopped.recordStop v.now))
    | .stopping => restTest v p (x.setPump p ((x.pump p).reportedStopped.dropCmd.recordStop v.now))
    | .stopFailed => restTest v p (x.setPump p ((x.pump p).reportedStopped.recordStop v.now))
    | .tripped | .lockedOut => x.became v.tab p
        (if ((x.pump p).stoppedTripped v.now).holds .stop then ((x.pump p).stoppedTripped v.now).dropCmd
        else (x.pump p).stoppedTripped v.now) := by
  rfl

theorem feedbackStopped_unseen (h : (x.pump p).state = .unseen) : feedbackStopped v p x =
    tripIfIndicated v p (x.became v.tab p ((x.pump p).reportedStopped.goto .off)) := by
  rw [feedbackStopped_eq, h]

theorem feedbackStopped_kept (h : (x.pump p).state = .off ∨ (x.pump p).state = .resting ∨ (x.pump p).state = .queued ∨
      (x.pump p).state = .starting) :
    feedbackStopped v p x = x.became v.tab p (x.pump p).reportedStopped := by
  rcases h with h | h | h | h <;> rw [feedbackStopped_eq, h]

theorem feedbackStopped_running (h : (x.pump p).state = .running) : feedbackStopped v p x =
    if (x.pump p).reachable then
      takeTrip v p .lostRun (x.became v.tab p ((x.pump p).reportedStopped.recordStop v.now))
    else restTest v p (x.became v.tab p ((x.pump p).reportedStopped.recordStop v.now)) := by
  rw [feedbackStopped_eq, h]

theorem feedbackStopped_stopping (h : (x.pump p).state = .stopping) : feedbackStopped v p x =
    restTest v p (x.setPump p ((x.pump p).reportedStopped.dropCmd.recordStop v.now)) := by
  rw [feedbackStopped_eq, h]

theorem feedbackStopped_stopFailed (h : (x.pump p).state = .stopFailed) : feedbackStopped v p x =
    restTest v p (x.setPump p ((x.pump p).reportedStopped.recordStop v.now)) := by
  rw [feedbackStopped_eq, h]

theorem feedbackStopped_tripped (h : (x.pump p).state = .tripped ∨ (x.pump p).state = .lockedOut) : feedbackStopped v p x =
    x.became v.tab p (if ((x.pump p).stoppedTripped v.now).holds .stop then ((x.pump p).stoppedTripped v.now).dropCmd
      else (x.pump p).stoppedTripped v.now) := by
  rcases h with h | h <;> rw [feedbackStopped_eq, h]

end

/-- A stopped report that neither trips the pump nor takes it from RUNNING changes its record only. -/
theorem feedbackStopped_recordOnly {v : View} {p : Fin 32} {x : Plant} (h : (x.pump p).state ≠ .running)
    (hu : (x.pump p).state ≠ .unseen ∨ (x.pump p).tripInd = false) : RecordOnly p x (feedbackStopped v p x) := by
  have rest : ∀ q : Pump, q.feedback = .stopped → RecordOnly p x (restTest v p (x.setPump p q)) := fun q hq =>
    (RecordOnly.setPump p x q).trans (restTest_recordOnly (.inr (by rw [Plant.pump_setPump_same, hq]; exact nofun)))
  cases hs : (x.pump p).state
  case running => exact absurd hs h
  case unseen =>
    rw [feedbackStopped_unseen hs, tripIfIndicated_clear (by
      rw [Plant.became_pump]; exact hu.resolve_left fun h => h hs)]
    exact .became ..
  case off | resting | queued | starting => rw [feedbackStopped_kept (by simp [hs])]; exact .became ..
  case stopping => rw [feedbackStopped_stopping hs]; exact rest _ rfl
  case stopFailed => rw [feedbackStopped_stopFailed hs]; exact rest _ rfl
  case tripped | lockedOut => rw [feedbackStopped_tripped (by simp [hs])]; exact .became ..

/-- A stopped report is kept in every state (R64). -/
theorem feedbackStopped_reported (v : View) (p : Fin 32) (x : Plant) :
    ((feedbackStopped v p x).pump p).feedback = .stopped ∧ ((feedbackStopped v p x).pump p).uncommanded = false := by
  have rest : ∀ y : Plant, (y.pump p).feedback = .stopped ∧ (y.pump p).uncommanded = false →
      ((restTest v p y).pump p).feedback = .stopped ∧ ((restTest v p y).pump p).uncommanded = false := fun y hy => by
    obtain ⟨st, t, e, -⟩ := restTest_record (v := v) (p := p) (x := y) (.inr (by rw [hy.1]; exact nofun))
    rw [e]
    exact hy
  have trip : ∀ (y : Plant) (c : TripCause), (y.pump p).feedback = .stopped ∧ (y.pump p).uncommanded = false →
      ((takeTrip v p c y).pump p).feedback = .stopped ∧ ((takeTrip v p c y).pump p).uncommanded = false := fun y c hy => by
    rw [takeTrip_feedback, (takeTrip_fields v p c y).1]
    exact hy
  cases hs : (x.pump p).state
  case unseen =>
    rw [feedbackStopped_unseen hs, tripIfIndicated]
    split
    · exact trip _ _ (by rw [Plant.became_pump]; exact ⟨rfl, rfl⟩)
    · rw [Plant.became_pump]; exact ⟨rfl, rfl⟩
  case off | resting | queued | starting =>
    rw [feedbackStopped_kept (by simp [hs]), Plant.became_pump]; exact ⟨rfl, rfl⟩
  case running =>
    rw [feedbackStopped_running hs]
    split
    · exact trip _ _ (by rw [Plant.became_pump]; exact ⟨rfl, rfl⟩)
    · exact rest _ (by rw [Plant.became_pump]; exact ⟨rfl, rfl⟩)
  case stopping => rw [feedbackStopped_stopping hs]; exact rest _ (by rw [Plant.pump_setPump_same]; exact ⟨rfl, rfl⟩)
  case stopFailed => rw [feedbackStopped_stopFailed hs]; exact rest _ (by rw [Plant.pump_setPump_same]; exact ⟨rfl, rfl⟩)
  case tripped | lockedOut =>
    rw [feedbackStopped_tripped (by simp [hs]), Plant.became_pump, Pump.stoppedTripped]
    split_ifs <;> exact ⟨rfl, rfl⟩

/-- Settles O29: one record for each state of the pump, and the rest test or a trip from it. -/
theorem stoppedFeedback : Obligations.StoppedFeedback := by
  rintro v p x q r rfl rfl
  obtain ⟨hfb, hun⟩ := feedbackStopped_reported v p x
  refine ⟨feedbackStopped_frame v p x, hfb, hun, fun h hu => ?_, fun h hi => ?_, fun h hi => ?_, fun h => ?_, fun h => ?_,
    fun h => ?_, fun h hs => ?_, fun h hs => ?_, fun h => ?_⟩
  · obtain ⟨-, he, hq, hs⟩ := feedbackStopped_recordOnly (v := v) h hu
    exact ⟨hq, he, hs⟩
  · rw [feedbackStopped_unseen h, tripIfIndicated_clear (by rw [Plant.became_pump]; exact hi), Plant.became_pump]
    rfl
  · rw [feedbackStopped_unseen h, tripIfIndicated_set (by rw [Plant.became_pump]; exact hi)]
    obtain ⟨ho, he, hq, hs⟩ := RecordOnly.became v.tab p x ((x.pump p).reportedStopped.goto .off)
    exact ⟨_, x.became_pump v.tab p _, ho, he, hq, hs, rfl⟩
  · rw [feedbackStopped_kept h, Plant.became_pump]
    rfl
  · obtain ⟨ho, he, hq, hs⟩ := RecordOnly.became v.tab p x ((x.pump p).reportedStopped.recordStop v.now)
    have hy := x.became_pump v.tab p ((x.pump p).reportedStopped.recordStop v.now)
    rw [feedbackStopped_running h]
    generalize x.became v.tab p ((x.pump p).reportedStopped.recordStop v.now) = y at ho he hq hs hy
    cases hr : (x.pump p).reachable
    · obtain ⟨st, t, e, -⟩ := restTest_record (v := v) (p := p) (x := y) (.inr (by rw [hy]; exact nofun))
      simp only [Bool.false_eq_true, if_false]
      refine ⟨by rw [e, hy]; rfl, by rw [e, hy]; rfl, fun _ => ⟨y, hy, ho, he, hq, hs, rfl⟩, fun h1 h2 => ?_⟩
      rw [Pump.reachable, h2] at hr
      simp [h1] at hr
    · obtain ⟨-, e1, e2⟩ := takeTrip_fields v p .lostRun y
      simp only [if_true]
      refine ⟨by rw [e1, hy]; rfl, by rw [e2, hy]; rfl, fun h1 => ?_, fun _ _ => ⟨y, hy, ho, he, hq, hs, rfl⟩⟩
      rw [Pump.reachable, Bool.and_eq_true, bne_iff_ne, Bool.not_eq_true'] at hr
      rcases h1 with h1 | h1
      · exact absurd h1 hr.1
      · rw [h1] at hr
        cases hr.2
  · obtain ⟨st, t, e, -, hst⟩ := restTest_record (v := v) (p := p)
      (x := x.setPump p ((x.pump p).reportedStopped.dropCmd.recordStop v.now))
      (.inr (by rw [Plant.pump_setPump_same]; exact nofun))
    rw [Plant.pump_setPump_same] at e hst
    rw [feedbackStopped_stopping h, e]
    exact ⟨rfl, rfl, rfl, rfl, hst rfl⟩
  · obtain ⟨st, t, e, -, hst⟩ := restTest_record (v := v) (p := p)
      (x := x.setPump p ((x.pump p).reportedStopped.recordStop v.now))
      (.inr (by rw [Plant.pump_setPump_same]; exact nofun))
    rw [Plant.pump_setPump_same] at e hst
    rw [feedbackStopped_stopFailed h, e]
    exact ⟨rfl, rfl, hst hs⟩
  · obtain ⟨st, t, e, hst, -⟩ := restTest_record (v := v) (p := p)
      (x := x.setPump p ((x.pump p).reportedStopped.recordStop v.now))
      (.inr (by rw [Plant.pump_setPump_same]; exact nofun))
    rw [Plant.pump_setPump_same] at e hst
    rw [feedbackStopped_stopFailed h, e]
    exact ⟨rfl, rfl, hst hs, rfl, rfl⟩
  · have hh : ((x.pump p).stoppedTripped v.now).holds .stop = (x.pump p).holds .stop := by
      unfold Pump.stoppedTripped
      split <;> rfl
    rw [feedbackStopped_tripped h, Plant.became_pump, hh, Pump.stoppedTripped]
    split_ifs with h1 h2 <;> simp_all [Pump.reportedStopped]

end Sys2Proof.Machine
end

section
/-!
PROOFS. Reception at the ports: check errors, the receivers by their states, the assembly of a frame from its characters
and its check (section 8.2).
-/

namespace Sys2Proof.Machine

/-! ### Events that no condition and no line is drawn from -/

/-- The same event on the same part is the same command. -/
theorem act_congr {f g : Part → Part} {s : State} (h : f s.part = g s.part) : act f s = act g s := by
  simp only [act_eq, Part.act, h]

/-- A command of the running part on two states that differ in the part only, where its event makes them agree. -/
theorem exec_agree {c : Instr} (hc : ofPower c = false) {s t : State} (hs : s.part.power = .on) (ht : t.part.power = .on)
    (hp : t.pending = s.pending) (he : eventOf c t.part = eventOf c s.part) : exec c t = exec c s := by
  rw [exec_running hc hs, exec_running hc ht, he, State.endingAt, State.endingAt, hp]

/-- A receiver that is set changes nothing that the conditions and the lines are drawn from. -/
theorem exec_setRx {c : Instr} (hc : ofPower c = false) {s : State} (h : Steady s.part) {port : Port} {r : Rx}
    (he : eventOf c s.part = s.part.setRx port r) :
    exec c s = .next { s with part := s.part.setRx port r } := by
  rw [exec_eq_act hc]
  cases port <;> exact act_light h he rfl h.2.1 rfl rfl rfl rfl rfl rfl

theorem steady_setRx {s : Part} (h : Steady s) (port : Port) (r : Rx) : Steady (s.setRx port r) := by
  cases port <;> exact h

/-! ### Check errors and the check hold -/

theorem exec_gap (port : Port) {s : State} (h : Steady s.part) : exec (.characterGapTimeout port) s =
    if s.part.rx port = .hunt then .next s else exec (.checkError port (s.part.rx port).dest?) s := by
  rw [exec_eq_act rfl]
  split
  · next hr => exact act_unchanged h (if_pos hr)
  · next hr => exact act_congr (if_neg hr)

theorem exec_checkError_u {s : State} (h : Steady s.part) (dest : Option Byte) : exec (.checkError .u dest) s =
    .next { s with part := { s.part with
      line := { s.part.line with
        rxU := .hunt, checkHold := s.part.line.checkHold || decide (dest = some s.part.address) }
      plant := s.part.plant.raise .lineCheck } } := by
  rw [exec_eq_act rfl]
  refine act_light h ?_ rfl h.2.1 rfl rfl rfl rfl rfl rfl
  simp only [eventOf, checkErrorEvent]
  split
  · next hd =>
    rw [decide_eq_true hd, Bool.or_true]
    rfl
  · next hd =>
    rw [decide_eq_false hd, Bool.or_false]
    rfl

/-- Settles O36: the events of a check error, and of a quiet line. -/
theorem checkErrorsAndHold : Obligations.CheckErrorsAndHold := by
  refine ⟨fun s h => ⟨exec_checkError_u h, fun dest => ?_, fun port => exec_gap port h⟩, fun s h => ?_⟩
  · rw [exec_eq_act rfl]
    exact act_light h rfl rfl h.2.1 rfl rfl rfl rfl rfl rfl
  · rw [exec_eq_act rfl]
    cases hr : s.part.line.rxU
    case hunt =>
      rw [if_pos rfl]
      refine act_light h ?_ rfl h.2.1 rfl rfl rfl rfl rfl rfl
      have ha : abandonFrame .u s.part = s.part := if_pos hr
      simp only [eventOf, checkHoldQuietEvent, ha, hr]
    all_goals
      rw [if_neg nofun]
      refine act_light h ?_ rfl h.2.1 rfl rfl rfl rfl rfl rfl
      have ha : abandonFrame .u s.part = checkErrorEvent .u s.part.line.rxU.dest? s.part :=
        if_neg (by rw [Part.rx, hr]; exact nofun)
      simp only [eventOf, checkHoldQuietEvent, ha, checkErrorEvent]
      split <;> rfl

/-! ### A character by the state of the receiver -/

section
variable {port : Port} {ch : Byte} {s : Part}

theorem eventOf_character (hm : port ≠ .m) : eventOf (.characterReceived port ch true) s = takeCharacter port ch s := by
  simp [eventOf, characterEvent, hm]

theorem takeCharacter_hunt (hr : s.rx port = .hunt) : takeCharacter port ch s =
    if ch = 0xA5 then s.setRx port (.header []) else s := by
  rw [takeCharacter, hr]

theorem takeCharacter_header {held : List Byte} (hl : held.length < 3) (hr : s.rx port = .header held) :
    takeCharacter port ch s = s.setRx port (.header (held ++ [ch])) := by
  rw [takeCharacter, hr]
  match held, hl with
  | [], _ => rfl
  | [_], _ => rfl
  | [_, _], _ => rfl

theorem takeCharacter_length {dest source kind : Byte} (hr : s.rx port = .header [dest, source, kind]) :
    takeCharacter port ch s = if 60 < ch.toNat then checkErrorEvent port (some dest) s
      else s.setRx port (if ch = 0 then .check dest source kind [] else .payload dest source kind ch.toNat []) := by
  rw [takeCharacter, hr]
  have hz : ch.toNat = 0 ↔ ch = 0 := BitVec.toNat_inj (y := 0)
  have hl : lengthOk ch = true ↔ ¬60 < ch.toNat := by rw [lengthOk, decide_eq_true_iff, Nat.not_lt, maxPayload]
  by_cases h : 60 < ch.toNat
  · rw [if_pos h]
    exact if_neg fun hc => hl.1 hc h
  · rw [if_neg h, ← if_congr hz rfl rfl]
    exact if_pos (hl.2 h)

theorem takeCharacter_payload {dest source kind : Byte} {len : Nat} {held : List Byte} (hl : held.length < len)
    (hr : s.rx port = .payload dest source kind len held) : takeCharacter port ch s = s.setRx port
      (if held.length + 1 = len then .check dest source kind (held ++ [ch])
        else .payload dest source kind len (held ++ [ch])) := by
  rw [takeCharacter, hr]
  by_cases h : held.length + 1 = len
  · simp [h]
  · have : held.length + 1 < len := by omega
    simp [h, this]

theorem takeCharacter_check {f : Frame} (hr : s.rx port = .check f.dest f.source f.kind f.payload) :
    takeCharacter port ch s =
      if ch = frameCheck f then goodFrame port f s else checkErrorEvent port (some f.dest) s := by
  rw [takeCharacter, hr]
  rfl

end

/-- A good frame that a receiver can hold is the command of its port. -/
theorem exec_goodFrame {port : Port} (hm : port ≠ .m) {f : Frame} (hf : f.wf = true) (s : State) :
    act (goodFrame port f) s = exec (if port = .u then .goodFrameOnU f else .goodFrameOnD f) s := by
  cases port
  case m => exact absurd rfl hm
  case u => exact (act_congr (if_pos hf : arriveU f s.part = _).symm).trans (exec_eq_act (c := .goodFrameOnU f) rfl s).symm
  case d => exact (act_congr (if_pos hf : arriveD f s.part = _).symm).trans (exec_eq_act (c := .goodFrameOnD f) rfl s).symm

/-- Settles O37: the branches of the receiver. -/
theorem characterTaken : Obligations.CharacterTaken := by
  refine fun port ch s h hm => ⟨?_, ?_, fun hr => ?_, fun held hl hr => ?_, fun dest source kind hr => ?_,
    fun dest source kind len held hl hr => ?_, fun f hf hr => ?_⟩
  · exact (exec_eq_act rfl s).trans (act_unchanged h rfl)
  · exact act_congr (by simp [characterEvent, hm])
  · split
    · next hc => exact exec_setRx rfl h (by rw [eventOf_character hm, takeCharacter_hunt hr, if_pos hc])
    · next hc =>
      exact (exec_eq_act rfl s).trans (act_unchanged h (by rw [eventOf_character hm, takeCharacter_hunt hr, if_neg hc]))
  · exact exec_setRx rfl h (by rw [eventOf_character hm, takeCharacter_header hl hr])
  · have e := eventOf_character (ch := ch) (s := s.part) hm
    rw [takeCharacter_length hr] at e
    split
    · next hc => exact act_congr (e.trans (if_pos hc))
    · next hc => exact exec_setRx rfl h (e.trans (if_neg hc))
  · exact exec_setRx rfl h (by rw [eventOf_character hm, takeCharacter_payload hl hr])
  · have e := eventOf_character (ch := ch) (s := s.part) hm
    rw [takeCharacter_check hr] at e
    split
    · next hc => exact (act_congr (e.trans (if_pos hc))).trans (exec_goodFrame hm hf s)
    · next hc => exact act_congr (e.trans (if_neg hc))

/-! ### The check -/

/-- One bit of the check: a bit equal to the top bit shifts it, and any other adds the generator (R129). -/
def crcStep (c : Byte) (bit : Bool) : Byte := if bit = c.msb then c <<< 1 else (c <<< 1) ^^^ 0x07#8

/-- The check with a byte added to it whole is shifted as the check alone is with the byte's top bit. -/
theorem crcShift_xor (c b : Byte) : crcShift (c ^^^ b) = crcStep c b.msb ^^^ (b <<< 1) := by
  unfold crcShift crcStep
  rw [BitVec.msb_xor, BitVec.shiftLeft_xor_distrib]
  cases c.msb <;> cases b.msb
  · simp
  · simp only [Bool.false_xor, Bool.true_eq_false, if_true, if_false]
    ac_rfl
  · simp only [Bool.xor_false, Bool.false_eq_true, if_true, if_false]
    ac_rfl
  · simp

/-- A byte added whole is taken bit by bit, the most significant first (R129). -/
theorem crcByte_eq (c b : Byte) : crcByte c b = ((List.range 8).map fun i => b.getMsbD i).foldl crcStep c := by
  have hb : ((List.range 8).map fun i => b.getMsbD i) = [b.msb, (b <<< 1).msb, (b <<< 1 <<< 1).msb, (b <<< 1 <<< 1 <<< 1).msb,
      (b <<< 1 <<< 1 <<< 1 <<< 1).msb, (b <<< 1 <<< 1 <<< 1 <<< 1 <<< 1).msb,
      (b <<< 1 <<< 1 <<< 1 <<< 1 <<< 1 <<< 1).msb, (b <<< 1 <<< 1 <<< 1 <<< 1 <<< 1 <<< 1 <<< 1).msb] := by
    simp [List.range, List.range.loop, ← BitVec.shiftLeft_add, BitVec.msb]
  have hz : b <<< 1 <<< 1 <<< 1 <<< 1 <<< 1 <<< 1 <<< 1 <<< 1 = 0 := by
    simp [← BitVec.shiftLeft_add]
  simp only [crcByte, crcShift_xor, hb, hz, List.foldl_cons, List.foldl_nil]
  exact BitVec.xor_zero

/-- The check of a run of bytes, bit by bit (R129). -/
theorem crc_eq (bs : List Byte) :
    crc bs = (bs.flatMap fun b => (List.range 8).map fun i => b.getMsbD i).foldl crcStep 0 := by
  rw [crc, List.foldl_flatMap]
  exact List.foldl_ext _ _ _ fun c b _ => crcByte_eq c b

/-! ### The characters of a frame, one after another -/

/-- The state whose receiver of a port holds `r`. -/
def State.holding (s : State) (port : Port) (r : Rx) : State := { s with part := s.part.setRx port r }

section
variable {port : Port} {s : State}

theorem rx_setRx (hm : port ≠ .m) (t : Part) (r : Rx) : (t.setRx port r).rx port = r := by
  cases port
  case m => exact absurd rfl hm
  all_goals rfl

theorem holding_holding (s : State) (port : Port) (r r' : Rx) : (s.holding port r).holding port r' = s.holding port r' := by
  cases port <;> rfl

/-- A character that only sets the receiver. -/
theorem receive_cons {ch : Byte} {bs : List Byte} {r r' : Rx} (hm : port ≠ .m) (h : Steady s.part)
    (he : takeCharacter port ch (s.part.setRx port r) = (s.part.setRx port r).setRx port r') :
    receive port (ch :: bs) (s.holding port r) = receive port bs (s.holding port r') := by
  rw [receive, exec_setRx (port := port) (r := r') rfl (steady_setRx h port r) (by rw [eventOf_character hm]; exact he)]
  exact congrArg (receive port bs) (holding_holding s port r r')

theorem receive_one (c : Byte) (s : State) : receive port [c] s = exec (.characterReceived port c true) s := by
  rw [receive]
  cases exec (.characterReceived port c true) s <;> rfl

/-- The payload bytes, of which at least one is still to come. -/
theorem receive_payload (hm : port ≠ .m) (h : Steady s.part) {dest source kind : Byte} {len : Nat}
    {held bs rest : List Byte} (hl : held.length + bs.length = len) (hne : bs ≠ []) :
    receive port (bs ++ rest) (s.holding port (.payload dest source kind len held)) =
      receive port rest (s.holding port (.check dest source kind (held ++ bs))) := by
  induction bs generalizing held with
  | nil => exact absurd rfl hne
  | cons b bs ih =>
    have hlt : held.length < len := by rw [List.length_cons] at hl; omega
    have ht := takeCharacter_payload (ch := b) hlt (rx_setRx hm s.part (.payload dest source kind len held))
    rw [List.cons_append, receive_cons hm h ht]
    cases bs with
    | nil => rw [if_pos (by simpa using hl)]; rfl
    | cons b' bs =>
      rw [if_neg (by simp only [List.length_cons] at hl; omega),
        ih (by simp only [List.length_append, List.length_cons, List.length_nil] at hl ⊢; omega) nofun,
        List.append_assoc]
      rfl

/-- Every byte of a frame but its check leaves the receiver awaiting the check (R128). -/
theorem receive_covered (hm : port ≠ .m) (h : Steady s.part) {f : Frame} (hf : f.wf = true) (rest : List Byte) :
    receive port (0xA5 :: (frameCovered f ++ rest)) (s.holding port .hunt) =
      receive port rest (s.holding port (.check f.dest f.source f.kind f.payload)) := by
  have hlen : f.payload.length ≤ 60 := of_decide_eq_true hf
  have hn : (BitVec.ofNat 8 f.payload.length).toNat = f.payload.length := by
    rw [BitVec.toNat_ofNat]
    exact Nat.mod_eq_of_lt (by omega)
  rw [frameCovered, receive_cons (r' := .header []) hm h ((takeCharacter_hunt (rx_setRx hm ..)).trans (if_pos rfl))]
  simp only [List.cons_append]
  rw [receive_cons hm h (takeCharacter_header (held := []) (Nat.zero_lt_succ 2) (rx_setRx hm ..)),
    receive_cons hm h (takeCharacter_header (held := [] ++ [f.dest]) (by simp) (rx_setRx hm ..)),
    receive_cons hm h (takeCharacter_header (held := [] ++ [f.dest] ++ [f.source]) (by simp) (rx_setRx hm ..)),
    show [] ++ [f.dest] ++ [f.source] ++ [f.kind] = [f.dest, f.source, f.kind] from rfl,
    receive_cons hm h ((takeCharacter_length (rx_setRx hm ..)).trans (if_neg (by rw [hn]; omega)))]
  cases hp : f.payload with
  | nil => rfl
  | cons b bs =>
    have hz : BitVec.ofNat 8 (b :: bs).length ≠ 0 := fun e => by
      have := congrArg BitVec.toNat e
      rw [← hp, hn, hp] at this
      cases this
    rw [if_neg hz]
    exact receive_payload hm h (by rw [← hp, hn, hp]; exact Nat.zero_add _) (List.cons_ne_nil b bs)

theorem holding_self {r : Rx} (hr : s.part.rx port = r) : s.holding port r = s := by
  subst hr
  cases port <;> rfl

/-- A good frame and a check error put the receiver in HUNT, whatever it held. -/
theorem exec_holding {c : Instr} (hc : ofPower c = false) (hp : s.part.power = .on) {r : Rx}
    (he : eventOf c (s.part.setRx port r) = eventOf c s.part) : exec c (s.holding port r) = exec c s :=
  exec_agree hc hp ((Part.setRx_power ..).trans hp) rfl he

/-- The last character completes the frame, or its check fails (R129). -/
theorem receive_frame (hm : port ≠ .m) (h : Steady s.part) {f : Frame} (hf : f.wf = true) (hr : s.part.rx port = .hunt)
    (c : Byte) : receive port (0xA5 :: (frameCovered f ++ [c])) s =
      if c = frameCheck f then exec (if port = .u then .goodFrameOnU f else .goodFrameOnD f) s
      else exec (.checkError port (some f.dest)) s := by
  have e := receive_covered hm h hf [c]
  have ht := (characterTaken port c (s.holding port (.check f.dest f.source f.kind f.payload))
    (steady_setRx h port _) hm).2.2.2.2.2.2 f hf (rx_setRx hm ..)
  rw [holding_self hr] at e
  rw [e, receive_one, ht]
  cases port
  case m => exact absurd rfl hm
  case u => exact if_congr Iff.rfl (exec_holding (c := .goodFrameOnU f) rfl h.1 rfl) (exec_holding rfl h.1 rfl)
  case d => exact if_congr Iff.rfl (exec_holding (c := .goodFrameOnD f) rfl h.1 rfl) (exec_holding rfl h.1 rfl)

end

/-- Settles O38: the bytes and the check of a frame, and its characters one after another. -/
theorem frameAssembled : Obligations.FrameAssembled := by
  refine ⟨fun f bits => ⟨rfl, fun hb => ?_⟩, fun f s h hf => ⟨fun hr => ⟨?_, fun c hc => ?_⟩, fun hr => ⟨?_, fun c hc => ?_⟩⟩⟩
  · rw [hb]
    exact crc_eq _
  · exact (receive_frame (port := .u) nofun h hf hr _).trans (if_pos rfl)
  · exact (receive_frame (port := .u) nofun h hf hr c).trans (if_neg hc)
  · exact (receive_frame (port := .d) nofun h hf hr _).trans (if_pos rfl)
  · exact (receive_frame (port := .d) nofun h hf hr c).trans (if_neg hc)

end Sys2Proof.Machine
end

section
/-!
PROOFS. The Line Interface: the mirroring of a frame, the forwarding of good frames on U, and the transmitters
(sections 8.3 to 8.5 and 9.6).
-/

namespace Sys2Proof.Machine

/-! ### Searches that only one index, or the nearest one, can end -/

/-- The first entry of a table that passes, by its index. -/
theorem find?_toList_eq_some {α : Type} {n : Nat} {v : Vector α n} {good : α → Bool} (i : Fin n)
    (hi : good v[i] = true) (hb : ∀ j : Fin n, j < i → good v[j] = false) : v.toList.find? good = some v[i] := by
  rw [List.find?_eq_some_iff_getElem]
  refine ⟨hi, i.val, by simp, by simp, fun j hj => ?_⟩
  have := hb ⟨j, hj.trans i.isLt⟩ hj
  simpa using this

theorem find?_toList_eq_none {α : Type} {n : Nat} {v : Vector α n} {good : α → Bool}
    (h : ∀ i : Fin n, good v[i] = false) : v.toList.find? good = none := by
  rw [List.find?_eq_none]
  intro e he
  obtain ⟨i, hi, rfl⟩ := List.mem_iff_getElem.1 he
  have := h ⟨i, by simpa using hi⟩
  simpa using this

/-! ### The end of an event that leaves no scan -/

/-- An event that leaves no scan ends with the conditions and the lines alone. -/
theorem act_settled {f : Part → Part} {s : State} (h : s.part.power = .on) {t : Part} (hf : f s.part = t)
    (ht : Settled t.plant) : act f s = .next { s with part := driveLines t } := by
  rw [act_ending h hf, State.endingAt, finish, settlePart_settled ht]

/-! ### Mirroring (R149, R150) -/

theorem MirrorEntry.covers_iff (e : MirrorEntry) (d : Direction) : e.covers d.code = true ↔
    e.direction = 2 ∨ (d = .up ∧ e.direction = 0) ∨ (d = .down ∧ e.direction = 1) := by
  cases d <;> simp [MirrorEntry.covers, Direction.code]

/-- A source that one window holds is copied by that window. -/
theorem mirror_of_window {d : Direction} {f : Frame} {s : Part} {i : Fin 8}
    (hi : s.tab.t7[i].holdsSource d f.source = true)
    (hb : ∀ j : Fin 8, j ≠ i → s.tab.t7[j].holdsSource d f.source = false) :
    mirror d f s = if 62 < s.tab.t7[i].translated f.source then s.raise .mirrorDrop
      else enterMirror { f with source := BitVec.ofNat 8 (s.tab.t7[i].translated f.source) } s := by
  rw [mirror, find?_toList_eq_some i hi fun j hj => hb j hj.ne]

/-- Settles O39: the window of a frame, and the transmitter of M. -/
theorem mirroredOnM : Obligations.MirroredOnM := by
  refine ⟨fun e d source => ?_, fun d f s => ⟨fun h => ?_, fun i hi hb => ?_⟩,
    fun s h => ⟨fun f rest ht hq => ?_, fun hn => ?_, ?_⟩⟩
  · simp only [MirrorEntry.holdsSource, Bool.and_eq_true, MirrorEntry.covers_iff, decide_eq_true_eq, and_assoc]
  · rw [mirror, find?_toList_eq_none h]
  · rw [mirror_of_window hi hb]
    by_cases h62 : 62 < s.tab.t7[i].translated f.source
    · rw [if_pos h62, if_pos (.inl h62)]
      rfl
    · rw [if_neg h62, enterMirror]
      by_cases hq : s.line.mirrorQueue.length < frameCapacity
      · rw [if_pos hq]
        exact (if_neg (not_or.2 ⟨h62, Nat.not_le.2 hq⟩)).symm
      · rw [if_neg hq]
        exact (if_pos (.inr (Nat.not_lt.1 hq))).symm
  · rw [exec_eq_act rfl]
    refine act_light h ?_ rfl h.2.1 rfl rfl rfl rfl rfl rfl
    simp only [eventOf, mStartEvent, ht, hq]
  · rw [exec_eq_act rfl]
    refine act_unchanged h ?_
    simp only [eventOf, mStartEvent]
    split
    · next ht hq => exact absurd hn (by simp [ht, hq])
    · rfl
  · rw [exec_eq_act rfl]
    exact act_light h rfl rfl h.2.1 rfl rfl rfl rfl rfl rfl

/-! ### Forwarding on U (R131, R133) -/

/-- A good frame on U ends with its mirroring. -/
theorem exec_goodFrameU {f : Frame} {s : State} (hp : s.part.power = .on) (hf : f.wf = true) :
    exec (.goodFrameOnU f) s = .next (s.endingAt (mirror .down f (settlePart (disposeU
      (due s.part.cal.uptime s.part.line.quietT) f (parseManage f.payload) s.part.heard)))) := by
  rw [exec_running rfl hp, ← goodFrameU_heard]
  exact congrArg (fun t => Host.Outcome.next (s.endingAt t)) (if_pos hf)

/-- Settles O40: the disposal of a frame that is not for the part. -/
theorem goodFrameForwarded : Obligations.GoodFrameForwarded := by
  refine fun f s hp hs hf => ⟨fun hk hc => ?_, fun hk ha hz => ?_⟩
  · have hc' : ¬(f.kind = kindCommand ∧ s.part.heard.mgmt.mode = .active) := fun h => hc h.1 h.2
    rw [exec_goodFrameU hp hf, disposeU, if_neg hk, if_neg hc', enterD]
    refine congrArg (fun t => Host.Outcome.next (s.endingAt (mirror .down f t))) ?_
    by_cases hq : s.part.line.dQueue.length < frameCapacity
    · rw [if_pos hq, if_pos (show s.part.heard.line.dQueue.length < frameCapacity from hq)]
      exact settlePart_settled hs
    · rw [if_neg hq, if_neg (show ¬s.part.heard.line.dQueue.length < frameCapacity from hq)]
      exact settlePart_settled hs
  · have ha' : f.dest ≠ s.part.heard.address := ha
    rw [exec_goodFrameU hp hf, disposeU, if_pos hk]
    have e : takeManage f.dest f.source (parseManage f.payload) s.part.heard = s.part.heard := by
      rw [takeManage, if_neg ha', if_neg hz]
    have hs' : Settled s.part.heard.plant := hs
    rw [e, settlePart_settled hs']

/-! ### The U transmitter (R134) -/

theorem exec_uStart {s : State} (h : Steady s.part) {t : Part} (he : uStartEvent s.part = t)
    (hp : t.power = s.part.power) (hs : Settled t.plant) (hc : conditionSummary t = conditionSummary s.part)
    (hl : faultLevel t = faultLevel s.part) (ha : alertLevel t = alertLevel s.part)
    (h1 : t.conditions = s.part.conditions) (h2 : t.fault = s.part.fault) (h3 : t.alert = s.part.alert) :
    exec .uTransmitStart s = .next { s with part := t } := by
  rw [exec_eq_act rfl]
  exact act_light h he hp hs hc hl ha h1 h2 h3

theorem ownWaiting_iff (s : Part) : ownWaiting s = true ↔ s.line.replyQueue ≠ [] ∨ s.plant.events.waiting = true := by
  simp [ownWaiting]

section
variable {s : Part} (ht : s.line.uTx = none)
include ht

theorem uStartEvent_forward {f : Frame} {rest : List Frame} (hq : s.line.uQueue = f :: rest)
    (ho : ownWaiting s = false ∨ s.line.uTurn = .forward) : uStartEvent s = takeForwardU f rest s := by
  have : ¬(ownWaiting s = true ∧ s.line.uTurn = .own) := by
    rintro ⟨h1, h2⟩
    rcases ho with h | h
    · rw [h] at h1; cases h1
    · rw [h] at h2; cases h2
  simp [uStartEvent, ht, hq, this]

theorem uStartEvent_own (ho : ownWaiting s = true) (hq : s.line.uQueue = [] ∨ s.line.uTurn = .own) :
    uStartEvent s = takeOwn s := by
  cases he : s.line.uQueue with
  | nil => simp [uStartEvent, ht, he, ho]
  | cons f rest =>
    have hu : s.line.uTurn = .own := hq.resolve_left (by rw [he]; exact nofun)
    simp [uStartEvent, ht, he, ho, hu]

theorem uStartEvent_idle (ho : ownWaiting s = false) (hq : s.line.uQueue = []) : uStartEvent s = s := by
  simp [uStartEvent, ht, hq, ho]

end

theorem uCompleteEvent_frame (straps : Straps) {s : Part} (h : ∀ f : Frame, s.line.uTx ≠ some (.reply f true)) :
    uCompleteEvent straps s = { s with line := { s.line with uTx := none } } := by
  rw [uCompleteEvent]
  split
  · next f he => exact absurd he (h f)
  · rfl

/-- Settles O45: the turns of the U transmitter. -/
theorem uTransmitterTakesByTurn : Obligations.UTransmitterTakesByTurn := by
  refine ⟨fun s h ht => ?_, fun s h ht own ho => ⟨fun f rest hq hw => ?_, fun hown hq => ⟨fun r rest hr => ?_, fun hr => ?_⟩,
    fun hown hq => ?_, fun straps u hu => ?_⟩⟩
  · rw [exec_eq_act rfl]
    exact act_unchanged h (if_pos (Option.isSome_iff_ne_none.2 ht))
  all_goals
    have hown' : ownWaiting s.part = own := Bool.eq_iff_iff.2 ((ownWaiting_iff s.part).trans ho.symm)
  · exact exec_uStart h (uStartEvent_forward ht hq (hown' ▸ hw)) rfl h.2.1 rfl rfl rfl rfl rfl rfl
  · refine exec_uStart h ((uStartEvent_own ht (hown'.trans hown) hq).trans ?_) rfl h.2.1 rfl rfl rfl rfl rfl rfl
    simp only [takeOwn, hr]
    rfl
  · refine exec_uStart h ((uStartEvent_own ht (hown'.trans hown) hq).trans ?_) rfl h.2.1 rfl rfl rfl rfl rfl rfl
    simp only [takeOwn, hr, takeNotice, noticeFrame, (h.2.2.1 h.1).1]
  · rw [exec_eq_act rfl]
    exact act_unchanged h (uStartEvent_idle ht (hown'.trans hown) hq)
  · have hs : Steady { s.part with line := { s.part.line with uTx := u } } := h
    have e : ({ s.part with line := { s.part.line with uTx := none } } : Part) = s.part := by rw [← ht]
    rw [exec_eq_act rfl]
    refine (act_light (s := { s with part := { s.part with line := { s.part.line with uTx := u } } }) hs
      (uCompleteEvent_frame (s := { s.part with line := { s.part.line with uTx := u } }) straps hu)
        rfl h.2.1 rfl rfl rfl rfl rfl rfl).trans ?_
    simp only [e]

/-! ### The D transmitter (R70, R135) -/

theorem Pump.not_awaits_both (q : Pump) : ¬(q.awaits .run = true ∧ q.awaits .stop = true) := by
  rintro ⟨h1, h2⟩
  cases hc : q.cmd with
  | none => simp [Pump.awaits, hc] at h1
  | some c =>
    simp only [Pump.awaits, hc, Bool.and_eq_true, beq_iff_eq] at h1 h2
    exact nomatch h1.1.symm.trans h2.1

theorem includable_iff (tab : Settings) (x : Plant) (p : Fin 32) : includable tab x p = true ↔
    assigned tab p = true ∧ (x.pump p).owner ≠ .outOfService ∧ (x.pump p).localSel = false ∧
      ((x.pump p).awaits .stop = true ∨
        ((x.pump p).awaits .run = true ∧ (x.stage (stageOf p)).override ≠ .dryRun)) := by
  have hx := (x.pump p).not_awaits_both
  simp only [includable, Pump.reachable, Bool.and_eq_true, Bool.or_eq_true, Bool.not_eq_true', bne_iff_ne,
    Bool.and_eq_false_iff, beq_eq_false_iff_ne]
  cases hr : (x.pump p).awaits .run <;> cases hs : (x.pump p).awaits .stop <;> simp_all
  tauto

/-- The served slot is the first after the pointer (R135). -/
theorem servedSlot_eq_some {tab : Settings} {pointer p : Fin 32} {x : Plant} (hp : includable tab x p = true)
    (hf : ∀ p' : Fin 32, includable tab x p' = true → (p - pointer - 1).val ≤ (p' - pointer - 1).val) :
    servedSlot tab pointer x = some p := by
  have hi : ∀ i : Fin 32, pointer + 1 + i - pointer - 1 = i := fun i => by omega
  have hb : pointer + 1 + (p - pointer - 1) = p := by omega
  have : slots.find? (includable tab x ∘ fun i => pointer + 1 + i) = some (p - pointer - 1) := by
    refine firstFailure_eq_some.2 ⟨?_, fun j hj hc => ?_⟩
    · simpa only [Function.comp_apply, hb] using hp
    · have := hf _ hc
      rw [hi] at this
      exact absurd hj (Nat.not_lt.2 this)
  rw [servedSlot, searchOrder, List.find?_map, this, Option.map_some, hb]

theorem servedSlot_eq_none {tab : Settings} {pointer : Fin 32} {x : Plant} (h : ∀ p, includable tab x p = false) :
    servedSlot tab pointer x = none := by
  rw [servedSlot, List.find?_eq_none]
  intro p _
  rw [h p]
  exact nofun

/-- The pump's command, in transit (R70). -/
def Pump.carried (q : Pump) : Pump := { q with cmd := q.cmd.map fun c => { c with progress := .inTransit } }

theorem includedSlots_nodup (tab : Settings) (x : Plant) (station : Nat) : (includedSlots tab x station).Nodup :=
  ((List.nodup_finRange 32).filter _).sublist (List.take_sublist _ _)

theorem settled_of_onlyPumps {x y : Plant} (h : OnlyPumps x y) (hx : Settled x) : Settled y := by
  obtain ⟨_, _, ha, hb, _⟩ := h
  exact ⟨by rw [ha]; exact hx.1, by rw [hb]; exact hx.2⟩

section
variable {s : Part} (ht : s.line.dTx = none)
include ht

theorem dStartEvent_forward {f : DFrame} {rest : List DFrame} (hq : s.line.dQueue = f :: rest)
    (ho : servedSlot s.tab s.line.pointer s.plant = none ∨ s.line.dTurn = .forward) :
    dStartEvent s = takeForwardD f rest s := by
  cases hs : servedSlot s.tab s.line.pointer s.plant with
  | none => simp [dStartEvent, ht, hq, hs]
  | some p =>
    have hd : s.line.dTurn = .forward := ho.resolve_left (by rw [hs]; exact nofun)
    simp [dStartEvent, ht, hq, hs, hd]

theorem dStartEvent_command {p : Fin 32} (hs : servedSlot s.tab s.line.pointer s.plant = some p)
    (hq : s.line.dQueue = [] ∨ s.line.dTurn = .own) : dStartEvent s = takeCommand p s := by
  cases he : s.line.dQueue with
  | nil => simp [dStartEvent, ht, he, hs]
  | cons f rest =>
    have hd : s.line.dTurn = .own := hq.resolve_left (by rw [he]; exact nofun)
    simp [dStartEvent, ht, he, hs, hd]

theorem dStartEvent_idle (hs : servedSlot s.tab s.line.pointer s.plant = none) (hq : s.line.dQueue = []) :
    dStartEvent s = s := by
  simp [dStartEvent, ht, hq, hs]

end

/-- Settles O46: the turns of the D transmitter, and its command frame. -/
theorem dTransmitterTakesByTurn : Obligations.DTransmitterTakesByTurn := by
  refine ⟨fun s h ht => ?_, fun s h ht can hcan => ?_⟩
  · rw [exec_eq_act rfl]
    exact act_unchanged h (if_pos (Option.isSome_iff_ne_none.2 ht))
  obtain rfl : can = includable s.part.tab s.part.plant :=
    funext fun p => Bool.eq_iff_iff.2 ((hcan p).trans (includable_iff ..).symm)
  refine ⟨fun f rest hq hw => ?_, fun hno hq => ?_, fun p hp hf hq => ?_⟩
  · rw [exec_eq_act rfl]
    exact act_light h (dStartEvent_forward ht hq (hw.imp servedSlot_eq_none id)) rfl h.2.1 rfl rfl rfl rfl rfl rfl
  · rw [exec_eq_act rfl]
    exact act_unchanged h (dStartEvent_idle ht (servedSlot_eq_none hno) hq)
  · have hps := includedSlots_nodup s.part.tab s.part.plant s.part.tab.t3[p].station
    have ho : OnlyPumps s.part.plant (takeCommand p s.part).plant := foldl_setPump_onlyPumps Pump.carried _ _
    refine ⟨_, includedSlots s.part.tab s.part.plant s.part.tab.t3[p].station,
      (exec_eq_act (c := .dTransmitStart) rfl s).trans (act_settled h.1
        (dStartEvent_command ht (servedSlot_eq_some hp hf) hq) (settled_of_onlyPumps ho h.2.1)),
      rfl, rfl, rfl, fun i => foldl_setPump_pump Pump.carried hps s.part.plant i, ho, rfl, rfl, rfl, rfl⟩

/-- What the completion of a frame makes of the record of a pump whose command it carries (R70). -/
def Pump.sentOn (v : View) (p : Fin 32) (q : Pump) (a : Action) (n : Nat) : Pump :=
  { q with
    cmd := some ⟨a, .sent, n⟩
    startT := if a = .run then startTimer v.now v.tab.t3[p].startConfirm else q.startT
    stopT := if a = .stop then startTimer v.now v.tab.t3[p].stopConfirm else q.stopT }

section
variable {v : View} {x : Plant} {c : Fin 32 × Nat}

theorem commandSent_match {a : Action} (h : (x.pump c.1).cmd = some ⟨a, .inTransit, c.2⟩) :
    commandSent v x c = x.setPump c.1 ((x.pump c.1).sentOn v c.1 a c.2) := by
  rw [commandSent]
  simp only [h]
  cases a <;> rfl

theorem commandSent_other (h : ∀ a : Action, (x.pump c.1).cmd ≠ some ⟨a, .inTransit, c.2⟩) : commandSent v x c = x := by
  cases hc : (x.pump c.1).cmd with
  | none => simp [commandSent, hc]
  | some m =>
    have : ¬(m.id = c.2 ∧ m.progress = .inTransit) := by
      rintro ⟨h1, h2⟩
      obtain ⟨a, g, n⟩ := m
      subst h1 h2
      exact h a hc
    simp [commandSent, hc, this]

theorem commandSent_onlyPumps : OnlyPumps x (commandSent v x c) := by
  by_cases h : ∃ a : Action, (x.pump c.1).cmd = some ⟨a, .inTransit, c.2⟩
  · obtain ⟨a, h⟩ := h
    rw [commandSent_match h]
    exact ⟨rfl, rfl, rfl, rfl, rfl⟩
  · rw [commandSent_other (not_exists.1 h)]
    exact ⟨rfl, rfl, rfl, rfl, rfl⟩

theorem foldl_commandSent_onlyPumps (l : List (Fin 32 × Nat)) : OnlyPumps x (l.foldl (commandSent v) x) :=
  List.foldlRecOn (motive := OnlyPumps x) l _ ⟨rfl, rfl, rfl, rfl, rfl⟩ fun _ hy _ _ => by
    obtain ⟨h1, h2, h3, h4, h5⟩ := hy
    obtain ⟨g1, g2, g3, g4, g5⟩ := commandSent_onlyPumps
    exact ⟨g1.trans h1, g2.trans h2, g3.trans h3, g4.trans h4, g5.trans h5⟩

/-- A pump that holds none of the carried commands in transit keeps its record. -/
theorem foldl_commandSent_other {p : Fin 32} (l : List (Fin 32 × Nat)) (x : Plant)
    (h : ∀ (a : Action) (n : Nat), (x.pump p).cmd = some ⟨a, .inTransit, n⟩ → (p, n) ∉ l) :
    (l.foldl (commandSent v) x).pump p = x.pump p := by
  induction l generalizing x with
  | nil => rfl
  | cons c l ih =>
    have hc : (commandSent v x c).pump p = x.pump p := by
      by_cases hm : ∃ a : Action, (x.pump c.1).cmd = some ⟨a, .inTransit, c.2⟩
      · obtain ⟨a, hm⟩ := hm
        rw [commandSent_match hm]
        refine Plant.pump_setPump_ne _ (fun hp => ?_) _
        subst hp
        exact h a c.2 hm List.mem_cons_self
      · rw [commandSent_other (not_exists.1 hm)]
    rw [List.foldl_cons, ih _ (by rw [hc]; exact fun a n hq hn => h a n hq (List.mem_cons_of_mem _ hn)), hc]

/-- The command in transit that is carried becomes sent, once. -/
theorem foldl_commandSent_match {p : Fin 32} {a : Action} {n : Nat} (l : List (Fin 32 × Nat)) (x : Plant)
    (hq : (x.pump p).cmd = some ⟨a, .inTransit, n⟩) (hn : (p, n) ∈ l) :
    (l.foldl (commandSent v) x).pump p = (x.pump p).sentOn v p a n := by
  induction l generalizing x with
  | nil => cases hn
  | cons c l ih =>
    rw [List.foldl_cons]
    by_cases hc : c = (p, n)
    · subst hc
      rw [commandSent_match hq, foldl_commandSent_other]
      · exact Plant.pump_setPump_same _ _ _
      · rw [Plant.pump_setPump_same]
        exact fun a' n' e => by cases e
    · have hk : (commandSent v x c).pump p = x.pump p := by
        have := foldl_commandSent_other (v := v) (p := p) [c] x fun a' n' e hm => by
          rw [hq] at e
          cases e
          exact hc (List.mem_singleton.1 hm).symm
        exact this
      rw [ih _ (hk ▸ hq) ((List.mem_cons.1 hn).resolve_left (Ne.symm hc)), hk]

end

/-- Settles O47: the carried commands one after another. -/
theorem dTransmitCompletes : Obligations.DTransmitCompletes := by
  refine ⟨fun s h ht => ?_, fun f s h ht => ?_⟩
  · rw [exec_eq_act rfl]
    refine act_unchanged h ?_
    simp only [eventOf, dCompleteEvent, ht]
  · have ho := foldl_commandSent_onlyPumps (v := s.part.view) (x := s.part.plant) f.carried
    have he : eventOf .dTransmitComplete s.part = { s.part with
        line := { s.part.line with dTx := none }, plant := f.carried.foldl (commandSent s.part.view) s.part.plant } := by
      simp only [eventOf, dCompleteEvent, ht]
      rfl
    refine ⟨_, (exec_eq_act (c := .dTransmitComplete) rfl s).trans (act_settled h.1 he (settled_of_onlyPumps ho h.2.1)),
      rfl, rfl, ho, rfl, rfl, rfl, rfl, ?_⟩
    rintro p q rfl
    exact ⟨fun a n hq hn => foldl_commandSent_match f.carried _ hq hn, fun hno => foldl_commandSent_other f.carried _ hno⟩

end Sys2Proof.Machine
end

section
/-!
PROOFS. The management requests as frames, what the answer of one leaves, and the requests of the Management Unit but
for its tables (sections 11.3, 11.5, 11.7, 7.7, 10.2 and 2.3).
-/

namespace Sys2Proof.Machine

/-! ### What the mirroring and the answer of a request leave -/

/-- The mirroring of a frame raises MIRROR_DROP at most, and only where a window holds the source (R150). -/
theorem mirror_events (d : Direction) (f : Frame) (s : Part) : (mirror d f s).plant.events = s.plant.events ∨
    ((mirror d f s).plant.events = s.plant.events.raise .mirrorDrop ∧
      ∃ i : Fin 8, s.tab.t7[i].holdsSource d f.source = true) := by
  unfold mirror
  split
  · exact .inl rfl
  · next e he =>
    have hw : ∃ i : Fin 8, s.tab.t7[i].holdsSource d f.source = true := by
      have hh := List.find?_some he
      obtain ⟨i, hi, rfl⟩ := List.mem_iff_getElem.1 (List.mem_of_find?_eq_some he)
      exact ⟨⟨i, by simpa using hi⟩, by simpa using hh⟩
    split
    · exact .inr ⟨rfl, hw⟩
    · unfold enterMirror
      split
      · exact .inl rfl
      · exact .inr ⟨rfl, hw⟩

section
variable {f : Frame} {u t : Part} {r : Reply}

theorem mirrored_plant (hs : Settled u.plant) (h : Mirrored f u t) : t.plant = (mirror .down f u).plant := by
  subst h
  rw [finish_plant, settle_settled _ (mirror_settled .down f hs)]

/-- With no scan left over a frame's disposal is followed by its mirroring alone. -/
theorem mirrored_only (hs : Settled u.plant) (h : Mirrored f u t) : OnlyMirror u t := by
  have hp := mirrored_plant hs h
  have := mirror_only .down f u
  rw [OnlyMirror, ← hp] at this
  subst h
  exact this

theorem answered_events (hs : Settled u.plant) (h : Answered f u t r) {q : ReqHead} {s : Part} (hq : q.source = f.source)
    (ht : u.tab = s.tab) : EventsAfter q s u.plant.events t.plant.events := by
  have hp := mirrored_plant (u := { u with line := { u.line with replyQueue := u.line.replyQueue ++ [r] } }) hs h
  have he := mirror_events .down f { u with line := { u.line with replyQueue := u.line.replyQueue ++ [r] } }
  rw [← hp] at he
  rw [EventsAfter, hq, ← ht]
  exact he

theorem answered_only (hs : Settled u.plant) (h : Answered f u t r) :
    OnlyMirror { u with line := { u.line with replyQueue := u.line.replyQueue ++ [r] } } t :=
  mirrored_only (by exact hs) h

end

/-! ### The carrying out of a request -/

/-- The part as a request leaves it, its reply apart (R162). -/
def carriedOut (r : ManageRequest) (u : Part) (a : Answer) : Part :=
  if a.status = .refused then settlePart u else afterReply r (settlePart u)

theorem afterReply_line (r : ManageRequest) (s : Part) : (afterReply r s).line = s.line := by cases r <;> rfl

theorem afterReply_settled (r : ManageRequest) {s : Part} (h : Settled s.plant) : Settled (afterReply r s).plant := by
  cases r <;> exact h

theorem afterReply_enterReply (r : ManageRequest) (a : Reply) (s : Part) :
    afterReply r (enterReply a s) = enterReply a (afterReply r s) := by
  have hf : replyFull (afterReply r s) = replyFull s := by rw [replyFull, replyFull, afterReply_line]
  unfold enterReply
  rw [hf]
  split
  · rfl
  · cases r <;> rfl

theorem carriedOut_settled (r : ManageRequest) (u : Part) (a : Answer) : Settled (carriedOut r u a).plant := by
  unfold carriedOut
  split
  · exact settled_settlePart u
  · exact afterReply_settled r (settled_settlePart u)

theorem carriedOut_line (r : ManageRequest) (u : Part) (a : Answer) : (carriedOut r u a).line = u.line := by
  unfold carriedOut
  split
  · rfl
  · rw [afterReply_line, settlePart_line]

theorem completeRequest_directed {source tag : Byte} {r : ManageRequest} {s u : Part} {a : Answer}
    (h : carryOut r s = (u, a)) :
    completeRequest true source tag r s = enterReply (replyOf source tag a) (carriedOut r u a) := by
  simp only [completeRequest, h, carriedOut, if_true]
  split
  · rfl
  · exact afterReply_enterReply r _ _

theorem completeRequest_broadcast {source tag : Byte} {r : ManageRequest} {s u : Part} {a : Answer}
    (h : carryOut r s = (u, a)) : completeRequest false source tag r s = carriedOut r u a := by
  simp only [completeRequest, h, carriedOut, Bool.false_eq_true, if_false]

section
variable {h : ReqHead} {code : Byte} {args : List Byte} {r : ManageRequest} {s : State} (ha : Asked h s.part)
include ha

/-- What a request that is asked answers, and the part as it leaves it. -/
theorem request_carried (hw : (manageFrame h code args).wf = true)
    (hq : (carryOut r s.part.heard).1.line.replyQueue = s.part.line.replyQueue) :
    ∃ t : State, act (requestFrame h code args (.request h.tag r)) s = .next t ∧ t.pending = s.pending ∧
      ∀ (u : Part) (a : Answer), carryOut r s.part.heard = (u, a) →
        Answered (manageFrame h code args) (carriedOut r u a) t.part (replyOf h.source h.tag a) := by
  obtain ⟨u, a, hc⟩ : ∃ u a, carryOut r s.part.heard = (u, a) := ⟨_, _, rfl⟩
  rw [hc] at hq
  have hf : replyFull (carriedOut r u a) = false := by
    rw [replyFull, carriedOut_line, hq]
    exact decide_eq_false (Nat.not_le.2 ha.2.2.2.2)
  obtain ⟨t, ht, hp, hA⟩ := request_answered ha hw (completeRequest_directed hc) hf
  rw [settlePart_settled (carriedOut_settled r u a)] at hA
  refine ⟨t, ht, hp, fun u' a' hc' => ?_⟩
  cases hc.symm.trans hc'
  exact hA

/-- An answer to a request that leaves the part as it was is all that the request changes. -/
theorem onlyReply_of_heard {f : Frame} {t : Part} {a : Answer} {q : Reply}
    (hr : a.status = .refused ∨ afterReply r s.part.heard = s.part.heard)
    (h : Answered f (carriedOut r s.part.heard a) t q) : OnlyReply f s.part t q := by
  have hs : settlePart s.part.heard = s.part.heard := settlePart_settled ha.2.1
  have e : carriedOut r s.part.heard a = s.part.heard := by
    unfold carriedOut
    rw [hs]
    split
    · rfl
    · next hn => exact hr.resolve_left hn
  rwa [e] at h

/-- A request that changes only the Management Unit's record, and is answered. -/
theorem request_mgmt (hw : (manageFrame h code args).wf = true) {m : Mgmt} {a : Answer}
    (hc : carryOut r s.part.heard = ({ s.part.heard with mgmt := m }, a)) (hn : a.status ≠ .refused)
    (hr : ∀ u : Part, afterReply r u = u) :
    ∃ t : State, act (requestFrame h code args (.request h.tag r)) s = .next t ∧ t.pending = s.pending ∧
      Replied s.part t.part (replyOf h.source h.tag a) ∧ t.part.mgmt = m ∧
      Answered (manageFrame h code args) { s.part.heard with mgmt := t.part.mgmt } t.part (replyOf h.source h.tag a) ∧
      SameLine s.part.line t.part.line ∧ SameRecords s.part.plant t.part.plant ∧ t.part.tab = s.part.tab ∧
      t.part.cal = s.part.cal ∧ t.part.levels = s.part.levels := by
  obtain ⟨t, ht, hp, hA⟩ := request_carried ha hw (congrArg (fun o : Part × Answer => o.1.line.replyQueue) hc)
  have hset : settlePart { s.part.heard with mgmt := m } = { s.part.heard with mgmt := m } := settlePart_settled ha.2.1
  have hA := hA _ _ hc
  rw [carriedOut, if_neg hn, hr, hset] at hA
  obtain ⟨hrec, -, hl, -, hq, -, -, -, htab, hcal, hlev, hm, -⟩ := answered_only (by exact ha.2.1) hA
  exact ⟨t, ht, hp, hq, hm, by rw [hm]; exact hA, hl, hrec, htab, hcal, hlev⟩

end

/-! ### Every request is a frame (R162, R163) -/

theorem joinBytes_wordBytes (w : Word) : joinBytes w.hiByte w.loByte = w := by
  refine BitVec.eq_of_getLsbD_eq fun i hi => ?_
  rw [joinBytes, BitVec.getLsbD_append, Word.hiByte, Word.loByte, BitVec.getLsbD_extractLsb', BitVec.getLsbD_extractLsb']
  by_cases h8 : i < 8
  · simp [h8]
  · simp only [if_neg h8]
    rw [decide_eq_true (by omega : i - 8 < 8), Bool.true_and, show 8 + (i - 8) = i by omega]

theorem exec_request {c : Instr} {h : ReqHead} {code : Byte} {args : List Byte} {p : Parsed} {s : State}
    (hc : exec c s = act (requestFrame h code args p) s) (hp : parseManage (code :: h.tag :: args) = p) :
    exec c s = exec (.goodFrameOnU (manageFrame h code args)) s := by
  subst hp
  exact hc

/-- Settles O48: each request is read from its frame. -/
theorem requestsAreFrames : Obligations.RequestsAreFrames := by
  refine fun h s => ⟨exec_request rfl rfl, fun t i n o => exec_request rfl ?_, fun segs => exec_request rfl rfl,
    fun m => exec_request rfl rfl, fun p o => exec_request rfl rfl, fun d m sec => exec_request rfl ?_,
    fun c => exec_request rfl rfl, fun c => exec_request rfl rfl, fun k => exec_request rfl ?_, fun p => exec_request rfl rfl,
    exec_request rfl rfl, exec_request rfl rfl, exec_request rfl rfl, exec_request rfl rfl,
    fun code args => exec_request rfl rfl⟩
  · exact congrArg (fun w => Parsed.request h.tag (.tableRead t i n w)) (joinBytes_wordBytes o)
  · exact congrArg (fun w => Parsed.request h.tag (.clockSet d w sec)) (joinBytes_wordBytes m)
  · exact congrArg (fun w => Parsed.request h.tag (.eventClear w)) (joinBytes_wordBytes k)

/-! ### The store and the restart (R170, R171) -/

theorem saveBusy_iff (s : Part) : saveBusy s = true ↔ s.mgmt.store.saving ≠ none ∨ s.mgmt.restartPending = true := by
  rw [saveBusy, Bool.or_eq_true, Option.isSome_iff_ne_none]

theorem settingsSaveRequest_free {s : Part} (h : saveBusy s = false) : settingsSaveRequest s =
    ({ s with mgmt := { s.mgmt with store := { s.mgmt.store with saving := some s.tab }, storeState := .saving } },
      accept []) := by
  rw [settingsSaveRequest, if_neg (Bool.eq_false_iff.1 h)]

theorem restartRequest_free {s : Part} (h : saveBusy s = false) : restartRequest s =
    ({ s with mgmt := { s.mgmt with restartPending := true } }, { accept [] with restart := true }) := by
  rw [restartRequest, if_neg (Bool.eq_false_iff.1 h)]

/-- Settles O60: both requests under a save and without one. -/
theorem saveAndRestartTaken : Obligations.SaveAndRestartTaken := by
  refine fun h s ha => ⟨fun hb => ?_, fun hs hr => ?_⟩
  · have hbusy : saveBusy s.part.heard = true := (saveBusy_iff _).2 hb
    exact ⟨request_refused (code := 0x0D) (args := []) (r := .settingsSave) ha rfl (if_pos hbusy) rfl,
      request_refused (code := 0x0E) (args := []) (r := .restart) ha rfl (if_pos hbusy) rfl⟩
  · have hfree : saveBusy s.part.heard = false := Bool.eq_false_iff.2 fun hb => by
      rcases (saveBusy_iff _).1 hb with hb | hb
      · exact hb hs
      · exact absurd (hb.symm.trans hr) nofun
    exact ⟨request_mgmt (code := 0x0D) (args := []) (r := .settingsSave) ha rfl (settingsSaveRequest_free hfree) nofun
        fun _ => rfl,
      request_mgmt (code := 0x0E) (args := []) (r := .restart) ha rfl (restartRequest_free hfree) nofun fun _ => rfl⟩

/-! ### The address mode (R166) -/

theorem changeMode_line (m : Mode) (s : Part) : (changeMode m s).line = s.line := by
  unfold changeMode
  dsimp only
  split_ifs <;> simp only [Part.onPlant_line]

theorem changeMode_mgmt (m : Mode) (s : Part) :
    (changeMode m s).mgmt = { s.mgmt with mode := m, settleT := none } := by
  unfold changeMode
  dsimp only
  split_ifs <;> simp only [Part.onPlant_mgmt]

theorem changeMode_tab (m : Mode) (s : Part) : (changeMode m s).tab = s.tab := by
  unfold changeMode
  dsimp only
  split_ifs <;> simp only [Part.onPlant_tab]

theorem changeMode_levels (m : Mode) (s : Part) : (changeMode m s).levels = s.levels := by
  unfold changeMode
  dsimp only
  split_ifs <;> simp only [Part.onPlant_levels]

/-- A MANAGE frame to the part's own address ends with its mirroring (R131, R162). -/
theorem exec_directed {f : Frame} {s : State} (hp : s.part.power = .on) (hf : f.wf = true) (hk : f.kind = kindManage)
    (hd : f.dest = s.part.address) : exec (.goodFrameOnU f) s = .next (s.endingAt (mirror .down f
      (settlePart (takeDirected f.source (parseManage f.payload) s.part.heard)))) := by
  rw [exec_goodFrameU hp hf, disposeU, if_pos hk, takeManage, if_pos (show f.dest = s.part.heard.address from hd)]

/-- The reply of a directed request where the reply queue has room. -/
theorem enterReply_room {a : Reply} {u : Part} (h : replyFull u = false) :
    enterReply a u = { u with line := { u.line with replyQueue := u.line.replyQueue ++ [a] } } :=
  if_neg (Bool.eq_false_iff.1 h)

theorem toMode_same {m : Mode} {s : Part} (h : s.mgmt.mode = m) : toMode m s = s := if_pos h

theorem toMode_other {m : Mode} {s : Part} (h : s.mgmt.mode ≠ m) : toMode m s = changeMode m s := if_neg h

theorem toMode_line (m : Mode) (s : Part) : (toMode m s).line = s.line := by
  by_cases h : s.mgmt.mode = m
  · rw [toMode_same h]
  · rw [toMode_other h, changeMode_line]

/-- What ADDRESS_RELEASE leaves (R166). -/
def released (s : Part) : Part :=
  { settlePart (toMode .passive s) with
    mgmt := { (toMode .passive s).mgmt with addrMode := .commissioning }
    line := { s.line with checkHold := false }
    plant := { (settlePart (toMode .passive s)).plant with
      events := (settlePart (toMode .passive s)).plant.events.disable } }

theorem carriedOut_release (s : Part) :
    carryOut .addressRelease s = ((addressReleaseRequest s).1, accept []) ∧
      carriedOut .addressRelease (addressReleaseRequest s).1 (accept []) = released s := by
  refine ⟨rfl, ?_⟩
  rw [carriedOut, if_neg nofun, released, ← toMode_line .passive s, addressReleaseRequest]
  generalize toMode .passive s = t
  rfl

theorem released_passive {s : Part} (hs : Settled s.plant) (hm : s.mgmt.mode = .passive) : released s =
    { s with
      mgmt := { s.mgmt with addrMode := .commissioning }
      line := { s.line with checkHold := false }
      plant := { s.plant with events := s.plant.events.disable } } := by
  rw [released, toMode_same hm, settlePart_settled hs]

theorem released_changed {s : Part} (hm : s.mgmt.mode ≠ .passive) : released s =
    { settlePart (changeMode .passive s) with
      mgmt := { s.mgmt with addrMode := .commissioning, mode := .passive, settleT := none }
      line := { s.line with checkHold := false }
      plant := { (settlePart (changeMode .passive s)).plant with
        events := (settlePart (changeMode .passive s)).plant.events.disable } } := by
  rw [released, toMode_other hm, changeMode_mgmt]

theorem toMode_rest (m : Mode) (s : Part) :
    (toMode m s).tab = s.tab ∧ (toMode m s).cal = s.cal ∧ (toMode m s).levels = s.levels := by
  by_cases h : s.mgmt.mode = m
  · rw [toMode_same h]
    exact ⟨rfl, rfl, rfl⟩
  · rw [toMode_other h]
    exact ⟨changeMode_tab m s, changeMode_cal m s, changeMode_levels m s⟩

theorem released_settled (s : Part) : Settled (released s).plant := settled_settlePart (toMode .passive s)

/-- A directed request that no check hold refuses is carried out where the reply queue has room (R162). -/
theorem takeDirected_request {source tag : Byte} {r : ManageRequest} {s : Part}
    (hh : ¬(s.line.checkHold = true ∧ (Parsed.request tag r).code? ≠ some 0x0C)) (hq : replyFull s = false) :
    takeDirected source (.request tag r) s = completeRequest true source tag r s := by
  unfold takeDirected
  rw [if_neg hh, if_neg (Bool.eq_false_iff.1 hq)]

/-- ADDRESS_RELEASE to the part's own address, under a check hold too (R166). -/
theorem exec_addressRelease {h : ReqHead} {s : State} (hp : s.part.power = .on) (hd : h.dest = s.part.address)
    (hq : s.part.line.replyQueue.length < replyCapacity) :
    ∃ t : State, exec (.addressRelease h) s = .next t ∧ t.pending = s.pending ∧
      Answered (manageFrame h 0x0C []) (released s.part.heard) t.part (replyTo h .accepted 0 []) := by
  have hroom : replyFull s.part.heard = false := decide_eq_false (Nat.not_le.2 hq)
  have hroom' : replyFull (released s.part.heard) = false := hroom
  obtain ⟨hc, hr⟩ := carriedOut_release s.part.heard
  have e : takeDirected h.source (parseManage (0x0C :: h.tag :: [])) s.part.heard =
      enterReply (replyTo h .accepted 0 []) (released s.part.heard) := by
    rw [← hr]
    exact (takeDirected_request (fun hh => hh.2 rfl) hroom).trans (completeRequest_directed hc)
  have hfr := exec_directed (f := manageFrame h 0x0C []) hp rfl rfl hd
  refine ⟨_, ((requestsAreFrames h s).2.2.2.2.2.2.2.2.2.2.2.1).trans hfr, rfl, ?_⟩
  have e' : takeDirected (manageFrame h 0x0C []).source (parseManage (manageFrame h 0x0C []).payload) s.part.heard =
      enterReply (replyTo h .accepted 0 []) (released s.part.heard) := e
  rw [e', enterReply_room hroom', settlePart_settled (by exact released_settled s.part.heard)]
  rfl

/-- Settles O59: the address is taken, or released. -/
theorem addressRequestsTaken : Obligations.AddressRequestsTaken := by
  refine fun h s => ⟨fun ha => ?_, fun hp hs hd hq => ?_⟩
  · by_cases hz : s.part.tab.t9.service = 0
    · obtain ⟨t, ht, hpd, ho⟩ := request_refused (code := 0x0B) (args := []) (r := .addressTake) ha rfl (if_pos hz) rfl
      exact ⟨t, ht, hpd, fun _ => ho, fun hn => absurd hz hn⟩
    · have hc : carryOut .addressTake s.part.heard =
          ({ s.part.heard with mgmt := { s.part.heard.mgmt with addrMode := .service } }, accept []) := if_neg hz
      obtain ⟨t, ht, hpd, h1⟩ := request_mgmt (code := 0x0B) (args := []) ha rfl hc nofun fun _ => rfl
      exact ⟨t, ht, hpd, fun h0 => absurd h0 hz, fun _ => h1⟩
  · obtain ⟨t, ht, hpd, hA⟩ := exec_addressRelease hp hd hq
    obtain ⟨hrec, -, hl, -, hrq, -, -, -, htab, hcal, hlev, hm, -, hon, -⟩ :=
      answered_only (released_settled s.part.heard) hA
    have hev := answered_events (released_settled s.part.heard) hA (q := h) rfl (s := released s.part.heard) rfl
    have hw : t.part.plant.events.waiting = false := by
      rcases hev with e | ⟨e, -⟩ <;> rw [e] <;> rfl
    have hmode : t.part.mgmt.addrMode = .commissioning ∧ t.part.mgmt.mode = .passive ∧
        (s.part.mgmt.mode = .passive → t.part.mgmt = { s.part.mgmt with addrMode := .commissioning }) ∧
        (s.part.mgmt.mode ≠ .passive →
          t.part.mgmt = { s.part.mgmt with addrMode := .commissioning, mode := .passive, settleT := none }) := by
      rw [hm]
      by_cases hpm : s.part.mgmt.mode = .passive
      · rw [released_passive (s := s.part.heard) hs hpm]
        exact ⟨rfl, hpm, fun _ => rfl, fun hn => absurd hpm hn⟩
      · rw [released_changed (s := s.part.heard) hpm]
        exact ⟨rfl, rfl, fun hn => absurd hn hpm, fun _ => rfl⟩
    obtain ⟨ham, hpm, hm1, hm2⟩ := hmode
    obtain ⟨l1, l2, l3, l4, l5, l6, l7, l8, l9, l10, l11⟩ := hl
    obtain ⟨etab, ecal, elev⟩ := toMode_rest .passive s.part.heard
    refine ⟨t, ht, hpd, hrq, ham, hpm, l11, hon, hw, ⟨l1, l2, l3, l4, l5, l6, l7, l8, l9, l10, rfl⟩, fun u hu => ?_,
      fun hpas => ⟨hm1 hpas, ?_⟩, fun hpas => ⟨hm2 hpas, ?_⟩, htab.trans etab, hcal.trans ecal, hlev.trans elev⟩
    · rw [hm]
      by_cases hpas : s.part.mgmt.mode = .passive
      · rw [if_pos hpas] at hu
        rw [released_passive (s := s.part.heard) hs hpas] at hA ⊢
        exact hu ▸ hA
      · rw [if_neg hpas] at hu
        rw [released_changed (s := s.part.heard) hpas] at hA ⊢
        rw [hu]
        exact hA
    · rw [released_passive (s := s.part.heard) hs hpas] at hrec
      exact hrec
    · rw [released_changed (s := s.part.heard) hpas] at hrec
      exact hrec

/-! ### Notices and events (R120, R121, R124, R172) -/

theorem Event.number_lt (e : Event) : e.number < 16 := by cases e <;> decide

/-- The flag of an event stands alone at its number (R120). -/
theorem Event.getLsbD_bit (e : Event) (n : Nat) : e.bit.getLsbD n = decide (n = e.number) := by
  have := e.number_lt
  rw [Event.bit, BitVec.getLsbD_shiftLeft, BitVec.getLsbD_one, Bool.eq_iff_iff]
  simp only [Bool.and_eq_true, Bool.not_eq_true', decide_eq_true_eq, decide_eq_false_iff_not]
  omega

theorem Event.and_bit_eq_zero (w : Word) (e : Event) : (w &&& e.bit == 0) = !w.getLsbD e.number := by
  rw [Bool.eq_iff_iff, beq_iff_eq, Bool.not_eq_true']
  constructor
  · intro h
    have := congrArg (fun u : Word => u.getLsbD e.number) h
    simpa [Event.getLsbD_bit] using this
  · intro h
    refine BitVec.eq_of_getLsbD_eq fun i hi => ?_
    rw [BitVec.getLsbD_and, Event.getLsbD_bit]
    by_cases hn : i = e.number
    · subst hn
      simp [h]
    · simp [hn]

/-- What an accepted NOTICE_ON or NOTICE_OFF leaves: the events alone have changed, after the reply (R124). -/
theorem carriedOut_events {r : ManageRequest} {s : Part} (hs : Settled s.plant) {v : Events}
    (hv : afterReply r s = { s with plant := { s.plant with events := v } }) :
    carriedOut r s (accept []) = { s with plant := { s.plant with events := v } } := by
  rw [carriedOut, if_neg nofun, settlePart_settled hs, hv]

section
variable {h : ReqHead} {s : State} (ha : Asked h s.part)
include ha

/-- A request on notices that is accepted: the events alone have changed, but for the reply (R124). -/
theorem request_events {code : Byte} {args : List Byte} {r : ManageRequest} (hw : (manageFrame h code args).wf = true)
    (hc : carryOut r s.part.heard = (s.part.heard, accept [])) {v : Events}
    (hv : afterReply r s.part.heard = { s.part.heard with plant := { s.part.plant with events := v } }) :
    ∃ t : State, act (requestFrame h code args (.request h.tag r)) s = .next t ∧ t.pending = s.pending ∧
      Answered (manageFrame h code args) { s.part.heard with plant := { s.part.plant with events := v } } t.part
        (replyTo h .accepted 0 []) ∧ EventsAfter h s.part v t.part.plant.events := by
  obtain ⟨t, ht, hp, hA⟩ := request_carried ha hw (congrArg (fun o : Part × Answer => o.1.line.replyQueue) hc)
  have hA := hA _ _ hc
  rw [carriedOut_events (s := s.part.heard) ha.2.1 hv] at hA
  exact ⟨t, ht, hp, hA, answered_events (by exact ha.2.1) hA rfl rfl⟩

/-- A refused request leaves the events, but for the mirroring of its frame (R150). -/
theorem onlyReply_events {code : Byte} {args : List Byte} {t : Part} {a : Reply}
    (ho : OnlyReply (manageFrame h code args) s.part t a) : EventsAfter h s.part s.part.plant.events t.plant.events :=
  answered_events (u := s.part.heard) ha.2.1 ho rfl rfl

end

theorem raise_facts (v : Events) (e : Event) : (v.raise e).on = v.on ∧ (v.raise e).notified = v.notified ∧
    (∀ n : Nat, (v.raise e).pending.getLsbD n = true ↔ v.pending.getLsbD n = true ∨ n = e.number) ∧
    ((v.raise e).waiting = true ↔ v.waiting = true ∨ (v.on = true ∧ v.pending.getLsbD e.number = false ∧
      v.notified.getLsbD e.number = false)) := by
  refine ⟨rfl, rfl, fun n => ?_, ?_⟩
  · simp only [Events.raise, BitVec.getLsbD_or, Event.getLsbD_bit, Bool.or_eq_true, decide_eq_true_eq]
  · simp only [Events.raise, Event.and_bit_eq_zero, Bool.or_eq_true, Bool.and_eq_true, Bool.not_eq_true', and_assoc]

/-- Settles O58: the notice requests, EVENT_CLEAR, and the raising of an event. -/
theorem noticeRequestsTaken : Obligations.NoticeRequestsTaken := by
  refine ⟨fun h s ha => ⟨?_, ?_, ?_⟩, rfl, fun v w e hw => hw ▸ raise_facts v e⟩
  · rintro confirm f rfl
    by_cases hr : confirm = 0 ∨ s.part.tab.t9.notice = 0
    · obtain ⟨t, ht, hp, ho⟩ := request_refused (code := 0x07) (args := [confirm]) (r := .noticeOn confirm) ha rfl
        (if_pos hr) rfl
      exact ⟨t, ht, hp, fun _ => ⟨ho, onlyReply_events ha ho⟩, fun h1 h2 => absurd hr (not_or.2 ⟨h1, h2⟩)⟩
    · obtain ⟨t, ht, hp, hA⟩ := request_events (code := 0x07) (args := [confirm]) (r := .noticeOn confirm) ha rfl
        (if_neg hr) (v := s.part.plant.events.enable) rfl
      exact ⟨t, ht, hp, fun hn => absurd hn hr, fun _ _ v hv => hv ▸ hA⟩
  · rintro confirm f rfl
    by_cases hr : confirm = 0
    · obtain ⟨t, ht, hp, ho⟩ := request_refused (code := 0x08) (args := [confirm]) (r := .noticeOff confirm) ha rfl
        (if_pos hr) rfl
      exact ⟨t, ht, hp, fun _ => ⟨ho, onlyReply_events ha ho⟩, fun h1 => absurd hr h1⟩
    · obtain ⟨t, ht, hp, hA⟩ := request_events (code := 0x08) (args := [confirm]) (r := .noticeOff confirm) ha rfl
        (if_neg hr) (v := s.part.plant.events.disable) rfl
      exact ⟨t, ht, hp, fun hn => absurd hn hr, fun _ v hv => hv ▸ hA⟩
  · rintro keep f rfl
    obtain ⟨t, ht, hp, hA⟩ := request_carried (code := 0x09) (args := wordBytes keep) (r := .eventClear keep) ha rfl rfl
    have hA := hA _ _ rfl
    have e : carriedOut (.eventClear keep) (eventClearRequest keep s.part.heard).1 (accept []) =
        { s.part.heard with plant := { s.part.plant with events := s.part.plant.events.clear keep } } := by
      rw [carriedOut, if_neg nofun]
      exact settlePart_settled ha.2.1
    have hA : Answered (manageFrame h 0x09 (wordBytes keep)) _ t.part (replyTo h .accepted 0 []) := e ▸ hA
    obtain ⟨hrec, -, hl, -, hq, -, -, -, htab, hcal, hlev, hm, -⟩ := answered_only (by exact ha.2.1) hA
    exact ⟨t, ht, hp, hq, hl, hrec, fun v hv => hv ▸ ⟨hA, answered_events (by exact ha.2.1) hA rfl rfl⟩,
      htab, hcal, hlev, hm⟩

end Sys2Proof.Machine
end

section
/-!
PROOFS. The requests that change the records: OWNER_SET, TRIP_RESET, CLOCK_SET and MODE_SET with its consistency checks
(sections 10.2, 2.3 and 11.6).
-/

namespace Sys2Proof.Machine

/-! ### Requests on a pump (R117, R153) -/

theorem slotOf?_val (p : Fin 32) : slotOf? p.val = some p := dif_pos p.isLt

theorem slotOf?_eq_some {n : Nat} {p : Fin 32} (h : slotOf? n = some p) : p.val = n := by
  unfold slotOf? at h
  split at h
  · cases h; rfl
  · cases h

theorem namedPump_some {tab : Settings} {b : Byte} {p : Fin 32} (hp : p.val = b.toNat) (ha : assigned tab p = true) :
    namedPump tab b = some p := by
  rw [namedPump, ← hp, slotOf?_val, Option.filter_some, if_pos ha]

theorem namedPump_none {tab : Settings} {b : Byte} (h : ∀ p : Fin 32, p.val = b.toNat → assigned tab p = false) :
    namedPump tab b = none := by
  rw [namedPump, Option.filter_eq_none_iff]
  intro p hp hc
  rw [h p (slotOf?_eq_some hp)] at hc
  cases hc

theorem Ownership.ofCode?_code (o : Ownership) : Ownership.ofCode? o.code = some o := by cases o <;> rfl

theorem Ownership.ofCode?_none {n : Nat} (h : 2 < n) : Ownership.ofCode? n = none := by
  unfold Ownership.ofCode?
  rw [if_neg (by omega), if_neg (by omega), if_neg (by omega)]

section
variable {s : State}

/-- A request that changes the scheduling records only: what its answer leaves. -/
theorem answered_records {f : Frame} {t : Part} {r : Reply} {y : Plant} (hy : Settled y)
    (hA : Answered f { s.part.heard with plant := y } t r) : Replied s.part t r ∧
      Answered f { s.part.heard with plant := y } t r ∧ SameRecords y t.plant ∧ SameLine s.part.line t.line ∧
      t.tab = s.part.tab ∧ t.cal = s.part.cal ∧ t.levels = s.part.levels ∧ t.mgmt = s.part.mgmt := by
  obtain ⟨hrec, -, hl, -, hq, -, -, -, htab, hcal, hlev, hm, -⟩ := answered_only (by exact hy) hA
  exact ⟨hq, hA, hrec, hl, htab, hcal, hlev, hm⟩

/-- A request that hands an event to the scheduling blocks and is answered. -/
theorem answered_onPlant {f : Frame} {t : Part} {r : ManageRequest} {q : Reply} {g : View → Plant → Plant} {y : Plant}
    (hr : ∀ u : Part, afterReply r u = u) (hg : g s.part.view s.part.plant = y)
    (hA : Answered f (carriedOut r (s.part.heard.onPlant g) (accept [])) t q) : Replied s.part t q ∧
      Answered f { s.part.heard with plant := settle s.part.view y } t q ∧
      SameRecords (settle s.part.view y) t.plant ∧ SameLine s.part.line t.line ∧
      t.tab = s.part.tab ∧ t.cal = s.part.cal ∧ t.levels = s.part.levels ∧ t.mgmt = s.part.mgmt := by
  rw [carriedOut, if_neg nofun, hr] at hA
  subst hg
  exact answered_records (settled_settle _ _) hA

end

section
variable {slot owner : Byte} {s : Part}

theorem ownerSetRequest_replies : (ownerSetRequest slot owner s).1.line.replyQueue = s.line.replyQueue := by
  unfold ownerSetRequest
  split
  · rfl
  · split <;> rfl

theorem ownerSetRequest_none (h : namedPump s.tab slot = none) : ownerSetRequest slot owner s = (s, refuse .badIndex []) := by
  rw [ownerSetRequest, h]

theorem ownerSetRequest_bad {p : Fin 32} (h : namedPump s.tab slot = some p) (ho : 2 < owner.toNat) :
    ownerSetRequest slot owner s = (s, refuse .badValue []) := by
  simp only [ownerSetRequest, h, Ownership.ofCode?_none ho]

theorem ownerSetRequest_some {p : Fin 32} {o : Ownership} (h : namedPump s.tab slot = some p) (ho : owner.toNat = o.code) :
    ownerSetRequest slot owner s = (s.onPlant fun v => ownerEvent v p o, accept []) := by
  simp only [ownerSetRequest, h, ho, Ownership.ofCode?_code]

theorem tripResetRequest_replies : (tripResetRequest slot s).1.line.replyQueue = s.line.replyQueue := by
  unfold tripResetRequest
  split
  · rfl
  · split <;> rfl

theorem tripResetRequest_none (h : namedPump s.tab slot = none) : tripResetRequest slot s = (s, refuse .badIndex []) := by
  rw [tripResetRequest, h]

theorem tripResetRequest_some {p : Fin 32} (h : namedPump s.tab slot = some p) : tripResetRequest slot s =
    if (s.plant.pump p).state = .tripped ∨ (s.plant.pump p).state = .lockedOut then
      (s.onPlant fun v => tripResetEvent v p, accept [])
    else (s, refuse .illegal []) := by
  rw [tripResetRequest, h]

end

/-- Settles O55: the refusals of both requests in their order, and what they do. -/
theorem pumpRequestsTaken : Obligations.PumpRequestsTaken := by
  refine fun h slot s ha => ⟨?_, ?_⟩
  · rintro owner f rfl
    obtain ⟨t, ht, hp, hA⟩ := request_carried (code := 0x05) (args := [slot, owner]) (r := .ownerSet slot owner) ha rfl
      (ownerSetRequest_replies (s := s.part.heard))
    refine ⟨t, ht, hp, fun hn => ?_, fun p hpv hpa => ⟨fun ho => ?_, fun o ho => ⟨fun he => ?_, fun he => ?_⟩⟩⟩
    · exact onlyReply_of_heard ha (.inl rfl) (hA _ _ (ownerSetRequest_none (namedPump_none hn)))
    all_goals have hnp : namedPump s.part.heard.tab slot = some p := namedPump_some hpv hpa
    · exact onlyReply_of_heard ha (.inl rfl) (hA _ _ (ownerSetRequest_bad hnp ho))
    · have hA := hA _ _ (ownerSetRequest_some hnp ho)
      have e : s.part.heard.onPlant (fun v => ownerEvent v p o) = s.part.heard := by
        have : ownerEvent s.part.heard.view p o s.part.heard.plant = s.part.heard.plant := if_pos he
        rw [Part.onPlant, this]
      rw [e] at hA
      exact onlyReply_of_heard (r := .ownerSet slot owner) ha (.inr rfl) hA
    · exact answered_onPlant (fun _ => rfl) (if_neg he) (hA _ _ (ownerSetRequest_some hnp ho))
  · rintro f rfl
    obtain ⟨t, ht, hp, hA⟩ := request_carried (code := 0x0A) (args := [slot]) (r := .tripReset slot) ha rfl
      (tripResetRequest_replies (s := s.part.heard))
    refine ⟨t, ht, hp, fun hn => ?_, fun p hpv hpa => ⟨fun h1 h2 => ?_, fun hs => ?_⟩⟩
    · exact onlyReply_of_heard ha (.inl rfl) (hA _ _ (tripResetRequest_none (namedPump_none hn)))
    all_goals have hnp : namedPump s.part.heard.tab slot = some p := namedPump_some hpv hpa
    · exact onlyReply_of_heard ha (.inl rfl)
        (hA _ _ ((tripResetRequest_some hnp).trans (if_neg (not_or.2 ⟨h1, h2⟩))))
    · exact ⟨_, rfl, answered_onPlant (fun _ => rfl) rfl (hA _ _ ((tripResetRequest_some hnp).trans (if_pos hs)))⟩

/-! ### CLOCK_SET (R22, R27, R28) -/

/-- The clock as CLOCK_SET leaves it. -/
def Calendar.setTo (c : Calendar) (tab : Settings) (day : Fin 7) (minute second : Nat) : Calendar :=
  { c with
    clockSet := true, day := day, minute := minute, second := second, boundaryDue := false
    cls := classAt tab { c with clockSet := true, day := day, minute := minute, second := second } }

/-- A boundary that is due is taken, whatever it finds (R27). -/
theorem boundaryEvent_taken {s : Part} (hs : Settled s.plant) {y : Plant} (hb : BoundaryTaken s y) :
    ∃ c : TariffClass, settlePart (boundaryEvent s) =
      { s with cal := { s.cal with cls := c, boundaryDue := false }, plant := y } := by
  rw [BoundaryTaken] at hb
  unfold boundaryEvent
  by_cases hd : s.cal.boundaryDue = true
  · rw [if_pos hd]
    refine ⟨classAt s.tab s.cal, ?_⟩
    by_cases hc : classAt s.tab s.cal = s.cal.cls
    · rw [if_neg (fun hh => hh.2 hc)] at hb
      rw [if_pos hc, settlePart_settled (by exact hs), hb]
    · rw [if_pos ⟨hd, hc⟩] at hb
      rw [if_neg hc, hb]
      rfl
  · rw [if_neg (fun hh => hd hh.1)] at hb
    rw [if_neg hd, settlePart_settled hs, hb]
    exact ⟨s.cal.cls, by rw [← Bool.eq_false_iff.2 hd]⟩

/-- CLOCK_SET within its ranges: what it and the boundary before it leave (R22, R28). -/
theorem setClock_taken {s : Part} (hs : Settled s.plant) {y : Plant} (hb : BoundaryTaken s y) (day : Fin 7)
    (minute second : Nat) : settlePart (setClock day minute second (settlePart (boundaryEvent s))) =
      { s with
        cal := s.cal.setTo s.tab day minute second
        plant := settle { s.view with cls := (s.cal.setTo s.tab day minute second).cls }
          (evaluateAll { s.view with cls := (s.cal.setTo s.tab day minute second).cls } .clockSet y) } := by
  obtain ⟨c, e⟩ := boundaryEvent_taken hs hb
  rw [e]
  rfl

theorem clockSetRequest_bad {day : Byte} {minute : Word} {second : Byte} {s : Part}
    (h : 6 < day.toNat ∨ 1439 < minute.toNat ∨ 59 < second.toNat) :
    clockSetRequest day minute second s = (s, refuse .badValue []) :=
  dif_neg (by omega)

theorem clockSetRequest_good {day : Byte} {minute : Word} {second : Byte} {s : Part} {d : Fin 7} (hd : d.val = day.toNat)
    (hm : minute.toNat ≤ 1439) (hs : second.toNat ≤ 59) : clockSetRequest day minute second s =
      (setClock d minute.toNat second.toNat (settlePart (boundaryEvent s)), accept []) := by
  obtain ⟨d, hlt⟩ := d
  cases hd
  exact dif_pos ⟨hlt, by omega, by omega⟩

theorem setClock_line (day : Fin 7) (minute second : Nat) (s : Part) : (setClock day minute second s).line = s.line := rfl

/-- Settles O57: the clock is set after the boundary that is due. -/
theorem clockSetTaken : Obligations.ClockSetTaken := by
  rintro h day minute second s f ha rfl
  by_cases hr : 6 < day.toNat ∨ 1439 < minute.toNat ∨ 59 < second.toNat
  · obtain ⟨t, ht, hp, ho⟩ := request_refused (code := 0x06) (args := [day] ++ wordBytes minute ++ [second])
      (r := .clockSet day minute second) ha rfl (clockSetRequest_bad hr) rfl
    exact ⟨t, ht, hp, fun _ => ho, fun h1 h2 h3 => by omega⟩
  · have hd : day.toNat < 7 := by omega
    have hc : carryOut (.clockSet day minute second) s.part.heard = (setClock ⟨day.toNat, hd⟩ minute.toNat second.toNat
        (settlePart (boundaryEvent s.part.heard)), accept []) :=
      clockSetRequest_good (d := ⟨day.toNat, hd⟩) rfl (by omega) (by omega)
    obtain ⟨t, ht, hp, hA⟩ := request_carried (code := 0x06) (args := [day] ++ wordBytes minute ++ [second])
      (r := .clockSet day minute second) ha rfl (by
        rw [hc, setClock_line, settlePart_line, boundaryEvent_line]
        rfl)
    have hA := hA _ _ hc
    refine ⟨t, ht, hp, fun hn => absurd hn hr, fun _ _ _ y hb => ?_⟩
    have e := setClock_taken (s := s.part.heard) ha.2.1 hb ⟨day.toNat, hd⟩ minute.toNat second.toNat
    rw [carriedOut, if_neg nofun, e] at hA
    obtain ⟨hrec, -, hl, -, hq, -, -, -, htab, hcal, hlev, hm, -⟩ := answered_only (settled_settle _ _) hA
    have hcal' : t.part.cal = s.part.cal.setTo s.part.tab ⟨day.toNat, hd⟩ minute.toNat second.toNat := hcal
    rw [hcal']
    exact ⟨hq, rfl, rfl, rfl, rfl, rfl, rfl, rfl, hA, hrec, hl, htab, hlev, hm⟩

end Sys2Proof.Machine
end

section
/-!
PROOFS. The withdrawal of a pump, the clearing of an awaiting command and the change of an ownership, by the pump's
state (sections 4.8, 4.9, 6.7 and 10.2); every change of the operating mode (section 11.6).
-/

namespace Sys2Proof.Machine

/-! ### Withdrawals and awaiting commands (R66, R71) -/

theorem Pump.awaits_of_none {q : Pump} (h : q.cmd = none) (a : Action) : q.awaits a = false := by rw [Pump.awaits, h]

theorem Pump.holds_of_none {q : Pump} (h : q.cmd = none) (a : Action) : q.holds a = false := by rw [Pump.holds, h]

section
variable {v : View} {p : Fin 32} {x : Plant}

theorem withdraw_queued (h : (x.pump p).state = .queued) : withdraw v p x =
    handCommitted v.tab p ((dequeue p x).setPump p ((x.pump p).goto .off)) := if_pos h

theorem withdraw_other (h : (x.pump p).state ≠ .queued) : withdraw v p x = x := if_neg h

theorem clearAwaitingRun_other (h : (x.pump p).awaits .run = false ∨ (x.pump p).state ≠ .starting) :
    clearAwaitingRun v p x = x := by
  refine if_neg fun ⟨h1, h2⟩ => ?_
  rcases h with h | h
  · rw [h] at h1; cases h1
  · exact h h2

theorem clearAwaitingStop_other (h : (x.pump p).awaits .stop = false) : clearAwaitingStop v p x = x :=
  if_neg (Bool.eq_false_iff.1 h)

theorem clearAwaiting_other (hr : (x.pump p).awaits .run = false ∨ (x.pump p).state ≠ .starting)
    (hs : (x.pump p).awaits .stop = false) : clearAwaiting v p x = x := by
  rw [clearAwaiting, clearAwaitingRun_other hr, clearAwaitingStop_other hs]

theorem clearAwaiting_run (hr : (x.pump p).awaits .run = true) (hs : (x.pump p).state = .starting) :
    clearAwaiting v p x =
      handCommitted v.tab p (leaveStarting p (x.setPump p ((x.pump p).dropCmd.goto .off))) := by
  have e : clearAwaitingRun v p x =
      handCommitted v.tab p (leaveStarting p (x.setPump p ((x.pump p).dropCmd.goto .off))) := if_pos ⟨hr, hs⟩
  rw [clearAwaiting, e]
  refine clearAwaitingStop_other (Pump.awaits_of_none ?_ _)
  rw [handCommitted_pump, leaveStarting_pump, Plant.pump_setPump_same]
  rfl

/-- A STOP that awaits is not a RUN, and is cleared alone. -/
theorem clearAwaiting_stop (hs : (x.pump p).awaits .stop = true) : clearAwaiting v p x =
    if (x.pump p).state = .stopping then
      if (x.pump p).feedback = .running then
        handCommitted v.tab p (x.setPump p ((x.pump p).dropCmd.enterRunning v.now v.tab.t3[p]))
      else restTest v p (x.setPump p (x.pump p).dropCmd)
    else x.setPump p (x.pump p).dropCmd := by
  have hr : (x.pump p).awaits .run = false :=
    Bool.eq_false_iff.2 fun h => (x.pump p).not_awaits_both ⟨h, hs⟩
  rw [clearAwaiting, clearAwaitingRun_other (.inl hr)]
  exact if_pos hs

end

/-- What a record keeps, and loses, where its awaiting command is cleared (R71). -/
structure ClearedFrom (q r : Pump) : Prop where
  owner : r.owner = q.owner
  retries : r.retries = q.retries
  cause : r.cause = q.cause
  notQueued : q.state ≠ .queued → r.state ≠ .queued
  noRun : r.state = .starting → r.awaits .run = false
  noStop : r.awaits .stop = false

/-- A record whose command is dropped, in whatever state it then stands. -/
theorem clearedFrom_dropped {q r : Pump} (hc : r.cmd = none) (ho : r.owner = q.owner) (hr : r.retries = q.retries)
    (hs : r.cause = q.cause) (hq : q.state ≠ .queued → r.state ≠ .queued) : ClearedFrom q r :=
  ⟨ho, hr, hs, hq, fun _ => Pump.awaits_of_none hc _, Pump.awaits_of_none hc _⟩

theorem clearAwaiting_cleared (v : View) (p : Fin 32) (x : Plant) :
    ClearedFrom (x.pump p) ((clearAwaiting v p x).pump p) := by
  by_cases hs : (x.pump p).awaits .stop = true
  · rw [clearAwaiting_stop hs]
    split
    · split
      · refine clearedFrom_dropped ?_ ?_ ?_ ?_ fun _ => ?_ <;>
          simp [Pump.enterRunning, Pump.goto, Pump.dropCmd]
      · next hf =>
        have hp : ((x.setPump p (x.pump p).dropCmd).pump p) = (x.pump p).dropCmd := Plant.pump_setPump_same ..
        obtain ⟨st, t, hst, e⟩ := restTest_still (v := v) (p := p) (x := x.setPump p (x.pump p).dropCmd)
          (by rw [hp]; exact Pump.holds_of_none rfl _) (by rw [hp]; exact hf)
        rw [e, Plant.became_pump, hp]
        refine clearedFrom_dropped rfl rfl rfl rfl fun _ => ?_
        rcases hst with rfl | rfl <;> exact nofun
    · rw [Plant.pump_setPump_same]
      exact clearedFrom_dropped rfl rfl rfl rfl id
  · have hs' := Bool.eq_false_iff.2 hs
    by_cases hr : (x.pump p).awaits .run = true ∧ (x.pump p).state = .starting
    · rw [clearAwaiting_run hr.1 hr.2, handCommitted_pump, leaveStarting_pump, Plant.pump_setPump_same]
      exact clearedFrom_dropped rfl rfl rfl rfl fun _ => nofun
    · rw [not_and_or, Bool.not_eq_true] at hr
      rw [clearAwaiting_other hr hs']
      exact ⟨rfl, rfl, rfl, id, fun h => hr.resolve_right fun hn => hn h, hs'⟩

theorem withdraw_pump (v : View) (p : Fin 32) (x : Plant) : (withdraw v p x).pump p =
    if (x.pump p).state = .queued then (x.pump p).goto .off else x.pump p := by
  by_cases h : (x.pump p).state = .queued
  · rw [withdraw_queued h, handCommitted_pump, Plant.pump_setPump_same, if_pos h]
  · rw [withdraw_other h, if_neg h]

/-! ### Changes of ownership (R153) -/

section
variable {v : View} {p : Fin 32} {o : Ownership} {x : Plant}

theorem changeOwner_auto (h : (x.pump p).owner = .auto) : changeOwner v p o x =
    clearAwaiting v p (withdraw v p (x.setPump p { x.pump p with owner := o })) := if_pos h

theorem changeOwner_manual (h : (x.pump p).owner = .manual) (ho : o = .outOfService) : changeOwner v p o x =
    clearAwaiting v p (x.setPump p { x.pump p with owner := o }) := by
  have hn : ¬(x.pump p).owner = .auto := by rw [h]; exact nofun
  exact (if_neg hn).trans (if_pos ⟨h, ho⟩)

theorem changeOwner_plain (h : (x.pump p).owner ≠ .auto) (ho : ¬((x.pump p).owner = .manual ∧ o = .outOfService)) :
    changeOwner v p o x = x.setPump p { x.pump p with owner := o } := (if_neg h).trans (if_neg ho)

/-- A pump that is not QUEUED has its awaiting command cleared where it leaves AUTO, or MANUAL for OUT_OF_SERVICE. -/
theorem changeOwner_clears (h : (x.pump p).owner = .auto ∨ ((x.pump p).owner = .manual ∧ o = .outOfService))
    (hq : (x.pump p).state ≠ .queued) :
    changeOwner v p o x = clearAwaiting v p (x.setPump p { x.pump p with owner := o }) := by
  rcases h with h | h
  · rw [changeOwner_auto h, withdraw_other]
    rwa [Plant.pump_setPump_same]
  · exact changeOwner_manual h.1 h.2

end

theorem changeOwner_kept (v : View) (p : Fin 32) (o : Ownership) (x : Plant) : ((changeOwner v p o x).pump p).owner = o ∧
    ((changeOwner v p o x).pump p).retries = (x.pump p).retries ∧
    ((changeOwner v p o x).pump p).cause = (x.pump p).cause := by
  have hc : ∀ y : Plant, (y.pump p).owner = o ∧ (y.pump p).retries = (x.pump p).retries ∧ (y.pump p).cause = (x.pump p).cause →
      ((clearAwaiting v p y).pump p).owner = o ∧ ((clearAwaiting v p y).pump p).retries = (x.pump p).retries ∧
        ((clearAwaiting v p y).pump p).cause = (x.pump p).cause := by
    rintro y ⟨h1, h2, h3⟩
    obtain ⟨g1, g2, g3, -⟩ := clearAwaiting_cleared v p y
    exact ⟨g1.trans h1, g2.trans h2, g3.trans h3⟩
  by_cases ha : (x.pump p).owner = .auto
  · rw [changeOwner_auto ha]
    refine hc _ ?_
    rw [withdraw_pump, Plant.pump_setPump_same]
    split <;> exact ⟨rfl, rfl, rfl⟩
  · by_cases hm : (x.pump p).owner = .manual ∧ o = .outOfService
    · rw [changeOwner_manual hm.1 hm.2]
      refine hc _ ?_
      rw [Plant.pump_setPump_same]
      exact ⟨rfl, rfl, rfl⟩
    · rw [changeOwner_plain ha hm, Plant.pump_setPump_same]
      exact ⟨rfl, rfl, rfl⟩

/-- Settles O56: a change of ownership by what it clears, and the two clearings by the state of the pump. -/
theorem ownerChangeEffects : Obligations.OwnerChangeEffects := by
  refine ⟨?_, ?_⟩
  · rintro v p o x q r rfl rfl -
    obtain ⟨h1, h2, h3⟩ := changeOwner_kept v p o x
    have hp : (x.setPump p { x.pump p with owner := o }).pump p = { x.pump p with owner := o } :=
      Plant.pump_setPump_same ..
    refine ⟨changeOwner_frame v p o x, h1, h2, h3, fun ha hq hn => ?_, fun hl hs hr => ?_, fun hl hs ht hf => ?_,
      fun hq hr hs => ?_, fun ha ho => ?_⟩
    · have hw : (withdraw v p (x.setPump p { x.pump p with owner := o })).pump p =
          Pump.goto { x.pump p with owner := o } .off := by
        rw [withdraw_pump, hp, if_pos hq]
      rw [changeOwner_auto ha, clearAwaiting_other (.inr (by rw [hw]; exact nofun))
        (Pump.awaits_of_none (by rw [hw]; exact hn) _), hw]
      refine ⟨rfl, ?_⟩
      rw [withdraw_queued (by rw [hp]; exact hq), handCommitted_queue, Plant.setPump_queue, dequeue_queue]
      rfl
    · rw [changeOwner_clears hl (by rw [hs]; exact nofun), clearAwaiting_run (by rw [hp]; exact hr) (by rw [hp]; exact hs),
        handCommitted_pump, leaveStarting_pump, Plant.pump_setPump_same]
      exact ⟨rfl, rfl⟩
    · rw [changeOwner_clears hl (by rw [hs]; exact nofun), clearAwaiting_stop (by rw [hp]; exact ht), hp,
        if_pos (show (x.pump p).state = .stopping from hs), if_pos (show (x.pump p).feedback = .running from hf),
        handCommitted_pump, Plant.pump_setPump_same]
      exact ⟨rfl, rfl, rfl, rfl⟩
    · by_cases hl : (x.pump p).owner = .auto ∨ ((x.pump p).owner = .manual ∧ o = .outOfService)
      · rw [changeOwner_clears hl hq, clearAwaiting_other (.inl (by rw [hp]; exact hr)) (by rw [hp]; exact hs), hp]
      · rw [not_or] at hl
        rw [changeOwner_plain hl.1 hl.2, hp]
    · rw [changeOwner_plain ha fun h => ho h.2, hp]
  · rintro v p x y q rfl rfl
    refine ⟨withdraw_other, fun h => withdraw_queued h, fun hr hs => clearAwaiting_other (.inl hr) hs,
      fun hr hs => clearAwaiting_run hr hs, fun ht hs hf => ?_, fun ht hs hf => ?_, fun ht hs => ?_⟩
    · rw [clearAwaiting_stop ht, if_pos hs, if_pos hf]
      rfl
    · rw [clearAwaiting_stop ht, if_pos hs, if_neg hf]
      rfl
    · rw [clearAwaiting_stop ht, if_neg (by rcases hs with h | h <;> rw [h] <;> exact nofun)]
      rfl

end Sys2Proof.Machine
end

section
/-!
PROOFS. Changes of the operating mode, the consistency checks and MODE_SET (section 11.6).
-/

namespace Sys2Proof.Machine

/-! ### Where the mode is not ACTIVE a reconciliation leaves the pumps and the queue (R78) -/

/-- The pump records and the start queue have not changed. -/
def SamePumps (x y : Plant) : Prop := y.pumps = x.pumps ∧ y.queue = x.queue

theorem SamePumps.trans {x y z : Plant} (h : SamePumps x y) (h' : SamePumps y z) : SamePumps x z :=
  ⟨h'.1.trans h.1, h'.2.trans h.2⟩

theorem reconcileAdvisory_samePumps (v : View) (k : Fin 8) (x : Plant) : SamePumps x (reconcileAdvisory v k x) := by
  unfold reconcileAdvisory writeAdvice writeShortfall
  dsimp only
  split <;> exact ⟨rfl, rfl⟩

theorem reconcile_samePumps {v : View} (h : v.mode ≠ .active) (k : Fin 8) (x : Plant) : SamePumps x (reconcile v k x) := by
  unfold reconcile
  split
  · split
    · next hm => exact absurd hm h
    · exact reconcileAdvisory_samePumps v k x
    · exact ⟨rfl, rfl⟩
    · exact ⟨rfl, rfl⟩
  · exact ⟨rfl, rfl⟩

theorem recordEvaluation_samePumps (v : View) (c : Cause) (k : Fin 8) (x : Plant) :
    SamePumps x (recordEvaluation v c k x) := by
  unfold recordEvaluation raiseOverride
  split_ifs <;> exact ⟨rfl, rfl⟩

theorem evaluate_samePumps {v : View} (h : v.mode ≠ .active) (c : Cause) (x : Plant) (k : Fin 8) :
    SamePumps x (evaluate v c x k) := by
  cases he : v.tab.t2[k].enabled
  · rw [evaluate_disabled he]
    exact ⟨rfl, rfl⟩
  · rw [evaluate_enabled he]
    split
    · exact recordEvaluation_samePumps v c k x
    · exact (recordEvaluation_samePumps v c k x).trans (reconcile_samePumps h k _)

theorem foldl_samePumps {α : Type} {op : Plant → α → Plant} (h : ∀ x a, SamePumps x (op x a)) (l : List α) (x : Plant) :
    SamePumps x (l.foldl op x) :=
  List.foldlRecOn (motive := SamePumps x) l op ⟨rfl, rfl⟩ fun y hy a _ => hy.trans (h y a)

/-! ### Leaving ACTIVE (R168) -/

/-- An operation on each pump in turn gives every pump what it gives its own, where it leaves the others alone. -/
theorem foldl_onlyPump_each {op : Plant → Fin 32 → Plant} {R Q : Pump → Prop} (hf : ∀ x p, OnlyPump p x (op x p))
    (hQ : ∀ x p, R (x.pump p) → Q ((op x p).pump p)) (hR : ∀ q, Q q → R q) (ps : List (Fin 32)) (x : Plant)
    (hx : ∀ p, R (x.pump p)) (p : Fin 32) (hp : p ∈ ps ∨ Q (x.pump p)) : Q ((ps.foldl op x).pump p) := by
  induction ps generalizing x with
  | nil => exact hp.resolve_left List.not_mem_nil
  | cons a ps ih =>
    have hx' : ∀ p, R ((op x a).pump p) := fun p => by
      by_cases hpa : p = a
      · subst hpa
        exact hR _ (hQ x p (hx p))
      · rw [(hf x a).2 p hpa]
        exact hx p
    rw [List.foldl_cons]
    refine ih _ hx' ?_
    by_cases hpa : p = a
    · subst hpa
      exact .inr (hQ x p (hx p))
    · rw [(hf x a).2 p hpa]
      exact hp.imp (fun h => (List.mem_cons.1 h).resolve_left hpa) id

theorem mem_removeRequest {p : Fin 32} {q : List Request} {e : Request} (h : e ∈ removeRequest p q) :
    e.pump ≠ p ∧ ∃ e' ∈ q, e'.pump = e.pump := by
  unfold removeRequest at h
  split at h
  · next hn => exact ⟨fun hp => by simpa [hp] using List.find?_eq_none.1 hn e h, e, h, rfl⟩
  · obtain ⟨e', he', rfl⟩ := List.mem_map.1 h
    obtain ⟨hm, hne⟩ := List.mem_filter.1 he'
    have : e'.pump ≠ p := by simpa using hne
    split <;> exact ⟨this, e', hm, rfl⟩

/-- Every request is that of a QUEUED pump. -/
def OnlyQueued (x : Plant) : Prop := ∀ e ∈ x.queue, (x.pump e.pump).state = .queued

theorem withdraw_onlyQueued (v : View) {p : Fin 32} {x : Plant} (h : OnlyQueued x) : OnlyQueued (withdraw v p x) := by
  by_cases hq : (x.pump p).state = .queued
  · intro e he
    rw [withdraw_queued hq, handCommitted_queue, Plant.setPump_queue, dequeue_queue] at he
    obtain ⟨hne, e', he', hp⟩ := mem_removeRequest he
    rw [(withdraw_frame v p x).2 _ hne, ← hp]
    exact h e' he'
  · rwa [withdraw_other hq]

theorem clearAwaiting_queue (v : View) (p : Fin 32) (x : Plant) : (clearAwaiting v p x).queue = x.queue := by
  by_cases hs : (x.pump p).awaits .stop = true
  · rw [clearAwaiting_stop hs]
    split
    · split
      · rw [handCommitted_queue, Plant.setPump_queue]
      · next hf =>
        obtain ⟨-, -, hq, -⟩ := restTest_recordOnly (v := v) (p := p) (x := x.setPump p (x.pump p).dropCmd)
          (.inr (by rw [Plant.pump_setPump_same]; exact hf))
        rw [hq, Plant.setPump_queue]
    · rfl
  · by_cases hr : (x.pump p).awaits .run = true ∧ (x.pump p).state = .starting
    · rw [clearAwaiting_run hr.1 hr.2, handCommitted_queue, leaveStarting_queue, Plant.setPump_queue]
    · rw [not_and_or, Bool.not_eq_true] at hr
      rw [clearAwaiting_other hr (Bool.eq_false_iff.2 hs)]

/-- A pump that no step of ACTIVE holds back: not QUEUED, and with no command of the part's own awaiting (R168). -/
def Freed (q : Pump) : Prop :=
  q.state ≠ .queued ∧ (q.state = .starting → q.awaits .run = false) ∧ q.awaits .stop = false

theorem leaveActive_eq (v : View) (x : Plant) : leaveActive v x = slots.foldl (fun z p => clearAwaiting v p z)
    (((slots.foldl (fun z p => withdraw v p z) x).markScan .a).markScan .b) := by
  rw [leaveActive]

theorem leaveActive_freed (v : View) {x : Plant} (h : OnlyQueued x) :
    (leaveActive v x).queue = [] ∧ ∀ p, Freed ((leaveActive v x).pump p) := by
  have hstate : ∀ p, ((slots.foldl (fun z p => withdraw v p z) x).pump p).state ≠ .queued := fun p =>
    foldl_onlyPump_each (R := fun _ => True) (Q := fun q => q.state ≠ .queued) (fun x p => withdraw_frame v p x)
      (fun x p _ => by
        rw [withdraw_pump]
        split
        · exact nofun
        · next hn => exact hn) (fun _ _ => trivial) slots x (fun _ => trivial) p (.inl (List.mem_finRange p))
  have hq : OnlyQueued (slots.foldl (fun z p => withdraw v p z) x) :=
    List.foldlRecOn (motive := OnlyQueued) slots _ h fun _ hy _ _ => withdraw_onlyQueued v hy
  have hnil : (slots.foldl (fun z p => withdraw v p z) x).queue = [] :=
    List.eq_nil_iff_forall_not_mem.2 fun e he => hstate e.pump (hq e he)
  rw [leaveActive_eq]
  generalize slots.foldl (fun z p => withdraw v p z) x = w at hstate hnil
  have hnil' : ((w.markScan .a).markScan .b).queue = [] := hnil
  have hstate' : ∀ p, (((w.markScan .a).markScan .b).pump p).state ≠ .queued := hstate
  generalize (w.markScan .a).markScan .b = w' at hnil' hstate'
  refine ⟨?_, fun p => ?_⟩
  · exact List.foldlRecOn (motive := fun y : Plant => y.queue = []) slots _ hnil' fun y hy p _ =>
      (clearAwaiting_queue v p y).trans hy
  · exact foldl_onlyPump_each (R := fun q => q.state ≠ .queued) (Q := Freed) (fun x p => clearAwaiting_frame v p x)
      (fun x p hx => by
        obtain ⟨-, -, -, h1, h2, h3⟩ := clearAwaiting_cleared v p x
        exact ⟨h1 hx, h2, h3⟩) (fun _ hq => hq.1) slots _ hstate' p (.inl (List.mem_finRange p))

/-! ### Every change of mode (R35, R91, R167, R168) -/

/-- The stages that leaving ACTIVE concerns, in ascending order. -/
def heldStages (x : Plant) : List (Fin 8) :=
  stageList.filter fun k => slots.any fun p =>
    stageOf p == k && ((x.pump p).state == .queued || (x.pump p).awaits .run || (x.pump p).awaits .stop)

theorem stagesOf_held (x : Plant) : stagesOf (slots.filter fun p => (x.pump p).heldByActive) = heldStages x := by
  unfold stagesOf heldStages
  simp only [List.any_filter, Bool.and_comm, Pump.heldByActive]

theorem changeMode_fromActive {m : Mode} {s : Part} (h : s.mgmt.mode = .active) : changeMode m s =
    { s with
      mgmt := { s.mgmt with mode := m, settleT := none }
      plant :=
        if m = .advisory ∨ m = .active then
          evaluateAll { s.view with mode := m } .modeEntry
            (reconcileAll { s.view with mode := m } (heldStages s.plant) (updateStages m (leaveActive s.view s.plant)))
        else
          reconcileAll { s.view with mode := m } (heldStages s.plant) (updateStages m (leaveActive s.view s.plant)) } := by
  rw [← stagesOf_held]
  unfold changeMode
  simp only [if_pos h]
  generalize stagesOf _ = ks
  generalize leaveActive = g
  split <;> rfl

theorem updateStages_samePumps (m : Mode) (x : Plant) : SamePumps x (updateStages m x) := ⟨rfl, rfl⟩

theorem updateStages_stage (m : Mode) (x : Plant) (k : Fin 8) : (updateStages m x).stage k = updateStage m (x.stage k) := by
  simp [updateStages, Plant.stage]

/-- A plant is what its parts are. -/
theorem updateStages_eq {m : Mode} {y z : Plant} (hz : ∀ k : Fin 8, z.stage k = { y.stage k with
      advice := .none, adviceSlot := 0
      shortfall := if m = .advisory ∨ m = .active then (y.stage k).shortfall else false })
    (he : z = { y with stages := z.stages }) : z = updateStages m y := by
  have hs : z.stages = (updateStages m y).stages := by
    refine Vector.ext fun i hi => ?_
    have h1 := (hz ⟨i, hi⟩).trans (?_ : _ = updateStage m (y.stage ⟨i, hi⟩))
    · exact h1.trans (updateStages_stage m y ⟨i, hi⟩).symm
    · cases m <;> simp [updateStage]
  rw [he, hs]
  rfl

/-- Settles O54: what leaving ACTIVE frees, and the equation of every change of mode. -/
theorem modeChangeEffects : Obligations.ModeChangeEffects := by
  refine ⟨fun m s ha hm hto => ?_, ?_, fun _ _ _ => rfl⟩
  · obtain ⟨hq, hf⟩ := leaveActive_freed s.view (x := s.plant) fun e he => (ha.1 e.pump).1 ⟨e, he, rfl⟩
    have hna : m ≠ .active := by rcases hto with rfl | rfl <;> exact nofun
    have hr : SamePumps (leaveActive s.view s.plant) (changeMode m s).plant := by
      rw [changeMode_fromActive hm]
      have hr := (updateStages_samePumps m (leaveActive s.view s.plant)).trans
        (foldl_samePumps (fun y k => reconcile_samePumps (v := { s.view with mode := m }) hna k y) (heldStages s.plant) _)
      split
      · exact hr.trans (foldl_samePumps (fun y k => evaluate_samePumps hna .modeEntry y k) stageList _)
      · exact hr
    refine ⟨hr.2.trans hq, by rw [changeMode_mgmt], fun p => ?_⟩
    rw [Plant.pump_congr hr.1 p]
    exact hf p
  · intro m s v x y z told hv hx hy hz he ht
    subst hv
    obtain rfl := updateStages_eq hz he
    by_cases hm : s.mgmt.mode = .active
    · rw [if_pos hm] at hy ht
      have ey : y = leaveActive s.view s.plant := by
        rw [hy, hx, leaveActive_eq]
        generalize slots.foldl (fun z p => withdraw s.view p z) s.plant = w
        rfl
      rw [changeMode_fromActive hm, ht, ey, heldStages]
    · rw [if_neg hm] at hy ht
      rw [changeMode_plant hm, ht, hy]
      split <;> rfl

/-! ### The consistency checks (R167) -/

/-- The check of this number fails at this index. -/
def CheckFails (tab : Settings) (n i : Nat) : Prop :=
  (n = 1 ∧ ∃ k : Fin 8, k.val = i ∧ check1Fails tab k = true) ∨
    (n = 2 ∧ ∃ r : Fin 10, r.val = i ∧ check2Fails tab r = true) ∨
    (n = 3 ∧ ∃ p : Fin 32, p.val = i ∧ check3Fails tab p = true) ∨
    (n = 4 ∧ ∃ p : Fin 32, p.val = i ∧ check4Fails tab p = true) ∨
    (n = 5 ∧ i = 0 ∧ tab.t9.valid = false)

/-- A check that fails at some index, or at none. -/
theorem firstFailure_cases {n : Nat} (bad : Fin n → Bool) : ((List.finRange n).find? bad = none ∧ ∀ i, bad i = false) ∨
    ∃ i, (List.finRange n).find? bad = some i ∧ bad i = true ∧ ∀ j : Fin n, bad j = true → i ≤ j := by
  cases h : (List.finRange n).find? bad with
  | none => exact .inl ⟨rfl, firstFailure_eq_none.1 h⟩
  | some i =>
    obtain ⟨hi, hb⟩ := firstFailure_eq_some.1 h
    exact .inr ⟨i, rfl, hi, fun j hj => Nat.not_lt.1 fun hlt => hb j hlt hj⟩

/-- The checks pass, or name the first failure, in the order of the checks and then of the index. -/
theorem modeCheck_cases (tab : Settings) : (modeCheck tab = .passed ∧ ∀ n i, ¬CheckFails tab n i) ∨
    ∃ n i, modeCheck tab = .inconsistent n i ∧ CheckFails tab n i ∧
      ∀ m j, CheckFails tab m j → n < m ∨ (n = m ∧ i ≤ j) := by
  rcases firstFailure_cases (check1Fails tab) with ⟨e1, h1⟩ | ⟨k, e1, hk, hmin⟩
  rotate_left
  · refine .inr ⟨1, k, by simp only [modeCheck, stageList, e1], .inl ⟨rfl, k, rfl, hk⟩, ?_⟩
    rintro m j (⟨rfl, k', rfl, h⟩ | ⟨rfl, -⟩ | ⟨rfl, -⟩ | ⟨rfl, -⟩ | ⟨rfl, -⟩)
    · exact .inr ⟨rfl, hmin k' h⟩
    all_goals exact .inl (by omega)
  rcases firstFailure_cases (check2Fails tab) with ⟨e2, h2⟩ | ⟨r, e2, hr, hmin⟩
  rotate_left
  · refine .inr ⟨2, r, by simp only [modeCheck, stageList, reservoirList, e1, e2], .inr (.inl ⟨rfl, r, rfl, hr⟩), ?_⟩
    rintro m j (⟨-, k', -, h⟩ | ⟨rfl, r', rfl, h⟩ | ⟨rfl, -⟩ | ⟨rfl, -⟩ | ⟨rfl, -⟩)
    · rw [h1 k'] at h; cases h
    · exact .inr ⟨rfl, hmin r' h⟩
    all_goals exact .inl (by omega)
  rcases firstFailure_cases (check3Fails tab) with ⟨e3, h3⟩ | ⟨p, e3, hp, hmin⟩
  rotate_left
  · refine .inr ⟨3, p, by simp only [modeCheck, stageList, reservoirList, slots, e1, e2, e3],
      .inr (.inr (.inl ⟨rfl, p, rfl, hp⟩)), ?_⟩
    rintro m j (⟨-, k', -, h⟩ | ⟨-, r', -, h⟩ | ⟨rfl, p', rfl, h⟩ | ⟨rfl, -⟩ | ⟨rfl, -⟩)
    · rw [h1 k'] at h; cases h
    · rw [h2 r'] at h; cases h
    · exact .inr ⟨rfl, hmin p' h⟩
    all_goals exact .inl (by omega)
  rcases firstFailure_cases (check4Fails tab) with ⟨e4, h4⟩ | ⟨p, e4, hp, hmin⟩
  rotate_left
  · refine .inr ⟨4, p, by simp only [modeCheck, stageList, reservoirList, slots, e1, e2, e3, e4],
      .inr (.inr (.inr (.inl ⟨rfl, p, rfl, hp⟩))), ?_⟩
    rintro m j (⟨-, k', -, h⟩ | ⟨-, r', -, h⟩ | ⟨-, p', -, h⟩ | ⟨rfl, p', rfl, h⟩ | ⟨rfl, -⟩)
    · rw [h1 k'] at h; cases h
    · rw [h2 r'] at h; cases h
    · rw [h3 p'] at h; cases h
    · exact .inr ⟨rfl, hmin p' h⟩
    · exact .inl (by omega)
  have hlate : ∀ m j, CheckFails tab m j → m = 5 ∧ j = 0 ∧ tab.t9.valid = false := by
    rintro m j (⟨-, k', -, h⟩ | ⟨-, r', -, h⟩ | ⟨-, p', -, h⟩ | ⟨-, p', -, h⟩ | h)
    · rw [h1 k'] at h; cases h
    · rw [h2 r'] at h; cases h
    · rw [h3 p'] at h; cases h
    · rw [h4 p'] at h; cases h
    · exact h
  cases hv : tab.t9.valid
  · refine .inr ⟨5, 0, by simp [modeCheck, stageList, reservoirList, slots, e1, e2, e3, e4, hv],
      .inr (.inr (.inr (.inr ⟨rfl, rfl, hv⟩))), fun m j h => ?_⟩
    obtain ⟨rfl, rfl, -⟩ := hlate m j h
    exact .inr ⟨rfl, le_rfl⟩
  · refine .inl ⟨by simp [modeCheck, stageList, reservoirList, slots, e1, e2, e3, e4, hv], fun m j h => ?_⟩
    obtain ⟨-, -, h⟩ := hlate m j h
    exact nomatch hv.symm.trans h

theorem hasPoint_eq_false {tab : Settings} {kind target : Nat} : hasPoint tab kind target = false ↔
    ∀ j : Fin 128, ¬(tab.t0[j].used = true ∧ tab.t0[j].kind = kind ∧ tab.t0[j].target = target) := by
  rw [hasPoint, List.any_eq_false]
  constructor
  · intro h j hj
    refine h tab.t0[j] (by simp) ?_
    simpa [and_assoc] using hj
  · intro h e he
    obtain ⟨i, hi, rfl⟩ := List.mem_iff_getElem.1 he
    have := h ⟨i, by simpa using hi⟩
    simpa [and_assoc] using this

theorem servesStage_iff {tab : Settings} {r : Fin 10} : servesStage tab r = true ↔
    ∃ k : Fin 8, tab.t2[k].enabled = true ∧ (tab.t2[k].delivery = r ∨ tab.t2[k].suction = r) := by
  simp [servesStage, stageList]

theorem check1Fails_iff {tab : Settings} {k : Fin 8} : check1Fails tab k = true ↔ tab.t2[k].enabled = true ∧
    ¬(tab.t1[tab.t2[k].delivery].enabled = true ∧ tab.t1[tab.t2[k].suction].enabled = true) := by
  rw [check1Fails, Bool.and_eq_true, Bool.not_eq_true', ← Bool.not_eq_true, Bool.and_eq_true]

theorem check2Fails_iff {tab : Settings} {r : Fin 10} : check2Fails tab r = true ↔ tab.t1[r].enabled = true ∧
    tab.t1[r].kind = .metered ∧
    (∃ k : Fin 8, tab.t2[k].enabled = true ∧ (tab.t2[k].delivery = r ∨ tab.t2[k].suction = r)) ∧
    ∀ j : Fin 128, ¬(tab.t0[j].used = true ∧ tab.t0[j].kind = 0 ∧ tab.t0[j].target = r.val) := by
  rw [check2Fails, Bool.and_eq_true, Bool.and_eq_true, Bool.and_eq_true, Bool.not_eq_true', beq_iff_eq, hasPoint_eq_false,
    servesStage_iff, and_assoc, and_assoc]

theorem check3Fails_iff {tab : Settings} {p : Fin 32} : check3Fails tab p = true ↔ assigned tab p = true ∧
    ∀ j : Fin 128, ¬(tab.t0[j].used = true ∧ tab.t0[j].kind = 1 ∧ tab.t0[j].target = p.val) := by
  rw [check3Fails, Bool.and_eq_true, Bool.not_eq_true', hasPoint_eq_false]

theorem check4Fails_iff {tab : Settings} {p : Fin 32} : check4Fails tab p = true ↔ assigned tab p = true ∧
    (tab.feeder tab.t3[p].feeder).budget < tab.t3[p].rating := by
  rw [check4Fails, Bool.and_eq_true, decide_eq_true_iff]

theorem general_invalid_iff {e : General} : e.valid = false ↔ e.service = 0 ∨ e.notice = 0 := by
  simp only [General.valid, Bool.and_eq_false_iff, bne_eq_false_iff_eq]

theorem assigned_iff {tab : Settings} {p : Fin 32} : assigned tab p = true ↔
    tab.t2[stageOf p].enabled = true ∧ p.val % 4 < tab.t2[stageOf p].n := by
  rw [assigned, Bool.and_eq_true, decide_eq_true_iff, posOf]

/-! ### MODE_SET (R167) -/

theorem modeOf?_none {b : Byte} (h : 3 < b.toNat) : modeOf? b = none := by
  have hne : ∀ c : Byte, c.toNat ≤ 3 → b ≠ c := fun c hc e => by subst e; omega
  unfold modeOf?
  rw [if_neg (hne 0 (by decide)), if_neg (hne 1 (by decide)), if_neg (hne 2 (by decide)), if_neg (hne 3 (by decide))]

theorem modeOf?_code {b : Byte} {m : Mode} (h : b.toNat = m.code) : modeOf? b = some m := by
  obtain rfl : b = BitVec.ofNat 8 m.code := BitVec.eq_of_toNat_eq (by rw [h]; cases m <;> rfl)
  cases m <;> rfl

section
variable {b : Byte} {s : Part}

theorem modeSetRequest_bad (h : 3 < b.toNat) : modeSetRequest b s = (s, refuse .badValue []) := by
  rw [modeSetRequest, modeOf?_none h]

theorem modeSetRequest_settling (h : b = 2) : modeSetRequest b s = (s, refuse .illegal []) := by
  rw [modeSetRequest, modeOf?_code (m := .settling) (by rw [h]; rfl)]

theorem modeSetRequest_inactive {m : Mode} (h : b.toNat = m.code) (hs : m ≠ .settling) (ha : m ≠ .active) :
    modeSetRequest b s = (toMode m s, accept []) := by
  rw [modeSetRequest, modeOf?_code h]
  cases m
  case active => exact absurd rfl ha
  case settling => exact absurd rfl hs
  all_goals rfl

theorem modeSetRequest_same {m : Mode} (h : b.toNat = m.code) (hs : m ≠ .settling) (hm : s.mgmt.mode = m) :
    modeSetRequest b s = (s, accept []) := by
  by_cases ha : m = .active
  · subst ha
    rw [modeSetRequest, modeOf?_code h]
    exact if_pos hm
  · rw [modeSetRequest_inactive h hs ha, toMode_same hm]

theorem modeSetRequest_active (h : b.toNat = Mode.active.code) (hm : s.mgmt.mode ≠ .active) : modeSetRequest b s =
    if s.mgmt.addrMode = .commissioning then (s, refuse .wrongMode [])
    else
      match modeCheck s.tab with
      | .inconsistent n i =>
        (keepCheck (.inconsistent n i) s, refuse .inconsistent [BitVec.ofNat 8 n, BitVec.ofNat 8 i])
      | c => (changeMode .active (keepCheck c s), accept []) := by
  rw [modeSetRequest, modeOf?_code h]
  refine (if_neg hm).trans ?_
  split
  · rfl
  · cases modeCheck s.tab <;> rfl

theorem modeSetRequest_replies : (modeSetRequest b s).1.line.replyQueue = s.line.replyQueue := by
  have ht : ∀ m, (toMode m s).line.replyQueue = s.line.replyQueue := fun m => by rw [toMode_line]
  unfold modeSetRequest
  split
  · rfl
  · rfl
  · exact ht _
  · exact ht _
  · split
    · rfl
    · split
      · rfl
      · dsimp only
        split
        · rfl
        · rw [changeMode_line]
          rfl
        · rw [changeMode_line]
          rfl

end

/-- The outcome of the checks has no part in a change of mode. -/
theorem changeMode_keepCheck (m : Mode) (c : ModeCheck) (s : Part) :
    changeMode m (keepCheck c s) = keepCheck c (changeMode m s) := by
  by_cases h : s.mgmt.mode = .active
  · rw [changeMode_fromActive h, changeMode_fromActive (by exact h)]
    generalize leaveActive = g
    rfl
  · rw [changeMode_plant h, changeMode_plant (by exact h)]
    split <;> rfl

/-- MODE_SET to ACTIVE in SERVICE mode, by the outcome of the checks. -/
theorem modeSetRequest_service {b : Byte} {s : Part} (hb : b.toNat = Mode.active.code) (hm : s.mgmt.mode ≠ .active)
    (hs : s.mgmt.addrMode = .service) : (∀ n i : Nat, modeCheck s.tab = .inconsistent n i → modeSetRequest b s =
      (keepCheck (.inconsistent n i) s, refuse .inconsistent [BitVec.ofNat 8 n, BitVec.ofNat 8 i])) ∧
    (modeCheck s.tab = .passed → modeSetRequest b s = (keepCheck .passed (changeMode .active s), accept [])) := by
  have hn : ¬s.mgmt.addrMode = .commissioning := by rw [hs]; exact nofun
  rw [modeSetRequest_active hb hm, if_neg hn]
  refine ⟨fun n i h => by rw [h], fun h => ?_⟩
  rw [h, ← changeMode_keepCheck]

/-- MODE_SET to another mode than the present and ACTIVE; the outcome of the checks stands. -/
theorem modeSetRequest_changes {b : Byte} {s : Part} {m : Mode} (hb : b.toNat = m.code) (hs : m ≠ .settling)
    (ha : m ≠ .active) (hm : s.mgmt.mode ≠ m) :
    modeSetRequest b s = (keepCheck s.mgmt.lastCheck (changeMode m s), accept []) := by
  rw [modeSetRequest_inactive hb hs ha, toMode_other hm, ← changeMode_keepCheck]
  rfl

section
variable {s : State} {f : Frame} {t : Part} {q : Reply} {b : Byte}

/-- A MODE_SET whose checks fail keeps their outcome and is refused. -/
theorem answered_check {a : Answer} {c : ModeCheck} (ha : Settled s.part.plant) (hr : a.status = .refused)
    (hA : Answered f (carriedOut (.modeSet b) (keepCheck c s.part.heard) a) t q) : Replied s.part t q ∧
      t.mgmt = { s.part.mgmt with lastCheck := c } ∧ Answered f { s.part.heard with mgmt := t.mgmt } t q ∧
      SameRecords s.part.plant t.plant ∧ SameLine s.part.line t.line ∧ t.tab = s.part.tab ∧ t.cal = s.part.cal ∧
      t.levels = s.part.levels := by
  have hset : settlePart (keepCheck c s.part.heard) = keepCheck c s.part.heard := settlePart_settled ha
  rw [carriedOut, if_pos hr, hset] at hA
  obtain ⟨hrec, -, hl, -, hq, -, -, -, htab, hcal, hlev, hm, -⟩ := answered_only (by exact ha) hA
  have hm' : t.mgmt = { s.part.mgmt with lastCheck := c } := hm
  rw [hm']
  exact ⟨hq, rfl, hA, hrec, hl, htab, hcal, hlev⟩

/-- A MODE_SET that changes the mode, with the outcome of the checks as it is kept. -/
theorem answered_mode {m : Mode} {c : ModeCheck}
    (hA : Answered f (carriedOut (.modeSet b) (keepCheck c (changeMode m s.part.heard)) (accept [])) t q) :
    t.mgmt = { s.part.mgmt with mode := m, settleT := none, lastCheck := c } ∧ Replied s.part t q ∧
      Answered f { settlePart (changeMode m s.part.heard) with mgmt := t.mgmt } t q ∧
      SameRecords (settlePart (changeMode m s.part.heard)).plant t.plant ∧ SameLine s.part.line t.line ∧
      t.tab = s.part.tab ∧ t.cal = s.part.cal ∧ t.levels = s.part.levels := by
  have e : carriedOut (.modeSet b) (keepCheck c (changeMode m s.part.heard)) (accept []) =
      keepCheck c (settlePart (changeMode m s.part.heard)) := by
    rw [carriedOut, if_neg nofun]
    generalize changeMode m s.part.heard = u
    rfl
  rw [e] at hA
  have hs : Settled (keepCheck c (settlePart (changeMode m s.part.heard))).plant := settled_settlePart _
  obtain ⟨hrec, -, hl, -, hq, -, -, -, htab, hcal, hlev, hm, -⟩ := answered_only hs hA
  have hm' : t.mgmt = { (changeMode m s.part.heard).mgmt with lastCheck := c } := hm
  have hline : (changeMode m s.part.heard).line = s.part.heard.line := changeMode_line m s.part.heard
  have hl' : SameLine (changeMode m s.part.heard).line t.line := hl
  have hq' : t.line.replyQueue = (changeMode m s.part.heard).line.replyQueue ++ [q] := hq
  rw [hline] at hl' hq'
  refine ⟨by rw [hm', changeMode_mgmt]; rfl, hq', by rw [hm']; exact hA, hrec, hl',
    htab.trans (changeMode_tab m s.part.heard), hcal.trans (changeMode_cal m s.part.heard),
    hlev.trans (changeMode_levels m s.part.heard)⟩

end

/-- Settles O53: the least failing check, the assigned slots, and the outcomes of MODE_SET. -/
theorem modeSetTaken : Obligations.ModeSetTaken := by
  refine ⟨fun tab bad hbad => ?_, fun tab p k hk => ?_, ?_⟩
  · have hb : ∀ n i, bad n i ↔ CheckFails tab n i := fun n i => by
      rw [hbad, CheckFails]
      simp only [check1Fails_iff, check2Fails_iff, check3Fails_iff, check4Fails_iff, general_invalid_iff]
    rcases modeCheck_cases tab with ⟨e, hno⟩ | ⟨n, i, e, hf, hmin⟩
    · exact ⟨fun _ => e, fun n i h => absurd ((hb n i).1 h) (hno n i)⟩
    · refine ⟨fun hno => absurd ((hb n i).2 hf) (hno n i), fun m j h hm => ?_⟩
      have h1 := hmin m j ((hb m j).1 h)
      have h2 := hm n i ((hb n i).2 hf)
      obtain ⟨rfl, rfl⟩ : n = m ∧ i = j := by omega
      exact e
  · obtain rfl : stageOf p = k := Fin.ext hk.symm
    exact ⟨rfl, assigned_iff⟩
  · rintro h b s f ha rfl
    obtain ⟨t, ht, hp, hA⟩ := request_carried (code := 0x04) (args := [b]) (r := .modeSet b) ha rfl
      (modeSetRequest_replies (s := s.part.heard))
    refine ⟨t, ht, hp, fun hb => ?_, fun hb => ?_, fun m hns hb => ⟨fun hm => ?_, fun hm => ⟨fun hact hcom => ?_,
      fun hact hsv n i hc => ?_, fun hact hsv hc => ?_, fun hna => ?_, fun hto => ?_⟩⟩⟩
    · exact onlyReply_of_heard ha (.inl rfl) (hA _ _ (modeSetRequest_bad hb))
    · exact onlyReply_of_heard ha (.inl rfl) (hA _ _ (modeSetRequest_settling hb))
    · exact onlyReply_of_heard (r := .modeSet b) ha (.inr rfl) (hA _ _ (modeSetRequest_same hb hns hm))
    all_goals have hm' : s.part.heard.mgmt.mode ≠ m := hm
    · subst hact
      exact onlyReply_of_heard ha (.inl rfl) (hA _ _ ((modeSetRequest_active hb hm').trans (if_pos hcom)))
    · subst hact
      exact answered_check ha.2.1 rfl (hA _ _ ((modeSetRequest_service hb hm' hsv).1 n i hc))
    · subst hact
      obtain ⟨hmg, -⟩ := answered_mode (hA _ _ ((modeSetRequest_service hb hm' hsv).2 hc))
      exact hmg
    · obtain ⟨hmg, -⟩ := answered_mode (hA _ _ (modeSetRequest_changes hb hns hna hm'))
      exact hmg
    · by_cases hact : m = .active
      · subst hact
        obtain ⟨hsv, hc⟩ := hto.resolve_left fun hn => hn rfl
        obtain ⟨-, hrest⟩ := answered_mode (hA _ _ ((modeSetRequest_service hb hm' hsv).2 hc))
        exact hrest
      · obtain ⟨-, hrest⟩ := answered_mode (hA _ _ (modeSetRequest_changes hb hns hact hm'))
        exact hrest

end Sys2Proof.Machine
end

section
/-!
PROOFS. The reads: the words of every table, live and of settings, and what STATUS_READ and TABLE_READ answer
(section 11.4 and section 11.8).
-/

namespace Sys2Proof.Machine

/-! ### Words -/

theorem toList_getD {α : Type} {n : Nat} (v : Vector α n) (i : Fin n) (d : α) : v.toList.getD i.val d = v[i] := by
  simp [List.getD_eq_getElem?_getD]

/-- The time remaining on a timer is the low word of the difference of the uptimes (R20, R51, R94). -/
theorem remaining_word (now e : Uptime) : natWord (remaining now (some e)) = (e - now).extractLsb' 0 16 := by
  refine BitVec.eq_of_toNat_eq ?_
  simp [natWord, remaining, BitVec.extractLsb'_toNat]

theorem command_word (q : Pump) : natWord (commandCode q.cmd) =
    if q.holds .run = true then 1 else if q.holds .stop = true then 2 else 0 := by
  cases h : q.cmd with
  | none => simp [commandCode, Pump.holds, h, natWord]
  | some c =>
    obtain ⟨a, g, n⟩ := c
    cases a <;> simp [commandCode, Pump.holds, h, natWord]

theorem pumpFlags_eq (b : Bool) (q : Pump) : pumpFlags b q =
    flagBit b 0 ||| flagBit q.localSel 1 ||| flagBit q.warn 2 |||
      flagBit (q.cmd.map Command.progress == some .inTransit) 3 ||| flagBit (q.cmd.map Command.progress == some .sent) 4 |||
      flagBit q.uncommanded 5 ||| flagBit q.stopRecorded 6 ||| flagBit q.minRunMet 7 := by
  unfold pumpFlags
  cases h : q.cmd <;> rfl

/-- Twelve places of a history of at most twelve, the unused ones 0 (R58). -/
theorem history_places {h : List Uptime} (hl : h.length ≤ 12) :
    ((List.range 12).map fun i => h.getD i 0) = h ++ List.replicate (12 - h.length) 0 := by
  refine List.ext_getElem (by simp; omega) fun i h1 h2 => ?_
  rw [List.getElem_map, List.getElem_range]
  by_cases hi : i < h.length
  · rw [List.getElem_append_left hi, List.getD_eq_getElem h 0 hi]
  · rw [List.getElem_append_right (Nat.not_lt.1 hi), List.getElem_replicate, List.getD_eq_default h 0 (Nat.not_lt.1 hi)]

theorem pump_words {q : Pump} (hl : q.history.length ≤ 12) (b : Bool) : q.words b =
    [natWord q.state.code, natWord q.owner.code, natWord q.feedback.code, natWord q.cause.code, natWord q.retries,
      if q.holds .run = true then 1 else if q.holds .stop = true then 2 else 0,
      flagBit b 0 ||| flagBit q.localSel 1 ||| flagBit q.warn 2 |||
        flagBit (q.cmd.map Command.progress == some .inTransit) 3 |||
        flagBit (q.cmd.map Command.progress == some .sent) 4 ||| flagBit q.uncommanded 5 |||
        flagBit q.stopRecorded 6 ||| flagBit q.minRunMet 7] ++
      longWords q.runStart ++ longWords q.stopAt ++ [natWord q.history.length] ++
      (q.history ++ List.replicate (12 - q.history.length) 0).flatMap longWords := by
  rw [← history_places hl, List.flatMap_map, Pump.words, command_word, pumpFlags_eq]

/-- The words of an entry within its table are as many as its table's entries have (section 11.4). -/
theorem tableEntry_length {s : Part} {t i : Nat} (ht : t ≤ 14) (hi : i < tableSize t) :
    (tableEntry s t i).length = entryWords t := by
  interval_cases t
  pick_goal 11
  · have : slotOf? i = some ⟨i, hi⟩ := dif_pos hi
    simp only [tableEntry, pumpWords, this]
    simp [Pump.words, longWords, entryWords]
  pick_goal 12
  · simp only [tableEntry]
    cases s.plant.queue[i]? <;> rfl
  all_goals rfl

theorem readRun_length {s : Part} {t first n : Nat} (ht : t ≤ 14) : (readRun s t first n).length = n * entryWords t := by
  have hpos : 0 < tableSize t := by interval_cases t <;> decide
  unfold readRun
  rw [List.length_flatMap, List.map_congr_left (g := fun _ => entryWords t)]
  · simp
  · exact fun i _ => tableEntry_length ht (Nat.mod_lt _ hpos)

/-! ### The entries of every table -/

theorem longWords_of {long : Uptime → List Word} (h : ∀ u : Uptime, long u = [u.extractLsb' 16 16, u.extractLsb' 0 16]) :
    long = longWords := funext h

theorem left_of {s : Part} {left : Timer → Word}
    (h : left none = 0 ∧ ∀ e : Uptime, left (some e) = (e - s.cal.uptime).extractLsb' 0 16) (t : Timer) :
    left t = natWord (remaining s.cal.uptime t) := by
  cases t with
  | none => exact h.1
  | some e => rw [h.2, remaining_word]

theorem tableEntry_pump {s : Part} (i : Fin 32) : tableEntry s 10 i.val = (s.plant.pump i).words (assigned s.tab i) := by
  simp only [tableEntry, pumpWords, slotOf?_val]

theorem tableEntry_request {s : Part} {i : Nat} {e : Request} (h : s.plant.queue[i]? = some e) : tableEntry s 12 i =
    [flagBit true 0 ||| flagBit e.blocking 1, natWord e.pump.val, if e.feeder = .b then 1 else 0,
      natWord e.cls.code, natWord e.bypass, natWord e.rank] := by
  simp only [tableEntry, h, requestWords]
  cases e.feeder <;> rfl

/-! ### STATUS_READ and TABLE_READ (R164, R172) -/

section
variable {h : ReqHead} {s : State} (ha : Asked h s.part)
include ha

/-- A request that is answered without a change. -/
theorem request_unchanged {code : Byte} {args : List Byte} {r : ManageRequest} {a : Answer}
    (hw : (manageFrame h code args).wf = true) (hc : carryOut r s.part.heard = (s.part.heard, a))
    (hr : ∀ u : Part, afterReply r u = u) :
    ∃ t : State, act (requestFrame h code args (.request h.tag r)) s = .next t ∧ t.pending = s.pending ∧
      OnlyReply (manageFrame h code args) s.part t.part (replyOf h.source h.tag a) := by
  obtain ⟨t, ht, hp, hA⟩ := request_carried ha hw (congrArg (fun o : Part × Answer => o.1.line.replyQueue) hc)
  exact ⟨t, ht, hp, onlyReply_of_heard ha (.inr (hr _)) (hA _ _ hc)⟩

theorem tableRead_answered (table first count : Byte) (offset : Word) :
    ∃ t : State, exec (.tableRead h table first count offset) s = .next t ∧ t.pending = s.pending ∧
      OnlyReply (manageFrame h 0x02 ([table, first, count] ++ wordBytes offset)) s.part t.part
        (replyOf h.source h.tag (tableReadAnswer s.part.heard table.toNat first.toNat count.toNat offset.toNat)) :=
  request_unchanged (code := 0x02) (args := [table, first, count] ++ wordBytes offset)
    (r := .tableRead table first count offset) ha rfl rfl fun _ => rfl

end

theorem tableReadAnswer_bad {s : Part} {t first n offset : Nat} (ht : t ≤ 14)
    (h : tableSize t ≤ first ∨ n = 0 ∨ tableSize t < n ∨ n * entryWords t ≤ offset) :
    tableReadAnswer s t first n offset = refuse .badIndex [] := by
  rw [tableReadAnswer, if_neg (Nat.not_lt.2 ht), if_pos h]

theorem tableReadAnswer_good {s : Part} {t first n offset : Nat} (ht : t ≤ 14)
    (h : ¬(tableSize t ≤ first ∨ n = 0 ∨ tableSize t < n ∨ n * entryWords t ≤ offset)) :
    tableReadAnswer s t first n offset = accept (wordsBytes
      (natWord (readRun s t first n).length :: ((readRun s t first n).drop offset).take 27)) := by
  rw [tableReadAnswer, if_neg (Nat.not_lt.2 ht), if_neg h]

/-- Settles O51: the answers of both reads, and the words of each table. -/
theorem readsAnswered : Obligations.ReadsAnswered := by
  refine ⟨fun h s ha => ⟨?_, ?_⟩, ?_, ⟨rfl, rfl, fun _ _ => rfl⟩, by decide⟩
  · exact request_unchanged (code := 0x01) (args := []) (r := .statusRead) ha rfl rfl fun _ => rfl
  · rintro table first count offset f rfl
    obtain ⟨t, ht, hp, ho⟩ := tableRead_answered ha table first count offset
    refine ⟨t, ht, hp, fun hb => ?_, fun hb => ⟨fun hi => ?_, fun h1 h2 h3 h4 run hrun => ?_⟩⟩
    · rw [tableReadAnswer, if_pos hb] at ho
      exact ho
    · rw [tableReadAnswer_bad hb (hi.imp id (Or.imp (congrArg BitVec.toNat) id))] at ho
      exact ho
    · have hn : count.toNat ≠ 0 := fun h0 => h2 (BitVec.eq_of_toNat_eq h0)
      obtain rfl : run = readRun s.part.heard table.toNat first.toNat count.toNat := hrun
      rw [tableReadAnswer_good hb (by omega)] at ho
      exact ⟨readRun_length hb, ho⟩
  · intro s long left hlong hleft
    obtain rfl := longWords_of hlong
    have hl := left_of hleft
    refine ⟨?_, ?_, fun i => ⟨fun hi => ?_, fun e he => tableEntry_request he⟩, ?_, fun l => ?_, fun i => ?_, fun i => ?_,
      fun i => ?_, fun i => ?_, rfl, rfl, fun i => ?_, fun i => ?_, fun i => ?_, fun i => ?_, rfl, fun i => ?_⟩
    · rintro i q rfl hq
      rw [tableEntry_pump, pump_words hq]
    · rintro k l rfl
      rw [hl]
      exact congrArg (StageLive.words s.cal.uptime) (toList_getD s.plant.stages k {})
    · simp only [tableEntry, List.getElem?_eq_none hi, requestWords]
    · rintro r l rfl
      exact congrArg ResLive.words (toList_getD s.levels r {})
    · rw [hl]
      rfl
    · exact congrArg PointEntry.words (toList_getD s.tab.t0 i {})
    · exact congrArg ResEntry.words (toList_getD s.tab.t1 i {})
    · exact congrArg StageEntry.words (toList_getD s.tab.t2 i {})
    · exact congrArg PumpEntry.words (toList_getD s.tab.t3 i {})
    · exact congrArg WindowEntry.words (toList_getD s.tab.t5 i {})
    · exact congrArg (fun d : Fin 2 => [natWord d.val]) (toList_getD s.tab.t6 i 0)
    · exact congrArg MirrorEntry.words (toList_getD s.tab.t7 i {})
    · exact congrArg SourceEntry.words (toList_getD s.tab.t8 i {})
    · exact congrArg longWords (toList_getD s.tab.t14 i 0)

end Sys2Proof.Machine
end

section
/-!
PROOFS. The tests that every request passes, in their order, and the broadcasts (section 11.3).
-/

namespace Sys2Proof.Machine

/-! ### What the part reads of a payload (R162) -/

/-- A known request code, by its number. -/
theorem knownCode {code : Byte} (h1 : 1 ≤ code.toNat) (h14 : code.toNat ≤ 14) :
    ∃ n, 1 ≤ n ∧ n ≤ 14 ∧ code = BitVec.ofNat 8 n :=
  ⟨code.toNat, h1, h14, by simp⟩

theorem parseArguments_read {code : Byte} (h1 : 1 ≤ code.toNat) (h14 : code.toNat ≤ 14) (tag : Byte) (args : List Byte) :
    (parseArguments code tag args).code? = some code ∧ (parseArguments code tag args).tag? = some tag := by
  obtain ⟨n, hn1, hn14, rfl⟩ := knownCode h1 h14
  clear h1 h14
  interval_cases n
  all_goals rcases args with _ | ⟨a, _ | ⟨b, _ | ⟨c, _ | ⟨d, _ | ⟨e, _ | ⟨f, rest⟩⟩⟩⟩⟩⟩ <;> exact ⟨rfl, rfl⟩

theorem parseManage_read (l : List Byte) : (parseManage l).code? = l.head? ∧ (parseManage l).tag? = l[1]? := by
  match l with
  | [] => exact ⟨rfl, rfl⟩
  | [_] => exact ⟨rfl, rfl⟩
  | code :: tag :: args =>
    rw [parseManage]
    split
    · next h => exact parseArguments_read h.1 h.2 tag args
    · exact ⟨rfl, rfl⟩

theorem parseManage_code? (l : List Byte) : (parseManage l).code? = l.head? := (parseManage_read l).1

theorem parseManage_tag? (l : List Byte) : (parseManage l).tag? = l[1]? := (parseManage_read l).2

theorem parseManage_short {l : List Byte} (h : l.length < 2) : ∃ c, parseManage l = .short c := by
  match l, h with
  | [], _ => exact ⟨none, rfl⟩
  | [c], _ => exact ⟨some c, rfl⟩

theorem parseManage_unknown {code tag : Byte} {args : List Byte} (h : code.toNat < 1 ∨ 14 < code.toNat) :
    parseManage (code :: tag :: args) = .unknown code tag := if_neg (by omega)

/-! A reading that is the same for every list but those of one length. -/

section
variable {α : Type} {g : List Byte → α} {b : α} {l : List Byte}

theorem reading_ne_zero (h : ∀ x l, g (x :: l) = b) (hl : l.length ≠ 0) : g l = b := by
  match l with
  | [] => exact absurd rfl hl
  | x :: l => exact h x l

theorem reading_ne_one (h0 : g [] = b) (h : ∀ x y l, g (x :: y :: l) = b) (hl : l.length ≠ 1) : g l = b := by
  match l with
  | [] => exact h0
  | [_] => exact absurd rfl hl
  | x :: y :: l => exact h x y l

theorem reading_ne_two (h0 : g [] = b) (h1 : ∀ x, g [x] = b) (h : ∀ x y z l, g (x :: y :: z :: l) = b)
    (hl : l.length ≠ 2) : g l = b := by
  match l with
  | [] => exact h0
  | [x] => exact h1 x
  | [_, _] => exact absurd rfl hl
  | x :: y :: z :: l => exact h x y z l

end

/-- Arguments of a wrong length are read as such (R163). -/
theorem parseManage_badArguments {code tag : Byte} {args : List Byte} (h1 : 1 ≤ code.toNat) (h14 : code.toNat ≤ 14)
    (h3 : code = 0x03 → args.length < 3)
    (hn : code ≠ 0x03 → ∀ n ∈ [(0x01, 0), (0x02, 5), (0x04, 1), (0x05, 2), (0x06, 4), (0x07, 1), (0x08, 1), (0x09, 2),
      (0x0A, 1), (0x0B, 0), (0x0C, 0), (0x0D, 0), (0x0E, 0)], code.toNat = n.1 → args.length ≠ n.2) :
    parseManage (code :: tag :: args) = .badArguments code tag := by
  refine (if_pos ⟨h1, h14⟩).trans ?_
  obtain ⟨n, hn1, hn14, rfl⟩ := knownCode h1 h14
  clear h1 h14
  interval_cases n
  · exact reading_ne_zero (fun _ _ => rfl) (hn (by decide) (1, 0) (by decide) rfl)
  · have hl := hn (by decide) (2, 5) (by decide) rfl
    match args with
    | [] | [_] | [_, _] | [_, _, _] | [_, _, _, _] | _ :: _ :: _ :: _ :: _ :: _ :: _ => rfl
    | [_, _, _, _, _] => exact absurd rfl hl
  · have hl := h3 rfl
    match args with
    | [] | [_] | [_, _] => rfl
    | _ :: _ :: _ :: _ => simp only [List.length_cons] at hl; omega
  · exact reading_ne_one rfl (fun _ _ _ => rfl) (hn (by decide) (4, 1) (by decide) rfl)
  · exact reading_ne_two rfl (fun _ => rfl) (fun _ _ _ _ => rfl) (hn (by decide) (5, 2) (by decide) rfl)
  · have hl := hn (by decide) (6, 4) (by decide) rfl
    match args with
    | [] | [_] | [_, _] | [_, _, _] | _ :: _ :: _ :: _ :: _ :: _ => rfl
    | [_, _, _, _] => exact absurd rfl hl
  · exact reading_ne_one rfl (fun _ _ _ => rfl) (hn (by decide) (7, 1) (by decide) rfl)
  · exact reading_ne_one rfl (fun _ _ _ => rfl) (hn (by decide) (8, 1) (by decide) rfl)
  · exact reading_ne_two rfl (fun _ => rfl) (fun _ _ _ _ => rfl) (hn (by decide) (9, 2) (by decide) rfl)
  · exact reading_ne_one rfl (fun _ _ _ => rfl) (hn (by decide) (10, 1) (by decide) rfl)
  · exact reading_ne_zero (fun _ _ => rfl) (hn (by decide) (11, 0) (by decide) rfl)
  · exact reading_ne_zero (fun _ _ => rfl) (hn (by decide) (12, 0) (by decide) rfl)
  · exact reading_ne_zero (fun _ _ => rfl) (hn (by decide) (13, 0) (by decide) rfl)
  · exact reading_ne_zero (fun _ _ => rfl) (hn (by decide) (14, 0) (by decide) rfl)

/-! ### Directed requests (R162) -/

section
variable {source : Byte} {p : Parsed} {s : Part}

theorem takeDirected_held (h : s.line.checkHold = true) (hc : p.code? ≠ some 0x0C) :
    takeDirected source p s = refuseHeld source p s := by
  unfold takeDirected
  exact if_pos ⟨h, hc⟩

theorem takeDirected_full (h : s.line.checkHold = true → p.code? = some 0x0C) (hq : replyFull s = true) :
    takeDirected source p s = s := by
  unfold takeDirected
  rw [if_neg fun hh => hh.2 (h hh.1), if_pos hq]

/-- Requests that are not carried out, with room for a reply. -/
theorem takeDirected_room (h : s.line.checkHold = true → p.code? = some 0x0C) (hq : replyFull s = false) :
    (∀ c, p = .short c → takeDirected source p s = s) ∧
    (∀ c tag, p = .unknown c tag →
      takeDirected source p s = enterReply (replyOf source tag (refuse .unknownRequest [])) s) ∧
    (∀ c tag, p = .badArguments c tag →
      takeDirected source p s = enterReply (replyOf source tag (refuse .illegal [])) s) := by
  unfold takeDirected
  rw [if_neg fun hh => hh.2 (h hh.1), if_neg (Bool.eq_false_iff.1 hq)]
  exact ⟨fun _ e => by rw [e], fun _ _ e => by rw [e], fun _ _ e => by rw [e]⟩

/-- The refusal under a check hold; the tag of its reply is free where the payload holds none. -/
theorem refuseHeld_eq (source : Byte) (p : Parsed) (s : Part) : ∃ (r : Reply) (n : Nat),
    refuseHeld source p s = enterReply r { s with free := n } ∧ r.dest = source ∧ r.status = 2 ∧
      r.reason = Reason.checkHold.code ∧ r.data = [] ∧ r.restart = false ∧ ∀ tag, p.tag? = some tag → r.tag = tag := by
  unfold refuseHeld
  cases h : p.tag? with
  | none => exact ⟨_, _, rfl, rfl, rfl, rfl, rfl, rfl, nofun⟩
  | some tag => exact ⟨_, s.free, rfl, rfl, rfl, rfl, rfl, rfl, fun _ e => by cases e; rfl⟩

end

theorem enterReply_only (r : Reply) (s : Part) : enterReply r s =
    { s with line := { s.line with replyQueue := (enterReply r s).line.replyQueue } } := by
  unfold enterReply
  split <;> rfl

theorem replyFull_iff (s : Part) : replyFull s = true ↔ replyCapacity ≤ s.line.replyQueue.length := decide_eq_true_iff

theorem replyFull_eq_false {s : Part} : replyFull s = false ↔ s.line.replyQueue.length < replyCapacity := by
  rw [← Bool.not_eq_true, replyFull_iff, Nat.not_le]

theorem enterReply_queue (r : Reply) (u : Part) : (enterReply r u).line.replyQueue =
    if replyCapacity ≤ u.line.replyQueue.length then u.line.replyQueue else u.line.replyQueue ++ [r] := by
  unfold enterReply
  by_cases h : replyCapacity ≤ u.line.replyQueue.length
  · rw [if_pos ((replyFull_iff u).2 h), if_pos h]
  · rw [if_neg fun hf => h ((replyFull_iff u).1 hf), if_neg h]

/-- A frame whose disposal enters a reply at most: the part is that of the frame heard, but for the reply. -/
theorem mirrored_reply {f : Frame} {u t : Part} {r : Reply} (hs : Settled u.plant) (h : Mirrored f (enterReply r u) t) :
    Mirrored f { u with line := { u.line with replyQueue := t.line.replyQueue }, free := t.free } t ∧
      t.line.replyQueue = (enterReply r u).line.replyQueue ∧ t.free = u.free := by
  have e := enterReply_only r u
  generalize (enterReply r u).line.replyQueue = q at e
  rw [e] at h
  obtain ⟨-, -, -, -, hq, -, -, -, -, -, -, -, hf, -⟩ := mirrored_only (by exact hs) h
  have hq : t.line.replyQueue = q := hq
  have hf : t.free = u.free := hf
  rw [hq, hf]
  exact ⟨h, rfl, rfl⟩

section
variable {f : Frame} {s : State} {t : State} (hs : Settled s.part.plant)
  (hA : Mirrored f (settlePart (takeDirected f.source (parseManage f.payload) s.part.heard)) t.part)
include hs hA

/-- A directed request under a check hold, but for ADDRESS_RELEASE (R162). -/
theorem directed_held (hh : s.part.line.checkHold = true) (hc : f.payload.head? ≠ some 0x0C) :
    Mirrored f { s.part.heard with
        line := { s.part.heard.line with replyQueue := t.part.line.replyQueue }, free := t.part.free } t.part ∧
      (replyCapacity ≤ s.part.line.replyQueue.length → t.part.line.replyQueue = s.part.line.replyQueue) ∧
      (s.part.line.replyQueue.length < replyCapacity → ∃ r : Reply,
        t.part.line.replyQueue = s.part.line.replyQueue ++ [r] ∧ r.dest = f.source ∧ r.status = 2 ∧
        r.reason = Reason.checkHold.code ∧ r.data = [] ∧ r.restart = false ∧
        ∀ tag : Byte, f.payload[1]? = some tag → r.tag = tag) := by
  rw [takeDirected_held (s := s.part.heard) hh (by rwa [parseManage_code?])] at hA
  obtain ⟨r, n, e, hd, hst, hre, hda, hrs, htag⟩ := refuseHeld_eq f.source (parseManage f.payload) s.part.heard
  have hset : Settled (enterReply r { s.part.heard with free := n }).plant := by
    rw [enterReply_only]
    exact hs
  rw [e, settlePart_settled hset] at hA
  obtain ⟨hm, hq, -⟩ := mirrored_reply (by exact hs) hA
  refine ⟨hm, fun hfull => ?_, fun hroom => ⟨r, ?_, hd, hst, hre, hda, hrs, fun tag ht => htag tag ?_⟩⟩
  · exact hq.trans ((enterReply_queue r _).trans (if_pos hfull))
  · exact hq.trans ((enterReply_queue r _).trans (if_neg (Nat.not_le.2 hroom)))
  · rw [parseManage_tag?, ht]

/-- A directed request that is refused with a reason, and changes nothing else. -/
theorem directed_refused (hroom : s.part.line.replyQueue.length < replyCapacity) {tag : Byte} {x : Reason}
    (e : takeDirected f.source (parseManage f.payload) s.part.heard =
      enterReply (replyOf f.source tag (refuse x [])) s.part.heard) :
    Mirrored f { s.part.heard with line := { s.part.heard.line with replyQueue := t.part.line.replyQueue } } t.part ∧
      t.part.line.replyQueue.drop s.part.line.replyQueue.length =
        [{ dest := f.source, status := 2, reason := x.code, tag := tag, data := [], restart := false }] := by
  have hset : Settled (enterReply (replyOf f.source tag (refuse x [])) s.part.heard).plant := by
    rw [enterReply_only]
    exact hs
  rw [e, settlePart_settled hset] at hA
  obtain ⟨hm, hq, hf⟩ := mirrored_reply (by exact hs) hA
  have hq' : t.part.line.replyQueue = s.part.line.replyQueue ++ [replyOf f.source tag (refuse x [])] :=
    hq.trans ((enterReply_queue _ _).trans (if_neg (Nat.not_le.2 hroom)))
  refine ⟨?_, by rw [hq', List.drop_left]; rfl⟩
  rw [hf] at hm
  exact hm

theorem directed_nothing (e : takeDirected f.source (parseManage f.payload) s.part.heard = s.part.heard) :
    Mirrored f s.part.heard t.part := by
  have hset : settlePart s.part.heard = s.part.heard := settlePart_settled hs
  rwa [e, hset] at hA

end

/-- The tests of a directed request in their order (R162). -/
theorem directed_tests {f : Frame} {s : State} (hp : s.part.power = .on) (hs : Settled s.part.plant) (hf : f.wf = true)
    (hk : f.kind = kindManage) (hd : f.dest = s.part.address) : ∃ (t : State) (answer : List Reply),
      exec (.goodFrameOnU f) s = .next t ∧ t.pending = s.pending ∧
      (answer = t.part.line.replyQueue.drop s.part.line.replyQueue.length) ∧
      (s.part.line.checkHold = true → f.payload.head? ≠ some 0x0C → Mirrored f { s.part.heard with
          line := { s.part.heard.line with replyQueue := t.part.line.replyQueue }, free := t.part.free } t.part ∧
        (replyCapacity ≤ s.part.line.replyQueue.length → t.part.line.replyQueue = s.part.line.replyQueue) ∧
        (s.part.line.replyQueue.length < replyCapacity → ∃ r : Reply,
          t.part.line.replyQueue = s.part.line.replyQueue ++ [r] ∧ r.dest = f.source ∧ r.status = 2 ∧
          r.reason = Reason.checkHold.code ∧ r.data = [] ∧ r.restart = false ∧
          ∀ tag : Byte, f.payload[1]? = some tag → r.tag = tag)) ∧
      ((s.part.line.checkHold = true → f.payload.head? = some 0x0C) →
        (replyCapacity ≤ s.part.line.replyQueue.length ∨ f.payload.length < 2 → Mirrored f s.part.heard t.part) ∧
        (s.part.line.replyQueue.length < replyCapacity → ∀ (code tag : Byte) (args : List Byte),
          f.payload = code :: tag :: args →
          (code.toNat < 1 ∨ 14 < code.toNat → Mirrored f { s.part.heard with
              line := { s.part.heard.line with replyQueue := t.part.line.replyQueue } } t.part ∧
            answer = [{ dest := f.source, status := 2, reason := Reason.unknownRequest.code, tag := tag,
                        data := [], restart := false }]) ∧
          (1 ≤ code.toNat → code.toNat ≤ 14 → (code = 0x03 → args.length < 3) →
            (code ≠ 0x03 → ∀ n ∈ [(0x01, 0), (0x02, 5), (0x04, 1), (0x05, 2), (0x06, 4), (0x07, 1), (0x08, 1),
              (0x09, 2), (0x0A, 1), (0x0B, 0), (0x0C, 0), (0x0D, 0), (0x0E, 0)],
              code.toNat = n.1 → args.length ≠ n.2) →
            Mirrored f { s.part.heard with
              line := { s.part.heard.line with replyQueue := t.part.line.replyQueue } } t.part ∧
            answer = [{ dest := f.source, status := 2, reason := Reason.illegal.code, tag := tag,
                        data := [], restart := false }]))) := by
  obtain ⟨t, ht, hpd, hA⟩ : ∃ t : State, exec (.goodFrameOnU f) s = .next t ∧ t.pending = s.pending ∧
      Mirrored f (settlePart (takeDirected f.source (parseManage f.payload) s.part.heard)) t.part :=
    ⟨_, exec_directed hp hf hk hd, rfl, rfl⟩
  refine ⟨t, _, ht, hpd, rfl, directed_held hs hA, fun ho => ?_⟩
  have ho' : s.part.heard.line.checkHold = true → (parseManage f.payload).code? = some 0x0C :=
    fun h => by rw [parseManage_code?]; exact ho h
  refine ⟨fun hn => directed_nothing hs hA ?_, fun hroom code tag args hpl => ⟨fun hc => ?_, fun h1 h14 h3 hn => ?_⟩⟩
  · by_cases hfull : replyFull s.part.heard = true
    · exact takeDirected_full ho' hfull
    · have hsh := hn.resolve_left fun h => hfull ((replyFull_iff _).2 h)
      obtain ⟨c, hc⟩ := parseManage_short hsh
      exact (takeDirected_room ho' (Bool.eq_false_iff.2 hfull)).1 c hc
  · exact directed_refused hs hA hroom ((takeDirected_room ho' (replyFull_eq_false.2 hroom)).2.1 code tag
      (by rw [hpl, parseManage_unknown hc]))
  · exact directed_refused hs hA hroom ((takeDirected_room ho' (replyFull_eq_false.2 hroom)).2.2 code tag
      (by rw [hpl, parseManage_badArguments h1 h14 h3 hn]))

/-- Settles the second part of O50: a code outside 01h..0Eh. -/
theorem unknownRequest_refused {h : ReqHead} {code : Byte} {args : List Byte} {s : State} (ha : Asked h s.part)
    (hw : (Instr.unknownRequest h code args).wf = true) :
    ∃ t : State, exec (.unknownRequest h code args) s = .next t ∧ t.pending = s.pending ∧
      OnlyReply (manageFrame h code args) s.part t.part (replyTo h .refused Reason.unknownRequest.code []) := by
  obtain ⟨hp, hs, hd, hh, hq⟩ := ha
  simp only [Instr.wf, Bool.and_eq_true, Bool.not_eq_true', Bool.and_eq_false_iff, decide_eq_true_eq,
    decide_eq_false_iff_not] at hw
  obtain ⟨hlen, hcode⟩ := hw
  have hwf : (manageFrame h code args).wf = true := decide_eq_true (by
    show (code :: h.tag :: args).length ≤ maxPayload
    simp only [List.length_cons]
    omega)
  have hread : parseManage (code :: h.tag :: args) = .unknown code h.tag := parseManage_unknown (by omega)
  have hroom : replyFull s.part.heard = false := replyFull_eq_false.2 hq
  have e : takeDirected h.source (parseManage (code :: h.tag :: args)) s.part.heard =
      enterReply (replyTo h .refused Reason.unknownRequest.code []) s.part.heard :=
    (takeDirected_room (s := s.part.heard) (fun hc => absurd (hh.symm.trans hc) nofun) hroom).2.1 code h.tag hread
  have hx := exec_directed (f := manageFrame h code args) hp hwf rfl hd
  refine ⟨_, ((requestsAreFrames h s).2.2.2.2.2.2.2.2.2.2.2.2.2.2 code args).trans hx, rfl, ?_⟩
  have e' : takeDirected (manageFrame h code args).source (parseManage (manageFrame h code args).payload) s.part.heard =
      enterReply (replyTo h .refused Reason.unknownRequest.code []) s.part.heard := e
  rw [e', enterReply_room hroom, settlePart_settled (by exact hs)]
  rfl

/-! ### Broadcasts (R130, R162, R166) -/

section
variable {p : Parsed} {s : Part}

theorem takeBroadcast_held (h : s.line.checkHold = true) (hc : p.code? ≠ some 0x0C) : takeBroadcast p s = s := by
  unfold takeBroadcast
  exact if_pos ⟨h, hc⟩

theorem takeBroadcast_open (h : ¬(s.line.checkHold = true ∧ p.code? ≠ some 0x0C)) : takeBroadcast p s =
    match p with
    | .request tag r => if r.broadcastable then completeRequest false 0 tag r s else s
    | _ => s := by
  unfold takeBroadcast
  rw [if_neg h]
  cases p <;> rfl

/-- A broadcast that is none of the four is ignored. -/
theorem takeBroadcast_ignored (h : ∀ tag r, p = .request tag r → r.broadcastable = false) : takeBroadcast p s = s := by
  by_cases hh : s.line.checkHold = true ∧ p.code? ≠ some 0x0C
  · exact takeBroadcast_held hh.1 hh.2
  · rw [takeBroadcast_open hh]
    cases p with
    | request tag r => exact if_neg (Bool.eq_false_iff.1 (h tag r rfl))
    | _ => rfl

theorem takeBroadcast_request {tag : Byte} {r : ManageRequest} {u : Part} {a : Answer} (hb : r.broadcastable = true)
    (h : s.line.checkHold = false ∨ (Parsed.request tag r).code? = some 0x0C) (hc : carryOut r s = (u, a)) :
    takeBroadcast (.request tag r) s = carriedOut r u a := by
  rw [takeBroadcast_open, ← completeRequest_broadcast hc]
  · exact if_pos hb
  · rintro ⟨h1, h2⟩
    rcases h with h | h
    · exact absurd (h.symm.trans h1) nofun
    · exact h2 h

end

theorem broadcastable_code {tag : Byte} {r : ManageRequest} (h : r.broadcastable = true) :
    ∃ code ∈ [0x06#8, 0x08#8, 0x0B#8, 0x0C#8], (Parsed.request tag r).code? = some code := by
  cases r
  case clockSet => exact ⟨0x06#8, by decide, rfl⟩
  case noticeOff => exact ⟨0x08#8, by decide, rfl⟩
  case addressTake => exact ⟨0x0B#8, by decide, rfl⟩
  case addressRelease => exact ⟨0x0C#8, by decide, rfl⟩
  all_goals exact nomatch h

theorem carryOut_broadcast_replies {r : ManageRequest} (s : Part) (h : r.broadcastable = true) :
    (carryOut r s).1.line.replyQueue = s.line.replyQueue := by
  cases r
  case clockSet d m sec =>
    simp only [carryOut, clockSetRequest]
    split
    · rw [setClock_line, settlePart_line, boundaryEvent_line]
    · rfl
  case noticeOff c => simp only [carryOut, noticeOffRequest]; split <;> rfl
  case addressTake => simp only [carryOut, addressTakeRequest]; split <;> rfl
  case addressRelease => simp only [carryOut, addressReleaseRequest, toMode_line]
  all_goals exact nomatch h

/-- No broadcast changes the reply queue. -/
theorem takeBroadcast_replies (p : Parsed) (s : Part) :
    (settlePart (takeBroadcast p s)).line.replyQueue = s.line.replyQueue := by
  rw [settlePart_line]
  by_cases hh : s.line.checkHold = true ∧ p.code? ≠ some 0x0C
  · rw [takeBroadcast_held hh.1 hh.2]
  · rw [takeBroadcast_open hh]
    cases p with
    | request tag r =>
      dsimp only
      split
      · next hb =>
        obtain ⟨u, a, hc⟩ : ∃ u a, carryOut r s = (u, a) := ⟨_, _, rfl⟩
        have hq := carryOut_broadcast_replies s hb
        rw [hc] at hq
        rw [completeRequest_broadcast hc, carriedOut_line]
        exact hq
      · rfl
    | _ => rfl

/-- A broadcast ends with its mirroring (R131, R162). -/
theorem exec_broadcast {f : Frame} {s : State} (hp : s.part.power = .on) (hf : f.wf = true) (hk : f.kind = kindManage)
    (hd : f.dest = 0) (ha : s.part.address ≠ 0) : exec (.goodFrameOnU f) s = .next (s.endingAt (mirror .down f
      (settlePart (takeBroadcast (parseManage f.payload) s.part.heard)))) := by
  have hne : ¬f.dest = s.part.heard.address := fun h => ha (h.symm.trans hd)
  rw [exec_goodFrameU hp hf, disposeU, if_pos hk, takeManage, if_neg hne, if_pos hd]

section
variable {f : Frame} {s t : Part} (hs : Settled s.plant)
  (hA : Mirrored f (settlePart (takeBroadcast (parseManage f.payload) s.heard)) t)
include hA

/-- A broadcast that is carried out, by what it leaves. -/
theorem broadcast_done {tag : Byte} {r : ManageRequest} {u : Part} {a : Answer} (hp : parseManage f.payload = .request tag r)
    (hb : r.broadcastable = true) (h : s.line.checkHold = false ∨ (Parsed.request tag r).code? = some 0x0C)
    (hc : carryOut r s.heard = (u, a)) : Mirrored f (carriedOut r u a) t := by
  rwa [hp, takeBroadcast_request (s := s.heard) hb h hc, settlePart_settled (carriedOut_settled r u a)] at hA

include hs

theorem broadcast_nothing (e : takeBroadcast (parseManage f.payload) s.heard = s.heard) : Mirrored f s.heard t := by
  have hset : settlePart s.heard = s.heard := settlePart_settled hs
  rwa [e, hset] at hA

/-- A broadcast whose request cannot be read, or is none that a broadcast can carry, is ignored. -/
theorem broadcast_ignored (h : ∀ code ∈ f.payload.head?, code ∉ [0x06#8, 0x08#8, 0x0B#8, 0x0C#8]) :
    Mirrored f s.heard t := by
  refine broadcast_nothing hs hA (takeBroadcast_ignored fun tag r hp => Bool.eq_false_iff.2 fun hb => ?_)
  obtain ⟨code, hm, hc⟩ := broadcastable_code (tag := tag) hb
  refine h code ?_ hm
  rw [Option.mem_def, ← parseManage_code?, hp, hc]

/-- A broadcast of one of the four requests with arguments of a wrong length is ignored. -/
theorem broadcast_badLength {row : Byte × Nat} (hr : row ∈ [(0x06#8, 6), (0x08#8, 3), (0x0B#8, 2), (0x0C#8, 2)])
    (hh : f.payload.head? = some row.1) (hl : f.payload.length ≠ row.2) : Mirrored f s.heard t := by
  refine broadcast_nothing hs hA (takeBroadcast_ignored fun tag r hp => ?_)
  match hpl : f.payload with
  | [] => rw [hpl] at hh; cases hh
  | [c] => rw [hpl] at hp; cases hp
  | code :: tag' :: args =>
    rw [hpl] at hh hl hp
    cases hh
    have hbad : parseManage (row.1 :: tag' :: args) = .badArguments row.1 tag' := by
      have hargs : args.length + 2 ≠ row.2 := hl
      have hrow : ∀ row ∈ [(0x06#8, 6), (0x08#8, 3), (0x0B#8, 2), (0x0C#8, 2)], 1 ≤ row.1.toNat ∧ row.1.toNat ≤ 14 ∧
          row.1 ≠ 0x03 ∧ ∀ n ∈ [(0x01, 0), (0x02, 5), (0x04, 1), (0x05, 2), (0x06, 4), (0x07, 1), (0x08, 1), (0x09, 2),
          (0x0A, 1), (0x0B, 0), (0x0C, 0), (0x0D, 0), (0x0E, 0)], row.1.toNat = n.1 → row.2 = n.2 + 2 := by decide
      obtain ⟨h1, h14, h3, hlen⟩ := hrow row hr
      refine parseManage_badArguments h1 h14 (fun h => absurd h h3) fun _ n hn hc he => hargs ?_
      rw [hlen n hn hc, he]
    rw [hbad] at hp
    cases hp

end

theorem carriedOut_refused (r : ManageRequest) (u : Part) (x : Reason) (d : List Byte) :
    carriedOut r u (refuse x d) = settlePart u := if_pos rfl

theorem Calendar.eq_setTo {c c' : Calendar} {tab : Settings} {day : Fin 7} {minute second : Nat} (h : c' = { c with
      clockSet := true, day := day, minute := minute, second := second, boundaryDue := false, cls := c'.cls })
    (hc : c'.cls = classAt tab c') : c' = c.setTo tab day minute second := by
  have e : c'.cls = (c.setTo tab day minute second).cls := by
    rw [hc, h]
    rfl
  rw [h, e]
  rfl

section
variable {f : Frame} {s t : Part} (hs : Settled s.plant) (hh : s.line.checkHold = false)
  (hA : Mirrored f (settlePart (takeBroadcast (parseManage f.payload) s.heard)) t)
include hs hh hA

/-- ADDRESS_TAKE as a broadcast (R166). -/
theorem broadcast_take {tag : Byte} (hf : f.payload = [0x0B, tag]) : Mirrored f { s.heard with mgmt := { s.mgmt with
      addrMode := if s.tab.t9.service = 0 then s.mgmt.addrMode else .service } } t := by
  have hset : ∀ m, settlePart { s.heard with mgmt := m } = { s.heard with mgmt := m } := fun m => settlePart_settled hs
  have hp : parseManage f.payload = .request tag .addressTake := by rw [hf]; rfl
  by_cases hz : s.tab.t9.service = 0
  · have h := broadcast_done hA hp rfl (.inl hh) (u := s.heard) (if_pos hz)
    rw [if_pos hz]
    rw [carriedOut_refused] at h
    exact hset s.mgmt ▸ h
  · have h := broadcast_done hA hp rfl (.inl hh) (u := { s.heard with mgmt := { s.mgmt with addrMode := .service } })
      (if_neg hz)
    rw [if_neg hz]
    rw [carriedOut, if_neg nofun, hset] at h
    exact h

/-- NOTICE_OFF as a broadcast (R124, R172). -/
theorem broadcast_noticeOff {tag confirm : Byte} (hf : f.payload = [0x08, tag, confirm]) :
    (confirm = 0 → Mirrored f s.heard t) ∧ (confirm ≠ 0 → Mirrored f { s.heard with
      plant := { s.plant with events := s.plant.events.disable } } t) := by
  have hset : settlePart s.heard = s.heard := settlePart_settled hs
  have hp : parseManage f.payload = .request tag (.noticeOff confirm) := by rw [hf]; rfl
  refine ⟨fun hz => ?_, fun hz => ?_⟩
  · have h := broadcast_done hA hp rfl (.inl hh) (u := s.heard) (if_pos hz)
    rwa [carriedOut_refused, hset] at h
  · have h := broadcast_done hA hp rfl (.inl hh) (u := s.heard) (if_neg hz)
    rw [carriedOut, if_neg nofun, hset] at h
    exact h

/-- CLOCK_SET as a broadcast (R22, R28). -/
theorem broadcast_clockSet {tag day second : Byte} {minute : Word}
    (hf : f.payload = [0x06, tag, day] ++ wordBytes minute ++ [second]) :
    (6 < day.toNat ∨ 1439 < minute.toNat ∨ 59 < second.toNat → Mirrored f s.heard t) ∧
    ∀ (d : Fin 7) (y : Plant), d.val = day.toNat → minute.toNat ≤ 1439 → second.toNat ≤ 59 → BoundaryTaken s y →
      Mirrored f { s.heard with
        cal := s.cal.setTo s.tab d minute.toNat second.toNat
        plant := settle { s.view with cls := (s.cal.setTo s.tab d minute.toNat second.toNat).cls }
          (evaluateAll { s.view with cls := (s.cal.setTo s.tab d minute.toNat second.toNat).cls } .clockSet y) } t := by
  have hset : settlePart s.heard = s.heard := settlePart_settled hs
  have hp : parseManage f.payload = .request tag (.clockSet day minute second) := by
    rw [hf]
    exact congrArg (fun w => Parsed.request tag (.clockSet day w second)) (joinBytes_wordBytes minute)
  refine ⟨fun hb => ?_, fun d y hd hm hsec hy => ?_⟩
  · have h := broadcast_done hA hp rfl (.inl hh) (clockSetRequest_bad hb)
    rwa [carriedOut_refused, hset] at h
  · have h := broadcast_done hA hp rfl (.inl hh) (clockSetRequest_good hd hm hsec)
    rwa [carriedOut, if_neg nofun, afterReply, setClock_taken (s := s.heard) hs hy] at h

end

/-- ADDRESS_RELEASE as a broadcast, under a check hold too (R166). -/
theorem broadcast_release {f : Frame} {s t : Part} {tag : Byte} (hf : f.payload = [0x0C, tag])
    (hA : Mirrored f (settlePart (takeBroadcast (parseManage f.payload) s.heard)) t) : Mirrored f (released s.heard) t := by
  have hp : parseManage f.payload = .request tag .addressRelease := by rw [hf]; rfl
  obtain ⟨hc, hr⟩ := carriedOut_release s.heard
  exact hr ▸ broadcast_done hA hp rfl (.inr rfl) hc

/-- With notices disabled no mirroring places one (R124). -/
theorem mirrored_notWaiting {f : Frame} {u t : Part} (hs : Settled u.plant) (hon : u.plant.events.on = false)
    (hw : u.plant.events.waiting = false) (h : Mirrored f u t) : t.plant.events.waiting = false := by
  rw [mirrored_plant hs h]
  rcases mirror_events .down f u with e | ⟨e, -⟩
  · rw [e, hw]
  · rw [e, Events.raise, hon, hw]
    rfl

/-- Settles O50: directed requests, unknown codes, and the broadcasts. -/
theorem requestTestsInOrder : Obligations.RequestTestsInOrder := by
  refine ⟨fun f s hp hs hf hk hd => directed_tests hp hs hf hk hd, fun h code args s => unknownRequest_refused,
    fun f s hp hs hf hk hd ha => ?_, rfl, rfl⟩
  obtain ⟨t, ht, hpd, hA⟩ : ∃ t : State, exec (.goodFrameOnU f) s = .next t ∧ t.pending = s.pending ∧
      Mirrored f (settlePart (takeBroadcast (parseManage f.payload) s.part.heard)) t.part :=
    ⟨_, exec_broadcast hp hf hk hd ha, rfl, rfl⟩
  have hq : t.part.line.replyQueue = s.part.line.replyQueue := by
    obtain ⟨-, -, -, -, hq, -⟩ := mirrored_only (settled_settlePart _) hA
    rw [hq, takeBroadcast_replies]
    rfl
  refine ⟨t, ht, hpd, hq, broadcast_ignored hs hA, fun hh hc => ?_, fun row hr => broadcast_badLength hs hA hr,
    fun hh => ⟨fun tag => broadcast_take hs hh hA, fun tag day second minute hpl => ?_, fun tag hpl => ?_,
      fun tag confirm hc hpl => ?_⟩, fun tag u hpl hu => ?_⟩
  · exact broadcast_nothing hs hA (takeBroadcast_held hh (by rwa [parseManage_code?]))
  · obtain ⟨hbad, hgood⟩ := broadcast_clockSet hs hh hA hpl
    refine ⟨hbad, fun d c y hd hm hsec hc hcls hy => ?_⟩
    rw [Calendar.eq_setTo hc hcls]
    exact hgood d y hd hm hsec hy
  · exact (broadcast_noticeOff hs hh hA hpl).1 rfl
  · have h := (broadcast_noticeOff hs hh hA hpl).2 hc
    exact ⟨mirrored_notWaiting (by exact hs) rfl rfl h, h⟩
  · have h := broadcast_release hpl hA
    have hw := mirrored_notWaiting (released_settled _) rfl rfl h
    refine ⟨hw, ?_⟩
    by_cases hm : s.part.mgmt.mode = .passive
    · rw [if_pos hm] at hu
      rw [released_passive (s := s.part.heard) hs hm] at h
      rw [hu, if_pos hm]
      rw [← hm]
      exact h
    · rw [if_neg hm] at hu
      rw [released_changed (s := s.part.heard) hm] at h
      rw [hu, if_neg hm]
      exact h

end Sys2Proof.Machine
end

section
/-!
PROOFS. The Command Filter: the tests and the effects of a command item, the judgement of a frame item by item, and the
whole event of a COMMAND frame (chapter 10).
-/

namespace Sys2Proof.Machine

/-! ### The tests of an item (R155) -/

theorem admits_iff (tab : Settings) (source : Byte) (p : Fin 32) : admits tab source p = true ↔
    ∃ i : Fin 4, tab.t8[i].used = true ∧ tab.t8[i].address = source.toNat ∧
      tab.t8[i].mask.getLsbD (stageOf p).val = true := by
  rw [admits, List.any_eq_true]
  constructor
  · rintro ⟨e, he, h⟩
    obtain ⟨i, hi, rfl⟩ := List.mem_iff_getElem.1 he
    refine ⟨⟨i, by simpa using hi⟩, ?_⟩
    simpa [and_assoc] using h
  · rintro ⟨i, h⟩
    refine ⟨tab.t8[i], by simp, ?_⟩
    simpa [and_assoc] using h

theorem runRefusal_eq (v : View) (x : Plant) (p : Fin 32) : runRefusal v x p =
    if (x.pump p).state = .resting then some .rest
    else if (x.pump p).state ≠ .off then some .state
    else if v.tab.t3[p].startsPerHour ≤ (x.pump p).history.length then some .limit
    else if (x.stage (stageOf p)).override = .dryRun then some .dry
    else if (x.feeder v.tab.t3[p].feeder).busy = true then some .slotBusy
    else if (v.tab.feeder v.tab.t3[p].feeder).budget <
        (x.feeder v.tab.t3[p].feeder).committed + v.tab.t3[p].rating then some .budget
    else none := by
  simp only [runRefusal, ← startLimited_eq_true]

/-- The tests of an item, the last by its action. -/
theorem itemRefusal_eq (v : View) (source : Byte) (x : Plant) (p : Fin 32) (action : Byte) :
    itemRefusal v source x p action =
      if ¬admits v.tab source p = true then some .notPermitted
      else if (x.pump p).localSel = true then some .localControl
      else if (x.pump p).owner = .outOfService then some .outOfService
      else if (x.pump p).owner = .auto then some .owned
      else if action ≠ 1 ∧ action ≠ 2 then some .badAction
      else if action = 2 then none
      else runRefusal v x p := by
  by_cases h1 : action = 1
  · subst h1
    simp [itemRefusal, actionOf?]
  · by_cases h2 : action = 2
    · subst h2
      simp [itemRefusal, actionOf?]
    · have ha : actionOf? action = none := by rw [actionOf?, if_neg h1, if_neg h2]
      rw [if_pos (c := action ≠ 1 ∧ action ≠ 2) ⟨h1, h2⟩]
      simp [itemRefusal, ha]

/-! ### The effects of an item (R103, R105, R157) -/

theorem startedOn_queue (v : View) (f : Feeder) (p : Fin 32) (g : Progress) (x : Plant) :
    (startedOn v f p g x).queue = x.queue := by
  unfold startedOn
  cases f <;> rfl

theorem startedOn_nextId (v : View) (f : Feeder) (p : Fin 32) (g : Progress) (x : Plant) :
    (startedOn v f p g x).nextId = x.nextId + 1 := by
  unfold startedOn
  cases f <;> rfl

/-- The record of a pump whose STOP is made in transit (R157). -/
def Pump.stopCarried (q : Pump) (id : Nat) : Pump :=
  { q with cmd := some ⟨.stop, .inTransit, id⟩, startT := none, stopT := none }

theorem makePending_stop (x : Plant) (p : Fin 32) (q : Pump) : (x.setPump p q).makePending p .stop .inTransit =
    { x.setPump p (q.stopCarried x.nextId) with nextId := x.nextId + 1 } := by
  rw [Plant.setPump_makePending]
  rfl

section
variable {v : View} {p : Fin 32} {x : Plant}

theorem manualStop_moved (h : (x.pump p).state = .running ∨ (x.pump p).state = .stopping ∨ (x.pump p).state = .stopFailed) :
    manualStop v p x = handCommitted v.tab p { x.setPump p (((x.pump p).goto .stopping).stopCarried x.nextId) with
      nextId := x.nextId + 1 } := by
  rw [← makePending_stop]
  rcases h with h | h | h <;> simp only [manualStop, h]

theorem manualStop_starting (h : (x.pump p).state = .starting) : manualStop v p x =
    handCommitted v.tab p (leaveStarting p { x.setPump p (((x.pump p).goto .stopping).stopCarried x.nextId) with
      nextId := x.nextId + 1 }) := by
  rw [← makePending_stop]
  simp only [manualStop, h]

theorem manualStop_kept (h : (x.pump p).state = .tripped ∨ (x.pump p).state = .lockedOut) : manualStop v p x =
    { x.setPump p ((x.pump p).stopCarried x.nextId) with nextId := x.nextId + 1 } := by
  rcases h with h | h <;> simp only [manualStop, h] <;> rfl

theorem manualStop_none (h : (x.pump p).state = .unseen ∨ (x.pump p).state = .off ∨ (x.pump p).state = .resting ∨
    (x.pump p).state = .queued) : manualStop v p x = x := by
  rcases h with h | h | h | h <;> simp only [manualStop, h]

end

/-- The start slots after the record of a pump, and the count of commands, have changed. -/
theorem slotsFrom_counted (p : Fin 32) (q : Pump) (n : Nat) (x : Plant) :
    SlotsFrom x { x.setPump p q with nextId := n } := .of_eq fun f => by cases f <;> rfl

/-- Settles O42: the chain of the tests, and the effects by the state of the pump. -/
theorem commandItemsJudged : Obligations.CommandItemsJudged := by
  refine ⟨?_, ?_⟩
  · rintro v source x p action q f rfl rfl
    rw [itemRefusal_eq, runRefusal_eq]
    exact if_congr (not_congr (admits_iff ..)) rfl rfl
  · rintro v p x q rfl
    refine ⟨?_, fun h => ?_, fun h => manualStop_kept h, manualStop_none⟩
    · rintro f rfl
      refine ⟨manualRun_frame v p x, ?_, fun g hg => ?_, ?_⟩
      · rw [manualRun_eq, handCommitted_queue, startedOn_queue]
      · rw [manualRun_eq, handCommitted, recommit_feeder_ne _ hg, startedOn_feeder_ne v hg]
      · obtain ⟨hb, hh, hr, ht, -⟩ := SlotsFrom.handCommitted v.tab p
          (startedOn v v.tab.t3[p].feeder p .inTransit x) v.tab.t3[p].feeder
        rw [startedOn_feeder_same] at hb hh hr ht
        rw [manualRun_eq, handCommitted_pump, startedOn_pump_same]
        exact ⟨rfl, rfl, rfl, hb, hh, hr, ht⟩
    · refine ⟨manualStop_frame v p x, ?_⟩
      by_cases hs : (x.pump p).state = .starting
      · rw [manualStop_starting hs, if_pos hs, handCommitted_pump, leaveStarting_pump]
        refine ⟨?_, ?_, ?_⟩
        · rw [handCommitted_queue]
          rfl
        · exact (slotsFrom_counted p _ _ (leaveStarting p x)).trans (.handCommitted v.tab p _)
        · have e : ({ x.setPump p (((x.pump p).goto .stopping).stopCarried x.nextId) with nextId := x.nextId + 1 } :
              Plant).pump p = ((x.pump p).goto .stopping).stopCarried x.nextId := Plant.pump_setPump_same ..
          rw [e]
          exact ⟨rfl, rfl, rfl, rfl, rfl, rfl, rfl⟩
      · have hm : (x.pump p).state = .running ∨ (x.pump p).state = .stopping ∨ (x.pump p).state = .stopFailed := by
          tauto
        rw [manualStop_moved hm, if_neg hs, handCommitted_pump]
        refine ⟨?_, ?_, ?_⟩
        · rw [handCommitted_queue]
          rfl
        · exact (slotsFrom_counted p _ _ x).trans (.handCommitted v.tab p _)
        · have e : ({ x.setPump p (((x.pump p).goto .stopping).stopCarried x.nextId) with nextId := x.nextId + 1 } :
              Plant).pump p = ((x.pump p).goto .stopping).stopCarried x.nextId := Plant.pump_setPump_same ..
          rw [e]
          exact ⟨rfl, rfl, rfl, rfl, rfl, rfl, rfl⟩

/-! ### The judgement of a frame, item by item (R155, R157) -/

/-- What one item that is taken as passed makes of the records and of the commands carried. -/
def itemStep (v : View) (f : Frame) (z : Plant × List (Fin 32 × Nat)) (item : Byte × Byte) :
    Plant × List (Fin 32 × Nat) :=
  match itemPump v.tab f.dest.toNat item.1.toNat with
  | none => z
  | some p => ((itemEffect v p item.2 z.1).1, z.2 ++ (itemEffect v p item.2 z.1).2)

/-- The refusal of an item, the items before it taken as passed. -/
def refusalAt (v : View) (f : Frame) (items : List (Byte × Byte)) (z : Plant × List (Fin 32 × Nat)) (i : Nat) :
    Option Reason :=
  items[i]?.bind fun item => (itemPump v.tab f.dest.toNat item.1.toNat).bind fun p =>
    itemRefusal v f.source ((items.take i).foldl (itemStep v f) z).1 p item.2

theorem judgeItems_cons (v : View) (f : Frame) (n : Nat) (item : Byte × Byte) (items : List (Byte × Byte))
    (z : Plant × List (Fin 32 × Nat)) : judgeItems v f n (item :: items) z.1 z.2 =
      (refusalAt v f (item :: items) z 0).elim
        (judgeItems v f (n + 1) items (itemStep v f z item).1 (itemStep v f z item).2) (.refused · n item.1) := by
  obtain ⟨point, action⟩ := item
  obtain ⟨x, carried⟩ := z
  simp only [judgeItems, refusalAt, itemStep, List.getElem?_cons_zero, Option.bind_some, List.take_zero, List.foldl_nil]
  cases itemPump v.tab f.dest.toNat point.toNat with
  | none => rfl
  | some p =>
    simp only [Option.bind_some]
    cases itemRefusal v f.source x p action <;> rfl

/-- The first refused item refuses the frame. -/
theorem judgeItems_refused {v : View} {f : Frame} {items : List (Byte × Byte)} {i : Nat} {item : Byte × Byte} {r : Reason}
    (n : Nat) (z : Plant × List (Fin 32 × Nat)) (hi : items[i]? = some item) (hr : refusalAt v f items z i = some r)
    (hb : ∀ j, j < i → refusalAt v f items z j = none) :
    judgeItems v f n items z.1 z.2 = .refused r (n + i) item.1 := by
  induction i generalizing items n z with
  | zero =>
    cases items with
    | nil => cases hi
    | cons a items =>
      cases hi
      rw [judgeItems_cons, hr]
      rfl
  | succ i ih =>
    cases items with
    | nil => cases hi
    | cons a items =>
      rw [judgeItems_cons, hb 0 (Nat.succ_pos i)]
      refine (ih (n + 1) _ hi hr fun j hj => hb (j + 1) (Nat.succ_lt_succ hj)).trans ?_
      rw [Nat.add_assoc, Nat.add_comm 1 i]

/-- A frame without a refused item passes with every item's effect. -/
theorem judgeItems_passed {v : View} {f : Frame} {items : List (Byte × Byte)} (n : Nat) (z : Plant × List (Fin 32 × Nat))
    (h : ∀ i, i < items.length → refusalAt v f items z i = none) :
    judgeItems v f n items z.1 z.2 = .passed (items.foldl (itemStep v f) z).1 (items.foldl (itemStep v f) z).2 := by
  induction items generalizing n z with
  | nil => rfl
  | cons a items ih =>
    rw [judgeItems_cons, h 0 (Nat.succ_pos _)]
    exact ih (n + 1) _ fun i hi => h (i + 1) (Nat.succ_lt_succ hi)

theorem judgeFrame_items {v : View} {f : Frame} {x : Plant} (hd : f.dest ≠ 0) :
    judgeFrame v f x = judgeItems v f 0 (pairsOf f.payload) x [] := by
  rw [judgeFrame]
  split
  · next h => rw [h]; rfl
  · next h => rw [h, if_neg hd]

/-- The judgement of a frame that is not a broadcast, by the refusals of its items. -/
theorem judgeFrame_by {v : View} {f : Frame} {x : Plant} (hd : f.dest ≠ 0) {refusal : Nat → Option Reason}
    (h : ∀ (i : Nat) (point action : Byte), (pairsOf f.payload)[i]? = some (point, action) →
      refusal i = (itemPump v.tab f.dest.toNat point.toNat).bind fun p =>
        itemRefusal v f.source (itemsEffect v f ((pairsOf f.payload).take i) x).1 p action) :
    (∀ (i : Nat) (point action : Byte) (r : Reason), (pairsOf f.payload)[i]? = some (point, action) → refusal i = some r →
      (∀ j : Nat, j < i → refusal j = none) → judgeFrame v f x = .refused r i point) ∧
    ((∀ i : Nat, i < (pairsOf f.payload).length → refusal i = none) → judgeFrame v f x =
      .passed (itemsEffect v f (pairsOf f.payload) x).1 (itemsEffect v f (pairsOf f.payload) x).2) := by
  have hat : ∀ i, i < (pairsOf f.payload).length → refusal i = refusalAt v f (pairsOf f.payload) (x, []) i := fun i hi => by
    have hs : (pairsOf f.payload)[i]? = some ((pairsOf f.payload)[i].1, (pairsOf f.payload)[i].2) :=
      List.getElem?_eq_getElem hi
    rw [h i _ _ hs, refusalAt, hs]
    rfl
  rw [judgeFrame_items hd]
  refine ⟨fun i point action r hi hr hb => ?_, fun hno => ?_⟩
  · have hlt : i < (pairsOf f.payload).length := (List.getElem?_eq_some_iff.1 hi).1
    refine (judgeItems_refused 0 (x, []) hi ((hat i hlt).symm.trans hr) fun j hj => ?_).trans ?_
    · exact (hat j (hj.trans hlt)).symm.trans (hb j hj)
    · rw [Nat.zero_add]
  · exact judgeItems_passed 0 (x, []) fun i hi => (hat i hi).symm.trans (hno i hi)

/-- The pump that an item addresses (R155). -/
theorem itemPump_none {tab : Settings} {station point : Nat} : itemPump tab station point = none ↔
    ∀ p : Fin 32, assigned tab p = true → ¬(tab.t3[p].station = station ∧ tab.t3[p].point = point) := by
  simp only [itemPump, slots, List.find?_eq_none, List.mem_finRange, true_implies, Bool.and_eq_true, beq_iff_eq, and_assoc,
    not_and]

theorem itemPump_some {tab : Settings} {station point : Nat} {p : Fin 32} (h : itemPump tab station point = some p) :
    assigned tab p = true ∧ tab.t3[p].station = station ∧ tab.t3[p].point = point := by
  have := List.find?_some h
  simpa [and_assoc] using this

theorem itemEffect_run (v : View) (p : Fin 32) (x : Plant) : itemEffect v p 0x01 x = (manualRun v p x, [(p, x.nextId)]) := by
  have hn : (manualRun v p x).nextId ≠ x.nextId := by
    rw [manualRun_eq, handCommitted_nextId, startedOn_nextId]
    exact Nat.succ_ne_self _
  simp only [itemEffect, show actionOf? 0x01 = some .run from rfl, if_true, hn, if_false]

theorem itemEffect_stop (v : View) (p : Fin 32) (x : Plant) : itemEffect v p 0x02 x = (manualStop v p x,
    if (x.pump p).state = .unseen ∨ (x.pump p).state = .off ∨ (x.pump p).state = .resting ∨ (x.pump p).state = .queued
    then [] else [(p, x.nextId)]) := by
  have hn : (manualStop v p x).nextId = x.nextId ↔ (x.pump p).state = .unseen ∨ (x.pump p).state = .off ∨
      (x.pump p).state = .resting ∨ (x.pump p).state = .queued := by
    refine ⟨fun h => ?_, fun h => by rw [manualStop_none h]⟩
    by_contra hno
    have hsucc : (manualStop v p x).nextId = x.nextId + 1 := by
      by_cases hs : (x.pump p).state = .starting
      · rw [manualStop_starting hs, handCommitted_nextId]
        rfl
      · by_cases ht : (x.pump p).state = .tripped ∨ (x.pump p).state = .lockedOut
        · rw [manualStop_kept ht]
        · have hm : (x.pump p).state = .running ∨ (x.pump p).state = .stopping ∨ (x.pump p).state = .stopFailed := by
            cases hst : (x.pump p).state <;> simp_all
          rw [manualStop_moved hm, handCommitted_nextId]
    omega
  have e : actionOf? 0x02 ≠ some .run := by decide
  rw [itemEffect, if_neg e, if_congr hn rfl rfl]

/-! ### The event of a COMMAND frame in ACTIVE mode (R131, R155 to R157, R160) -/

section
variable {f : Frame} {s : Part} (met : Bool)

theorem filterFrame_full (h : frameCapacity ≤ s.line.dQueue.length) : filterFrame met f s = s.raise .forwardDrop :=
  if_neg (Nat.not_lt.2 h)

theorem filterFrame_refused {r : Reason} {i : Nat} {point : Byte} (h : s.line.dQueue.length < frameCapacity)
    (hj : judgeFrame s.view f s.plant = .refused r i point) :
    filterFrame met f s = (enterReply (filterReply f.source r i point) s).raise .commandRefused := by
  rw [filterFrame, if_pos h, hj]

theorem filterFrame_passed {y : Plant} {carried : List (Fin 32 × Nat)} (h : s.line.dQueue.length < frameCapacity)
    (hj : judgeFrame s.view f s.plant = .passed y carried) : filterFrame met f s =
      { s with
        line := { s.line with dQueue := s.line.dQueue ++ [{ frame := f, carried := carried }] }
        plant :=
          if met then
            stopFallback carried s.view (settle s.view (reconcileAll s.view (stagesOf (carried.map Prod.fst)) y))
          else reconcileAll s.view (stagesOf (carried.map Prod.fst)) y } := by
  rw [filterFrame, if_pos h, hj]
  have e : enterD { frame := f, carried := carried } { s with plant := y } = { s with
      plant := y, line := { s.line with dQueue := s.line.dQueue ++ [{ frame := f, carried := carried }] } } := if_pos h
  simp only [e]
  cases met <;> rfl

end

/-- The frame's STOP in transit, by the commands that the frame carries (R157). -/
theorem stoppedBy_iff {carried : List (Fin 32 × Nat)} {x : Plant} {p : Fin 32} : stoppedBy carried x p = true ↔
    ∃ n : Nat, (p, n) ∈ carried ∧ (x.pump p).cmd = some ⟨.stop, .inTransit, n⟩ := by
  unfold stoppedBy Pump.holds
  cases h : (x.pump p).cmd with
  | none => simp
  | some c =>
    obtain ⟨a, g, n⟩ := c
    simp only [Bool.and_eq_true, beq_iff_eq, Option.any_some, List.contains_iff_mem, Option.some.injEq, Command.mk.injEq]
    constructor
    · rintro ⟨ha, hg, hm⟩
      exact ⟨n, hm, ha, hg, rfl⟩
    · rintro ⟨n', hm, ha, hg, rfl⟩
      exact ⟨ha, hg, hm⟩

/-- Settles O41: the frame that is dropped, refused or passed, and its judgement. -/
theorem commandFrameJudged : Obligations.CommandFrameJudged := by
  refine ⟨fun f s hp hs hf hk hm => ?_, ⟨rfl, fun _ => rfl, fun _ _ _ => rfl⟩, ?_, fun v p x station point =>
    ⟨itemPump_none, itemPump_some, itemEffect_run v p x, itemEffect_stop v p x⟩⟩
  · have hne : ¬f.kind = kindManage := by rw [hk]; decide
    have hx : exec (.goodFrameOnU f) s = .next (s.endingAt (mirror .down f (settlePart (filterFrame
        (due s.part.cal.uptime s.part.line.quietT) f s.part.heard)))) := by
      rw [exec_goodFrameU hp hf, disposeU, if_neg hne, if_pos ⟨hk, hm⟩]
    refine ⟨fun hfull => ?_, fun hroom => ⟨fun r i point hj => ?_, fun y carried hj z hz => ?_⟩⟩
    · rw [hx, filterFrame_full (s := s.part.heard) _ hfull, settlePart_settled (by exact hs)]
      rfl
    · rw [hx, filterFrame_refused (s := s.part.heard) _ hroom hj, enterReply_only, enterReply_queue,
        settlePart_settled (by exact hs)]
      rfl
    · rw [hx, filterFrame_passed (s := s.part.heard) _ hroom hj]
      refine ⟨_, rfl, fun hd => ?_, fun hd => ?_⟩
      · rw [hz, hd]
        rfl
      · rw [hd]
        have hfall : ∀ p : Fin 32, (fallsBack s.part.view z p && stoppedBy carried z p) = true →
            (z.pump p).owner = .manual := fun p h => ((fallsBack_iff ..).1 (Bool.and_eq_true_iff.1 h).1).2.1
        obtain ⟨x, hpump, honly, e⟩ := becomeAuto_eq (v := s.part.view) hfall
        refine ⟨x, _, fun p => ?_, hpump, honly, ?_⟩
        · rw [Bool.and_eq_true, fallsBack_iff, stoppedBy_iff, and_assoc, and_assoc]
          rfl
        · rw [← e, hz]
          rfl
  · rintro v f x items rfl
    refine ⟨fun h => ?_, fun hd point action rest h => ?_, fun hd refusal => judgeFrame_by hd⟩
    · rw [judgeFrame, h]
    · rw [judgeFrame, h]
      exact if_pos hd

end Sys2Proof.Machine
end

section
/-!
PROOFS. The Intake Unit: the reading of reports, what the status reports of a pump do, the pairs of an outstation's
reply, and the disposal of good frames on D (chapter 9, sections 7.3 and 7.4).
-/

namespace Sys2Proof.Machine

/-! ### The reading of a report (R138, R145, R146) -/

theorem reportsOf_short {l : List Byte} (h : l.length < 4) : reportsOf l = [] := by
  match l, h with
  | [], _ | [_], _ | [_, _], _ | [_, _, _], _ => rfl

theorem scaleLevel_zero {e : PointEntry} {fs raw : Nat} (h : raw ≤ e.zero) : scaleLevel e fs raw = 0 := if_pos h

theorem scaleLevel_above {e : PointEntry} {fs raw : Nat} (h : e.zero < raw) : scaleLevel e fs raw =
    if fs < (raw - e.zero) * fs / e.span then fs else (raw - e.zero) * fs / e.span := by
  rw [scaleLevel, if_neg (Nat.not_le.2 h)]
  split <;> omega

theorem reservoirOf?_val (r : Fin 10) : reservoirOf? r.val = some r := dif_pos r.isLt

theorem handReport_level {e : PointEntry} {r : Fin 10} {raw : Nat} {s : Part} (hk : e.kind = 0) (ht : e.target = r.val) :
    handReport e raw s = levelArrival r (scaleLevel e s.tab.t1[r].fs raw) s := by
  rw [handReport, if_pos hk, ht, reservoirOf?_val]

theorem handReport_pump {e : PointEntry} {p : Fin 32} {raw : Nat} {s : Part} (hk : e.kind ≠ 0) (ht : e.target = p.val) :
    handReport e raw s = { s with plant := pumpReport e.kind p (raw != 0) s.view s.plant } := by
  rw [handReport, if_neg hk, ht, slotOf?_val]
  rfl

theorem levelArrival_discarded {r : Fin 10} {l : Nat} {s : Part}
    (h : s.tab.t1[r].enabled = false ∨ s.tab.t1[r].kind = .unmetered) : levelArrival r l s = s := by
  refine if_neg fun hh => ?_
  rw [Bool.and_eq_true, beq_iff_eq] at hh
  rcases h with h | h
  · exact absurd (h.symm.trans hh.1) nofun
  · exact absurd (h.symm.trans hh.2) nofun

theorem qualityUsed_iff (kind : Nat) (quality : Byte) : qualityUsed kind quality = true ↔
    quality = 0 ∨ (quality = 1 ∧ kind ≠ 0) := by
  simp [qualityUsed]

/-- The used entry of a station's point, where it is the only one (R145). -/
theorem pointEntry_of {tab : Settings} {station point : Nat} {i : Fin 128}
    (hi : tab.t0[i].used = true ∧ tab.t0[i].station = station ∧ tab.t0[i].point = point)
    (hb : ∀ j : Fin 128, j ≠ i → ¬(tab.t0[j].used = true ∧ tab.t0[j].station = station ∧ tab.t0[j].point = point)) :
    pointEntry tab station point = some tab.t0[i] := by
  refine find?_toList_eq_some i ?_ fun j hj => Bool.eq_false_iff.2 fun h => hb j hj.ne ?_
  · simpa [and_assoc] using hi
  · simpa [and_assoc] using h

theorem pointEntry_none {tab : Settings} {station point : Nat}
    (h : ∀ j : Fin 128, ¬(tab.t0[j].used = true ∧ tab.t0[j].station = station ∧ tab.t0[j].point = point)) :
    pointEntry tab station point = none := by
  refine find?_toList_eq_none fun j => Bool.eq_false_iff.2 fun hc => h j ?_
  simpa [and_assoc] using hc

/-! ### The status reports of a pump (R61, R112, R119) -/

section
variable {v : View} {p : Fin 32} {x : Plant}

theorem reports_unassigned (h : assigned v.tab p = false) (b : Bool) : runFeedback v p b x = x ∧ tripReport v p b x = x ∧
    warnReport v p b x = x ∧ localReport v p b x = x := by
  have hn : ¬assigned v.tab p = true := Bool.eq_false_iff.1 h
  exact ⟨if_neg hn, if_neg hn, if_neg hn, if_neg hn⟩

theorem runFeedback_assigned (h : assigned v.tab p = true) {b : Bool} {y : Plant}
    (hy : y = if b = true then feedbackRunning v p x else feedbackStopped v p x) :
    runFeedback v p b x = if (y.pump p).state = (x.pump p).state then y else finishPump v p y := by
  subst hy
  rw [runFeedback, if_pos h]

theorem tripReport_nonZero (h : assigned v.tab p = true) : tripReport v p true x = tripNonZero v p x := by
  rw [tripReport, if_pos h, if_pos rfl]

theorem tripReport_zero (h : assigned v.tab p = true) : tripReport v p false x = tripZero v p x := by
  rw [tripReport, if_pos h, if_neg Bool.false_ne_true]

/-- A confirmed TRIP report (R112). -/
theorem tripNonZero_confirmed (h : (x.pump p).tripCount + 1 = v.tab.t3[p].tripConfirm ∨
      v.tab.t3[p].tripConfirm < (x.pump p).tripCount) {y : Plant}
    (hy : y = x.setPump p { x.pump p with tripCount := v.tab.t3[p].tripConfirm, tripInd := true }) :
    tripNonZero v p x =
      if (x.pump p).tripInd = true then y
      else if ((takeTrip v p .starterTrip y).pump p).state = (x.pump p).state then takeTrip v p .starterTrip y
      else finishPump v p (takeTrip v p .starterTrip y) := by
  subst hy
  have h1 : ¬(x.pump p).tripCount = v.tab.t3[p].tripConfirm := by omega
  have h2 : ¬(x.pump p).tripCount + 1 < v.tab.t3[p].tripConfirm := by omega
  rw [tripNonZero]
  exact (if_neg h1).trans (if_neg h2)

/-- A trip keeps the state where the pump is TRIPPED, LOCKED_OUT or UNSEEN, and there alone (R114). -/
theorem takeTrip_state_iff {c : TripCause} : ((takeTrip v p c x).pump p).state = (x.pump p).state ↔
    (x.pump p).state = .tripped ∨ (x.pump p).state = .lockedOut ∨ (x.pump p).state = .unseen := by
  by_cases h : (x.pump p).state = .tripped ∨ (x.pump p).state = .lockedOut ∨ (x.pump p).state = .unseen
  · rw [takeTrip_kept h, Plant.pump_setPump_same]
    exact iff_of_true rfl h
  · refine iff_of_false (fun e => h ?_) h
    rw [← e, takeTrip_moved h, Plant.pump_raise, Plant.became_pump, Pump.trippedBy]
    split
    · exact .inr (.inl rfl)
    · exact .inl rfl

end

/-- Settles O44: the reading of the reports, and what each kind does. -/
theorem reportsTaken : Obligations.ReportsTaken := by
  refine ⟨fun a b c d rest bytes => ⟨reportsOf_short, rfl⟩, ⟨fun e fs raw => ⟨scaleLevel_zero, scaleLevel_above,
    scaleLevel_le e fs raw⟩, fun e r raw s hk ht => ⟨handReport_level hk ht, fun hd => ?_⟩⟩, fun source r s => ⟨fun hno => ?_,
    fun i hu hst hpt hb => ⟨?_, fun p raw ht => ⟨fun hk => ?_, fun hk => ?_, fun hk => ?_, fun hk => ?_⟩⟩⟩, ?_⟩
  · rw [handReport_level hk ht, levelArrival_discarded hd]
  · rw [takeReport, pointEntry_none hno]
  · rw [takeReport, pointEntry_of ⟨hu, hst, hpt⟩ hb]
    exact if_congr (qualityUsed_iff ..) rfl rfl
  iterate 4
    · rw [handReport_pump (by rw [hk]; decide) ht, hk]
      rfl
  · rintro v p x q limit rfl rfl
    refine ⟨reports_unassigned, fun ha => ⟨fun b y hy => runFeedback_assigned ha hy, fun h => ?_, fun h => ?_,
      fun h y hy => ?_, fun y hy => ?_, fun b => if_pos ha, fun b hb => ?_, fun hl => ?_, fun hl => ?_⟩⟩
    · rw [tripReport_nonZero ha]
      exact if_pos h
    · rw [tripReport_nonZero ha]
      exact (if_neg (by omega)).trans (if_pos h)
    · have hst : (y.pump p).state = (x.pump p).state := by rw [hy, Plant.pump_setPump_same]
      rw [tripReport_nonZero ha, tripNonZero_confirmed h hy, ← hst]
      refine ⟨fun hi => if_pos hi, fun hi => ?_⟩
      rw [if_neg (Bool.eq_false_iff.1 hi)]
      exact if_congr takeTrip_state_iff rfl rfl
    · subst hy
      rw [tripReport_zero ha]
      rfl
    · rw [localReport, if_pos ha]
      cases b
      · exact (if_neg Bool.false_ne_true).trans (if_neg (Bool.eq_false_iff.1 hb))
      · exact (if_pos rfl).trans (if_pos hb)
    · rw [localReport, if_pos ha, if_pos rfl, if_neg (Bool.eq_false_iff.1 hl)]
      rfl
    · rw [localReport, if_pos ha, if_neg Bool.false_ne_true]
      exact if_pos hl

/-! ### Replies of outstations (R113, R148) -/

theorem itemPump_of {tab : Settings} {station point : Nat} {p : Fin 32} (ha : assigned tab p = true)
    (hp : tab.t3[p].station = station ∧ tab.t3[p].point = point)
    (hb : ∀ p' : Fin 32, p' ≠ p → ¬(tab.t3[p'].station = station ∧ tab.t3[p'].point = point)) :
    itemPump tab station point = some p := by
  cases h : itemPump tab station point with
  | none => exact absurd hp (itemPump_none.1 h p ha)
  | some p' =>
    obtain ⟨-, hp'⟩ := itemPump_some h
    by_contra hne
    exact hb p' (fun e => hne (congrArg some e)) hp'

theorem refusedReport_eq (v : View) (p : Fin 32) (x : Plant) : refusedReport v p x =
    if (x.pump p).state = .starting ∧ (x.pump p).holds .run = true ∧ (x.pump p).awaits .run = false then
      finishPump v p (takeTrip v p .refused (x.setPump p (x.pump p).dropCmd))
    else x := by
  simp only [refusedReport, Bool.not_eq_true']

/-! ### The disposal of frames on D (R132, R143, R144) -/

theorem knownSource_iff {tab : Settings} {source : Nat} : knownSource tab source = true ↔
    (∃ i : Fin 128, tab.t0[i].used = true ∧ tab.t0[i].station = source) ∨
      ∃ p : Fin 32, assigned tab p = true ∧ tab.t3[p].station = source := by
  rw [knownSource, Bool.or_eq_true]
  refine or_congr ⟨fun h => ?_, fun ⟨i, h⟩ => ?_⟩ ?_
  · obtain ⟨e, he, hs⟩ := List.any_eq_true.1 h
    obtain ⟨i, hi, rfl⟩ := List.mem_iff_getElem.1 he
    exact ⟨⟨i, by simpa using hi⟩, by simpa using hs⟩
  · exact List.any_eq_true.2 ⟨tab.t0[i], by simp, by simpa using h⟩
  · simp [slots]

theorem enterU_eq (f : Frame) (s : Part) : enterU f s =
    if 16 ≤ s.line.uQueue.length then s.raise .forwardDrop
    else { s with line := { s.line with uQueue := s.line.uQueue ++ [f] } } := by
  by_cases h : 16 ≤ s.line.uQueue.length
  · rw [if_pos h]
    exact if_neg (Nat.not_lt.2 h)
  · rw [if_neg h]
    exact if_pos (Nat.not_le.1 h)

/-- Settles O43: the disposal of a frame on D, and the pairs of a reply. -/
theorem goodFrameOnDDisposed : Obligations.GoodFrameOnDDisposed := by
  refine ⟨enterU_eq, ?_, fun status rest => ⟨rfl, rfl, fun _ => rfl, fun _ _ => rfl⟩, fun source point result s =>
    ⟨fun hr => ?_, fun hno => ?_, fun p ha hst hpt hb => ?_⟩, ?_⟩
  · rintro f s h hp hf rfl
    have hx : exec (.goodFrameOnD f) s =
        .next (s.endingAt (disposeD f { s.part with line := { s.part.line with rxD := .hunt } })) := by
      rw [exec_running rfl hp]
      exact congrArg (fun t => Host.Outcome.next (s.endingAt t)) (if_pos hf)
    rw [hx, disposeD]
    refine ⟨fun hk hd => ?_, fun hk => ?_, fun hk hn known hknown => ⟨fun h => ?_, fun h => ?_⟩⟩
    · rw [if_pos ⟨hk, hd⟩]
      rfl
    · have hn : ¬f.kind = kindReply := by rw [hk]; decide
      rw [if_neg fun hh => hn hh.1, if_pos hk]
    · rw [if_neg (by exact hn), if_neg hk, intakeFrame, if_pos (by exact knownSource_iff.2 (hknown.1 h))]
      rfl
    · have hk' : ¬knownSource s.part.tab f.source.toNat = true := fun hh => by
        rw [hknown.2 (knownSource_iff.1 hh)] at h
        cases h
      rw [if_neg (by exact hn), if_neg hk, intakeFrame, if_neg (by exact hk')]
      rfl
  · exact if_neg hr
  · have hn : itemPump s.tab source.toNat point.toNat = none :=
      itemPump_none.2 fun p ha hp => hno p ⟨ha, hp⟩
    by_cases hr : result = 1
    · rw [inspectPair, if_pos hr, hn]
    · exact if_neg hr
  · rw [inspectPair, if_pos rfl, itemPump_of ha ⟨hst, hpt⟩ hb]
    rfl
  · rintro v p x y rfl
    exact refusedReport_eq v p x

end Sys2Proof.Machine
end

section
/-!
PROOFS. The grant scan: its walk over the requests of a feeder, the grant, and the committed power (R95, R100 to R102).
-/

namespace Sys2Proof.Machine

/-! ### A reconciliation grants nothing -/

/-- No change that a reconciliation is made of makes a pump STARTING (R61). -/
theorem notStarting_keptByReconcile (tab : Settings) (p : Fin 32) :
    KeptByReconcile tab fun x => (x.pump p).state ≠ .starting := by
  have write : ∀ {x y : Plant} {p' : Fin 32} {q : Pump}, (y.pump p).state ≠ .starting → x.pump p = (y.setPump p' q).pump p →
      (q.state = .starting → (y.pump p').state = .starting) → (x.pump p).state ≠ .starting := by
    intro x y p' q hy hx hq
    rw [hx]
    by_cases e : p = p'
    · subst e
      rw [Plant.pump_setPump_same]
      exact fun h => hy (hq h)
    · rwa [Plant.pump_setPump_ne _ e]
  exact
    { events := fun hx _ => hx
      nextId := fun _ hx => hx
      shortfall := fun _ hx _ => hx
      advice := fun hx _ _ _ => hx
      spacing := fun hx _ => hx
      quiet := fun hx hq => write hx rfl fun h => hq.state ▸ h
      report := fun hx hs _ => write hx (by rw [handCommitted_pump]) fun h => hs ▸ h
      move := fun {x p' q'} hx _ hs _ => write (y := x.leaveQueue p') (p' := p') (q := q')
        (by rwa [Plant.leaveQueue_pump]) (by rw [handCommitted_pump]) fun h => absurd h hs
      leave := fun {x p' q'} hx _ hs _ => write (y := x.leaveQueue p') (p' := p') (q := q')
        (by rwa [Plant.leaveQueue_pump]) (by rw [handCommitted_pump, leaveStarting_pump]) fun h => absurd h hs
      enqueue := fun {x p'} v _ hx _ => write (y := x) (p' := p') (q := (x.pump p').goto .queued) hx
        (by rw [enqueue, handCommitted_pump, enterRequest_pump]) nofun }

/-! ### The grant (R67, R102) -/

theorem grant_feeder_ne (v : View) {f g : Feeder} {p : Fin 32} (x : Plant) (hf : g ≠ f) (hp : g ≠ v.tab.t3[p].feeder) :
    (grant v f p x).feeder g = x.feeder g := by
  rw [grant_eq, handCommitted, recommit_feeder_ne _ hp, startedOn_feeder_ne _ hf]
  rfl

theorem grant_pump_same (v : View) (f : Feeder) (p : Fin 32) (x : Plant) : (grant v f p x).pump p =
    { ({ (x.pump p).goto .starting with uncommanded := false } : Pump).dropCmd with
      cmd := some ⟨.run, .awaiting, x.nextId⟩ } := by
  rw [grant_eq, handCommitted_pump, startedOn_pump_same]
  rfl

theorem grant_pump_ne (v : View) (f : Feeder) {p p' : Fin 32} (h : p' ≠ p) (x : Plant) :
    (grant v f p x).pump p' = x.pump p' := by
  rw [grant_eq, handCommitted_pump, startedOn_pump_ne _ _ h]
  rfl

/-- The start slot of a grant is taken; the committed change does not touch it (R102). -/
theorem grant_slot (v : View) (f : Feeder) (p : Fin 32) (x : Plant) :
    ((grant v f p x).feeder f).busy = true ∧ ((grant v f p x).feeder f).holder = p ∧
    ((grant v f p x).feeder f).released = false ∧
    ((grant v f p x).feeder f).spacingT = startTimer v.now (v.tab.feeder f).spacing := by
  obtain ⟨hb, hh, hr, ht, -⟩ := SlotsFrom.handCommitted
    v.tab p (startedOn v f p .awaiting { x with queue := removeRequest p x.queue }) f
  rw [grant_eq, hb, hh, hr, ht, startedOn_feeder_same]
  exact ⟨rfl, rfl, rfl, rfl⟩

/-! ### The walk (R101) -/

theorem fits_iff {v : View} {f : Feeder} {x : Plant} {e : Request} :
    fits v f x e = true ↔ (x.feeder f).committed + v.tab.t3[e.pump].rating ≤ (v.tab.feeder f).budget := by
  rw [fits, decide_eq_true_eq]

/-- A walk heeds the requests of its feeder alone. -/
theorem walk_filter (v : View) (f : Feeder) (x : Plant) (q : List Request) :
    walk v f x q = walk v f x (q.filter fun e => e.feeder == f) := by
  induction q with
  | nil => rfl
  | cons e q ih =>
    by_cases hf : e.feeder = f
    · rw [List.filter_cons_of_pos (by simpa using hf)]
      simp only [walk, ih]
    · rw [List.filter_cons_of_neg (by simpa using hf), walk, if_pos hf, ih]

theorem walk_fitting {v : View} {f : Feeder} {x : Plant} {e : Request} (hf : e.feeder = f) (h : fits v f x e = true)
    (q : List Request) : walk v f x (e :: q) = ([], some e) := by
  rw [walk, if_neg (not_not.2 hf), if_pos h]

theorem walk_blocking {v : View} {f : Feeder} {x : Plant} {e : Request} (hf : e.feeder = f) (h : ¬fits v f x e = true)
    (hb : e.blocking = true) (q : List Request) : walk v f x (e :: q) = ([], none) := by
  rw [walk, if_neg (not_not.2 hf), if_neg h, if_pos hb]

/-- Requests of the feeder that neither fit nor block are passed over. -/
theorem walk_append {v : View} {f : Feeder} {x : Plant} (passed rest : List Request)
    (hp : ∀ e ∈ passed, e.feeder = f ∧ ¬fits v f x e = true ∧ e.blocking = false) :
    walk v f x (passed ++ rest) =
      (passed.map (·.pump) ++ (walk v f x rest).1, (walk v f x rest).2) := by
  induction passed with
  | nil => rfl
  | cons e passed ih =>
    obtain ⟨hf, hn, hb⟩ := hp e List.mem_cons_self
    rw [List.cons_append, walk, if_neg (not_not.2 hf), if_neg hn, if_neg (by rw [hb]; exact nofun),
      ih fun e' he' => hp e' (List.mem_cons_of_mem _ he')]
    rfl

/-- The request that a walk grants stands in the queue for the feeder, and fits (R101). -/
theorem walk_granted {v : View} {f : Feeder} {x : Plant} {q : List Request} {passed : List (Fin 32)} {e : Request}
    (h : walk v f x q = (passed, some e)) : e ∈ q ∧ e.feeder = f ∧ fits v f x e = true := by
  induction q generalizing passed with
  | nil => cases h
  | cons e' q ih =>
    have tail : ∀ {ps : List (Fin 32)}, walk v f x q = (ps, some e) →
        e ∈ e' :: q ∧ e.feeder = f ∧ fits v f x e = true := fun h =>
      (ih h).imp_left (List.mem_cons_of_mem _)
    rw [walk] at h
    split at h
    · exact tail h
    · next hf =>
      split at h
      · next hfit =>
        cases h
        exact ⟨List.mem_cons_self, not_not.1 hf, hfit⟩
      · split at h
        · cases h
        · exact tail (Prod.ext rfl (by simpa using congrArg Prod.snd h : (walk v f x q).2 = some e))

/-! ### The scan (R100, R102) -/

/-- The feeder of a scan with its mark taken. -/
def Plant.unmarked (x : Plant) (f : Feeder) : Plant := x.setFeeder f { x.feeder f with scanDue := false }

@[simp] theorem Plant.unmarked_queue (x : Plant) (f : Feeder) : (x.unmarked f).queue = x.queue := by
  cases f <;> rfl

@[simp] theorem Plant.unmarked_pump (x : Plant) (f : Feeder) (p : Fin 32) : (x.unmarked f).pump p = x.pump p := by
  cases f <;> rfl

@[simp] theorem Plant.unmarked_feeder (x : Plant) (f : Feeder) :
    (x.unmarked f).feeder f = { x.feeder f with scanDue := false } := by
  cases f <;> rfl

theorem fits_unmarked (v : View) (f : Feeder) (x : Plant) (e : Request) : fits v f (x.unmarked f) e = true ↔
    (x.feeder f).committed + v.tab.t3[e.pump].rating ≤ (v.tab.feeder f).budget := by
  rw [fits_iff, Plant.unmarked_feeder]

theorem scan_busy {v : View} {f : Feeder} {x : Plant} (h : (x.feeder f).busy = true) : scan v f x = x.unmarked f := by
  refine if_pos (?_ : ((x.unmarked f).feeder f).busy = true)
  rw [Plant.unmarked_feeder]
  exact h

theorem scan_free {v : View} {f : Feeder} {x : Plant} (h : (x.feeder f).busy = false) : scan v f x =
    match walk v f (x.unmarked f) x.queue with
    | (_, none) => x.unmarked f
    | (passed, some e) => finishPump v e.pump
        (grant v f e.pump { x.unmarked f with queue := x.queue.map (passOver v.tab.t9.bypassLimit passed) }) := by
  rw [← Plant.unmarked_queue x f]
  refine if_neg (?_ : ¬((x.unmarked f).feeder f).busy = true)
  rw [Plant.unmarked_feeder]
  exact Bool.eq_false_iff.1 h

theorem scan_ungranted {v : View} {f : Feeder} {x : Plant} {passed : List (Fin 32)} (hf : (x.feeder f).busy = false)
    (h : walk v f (x.unmarked f) x.queue = (passed, none)) : scan v f x = x.unmarked f := by
  rw [scan_free hf, h]

theorem scan_granted {v : View} {f : Feeder} {x : Plant} {passed : List (Fin 32)} {e : Request}
    (hf : (x.feeder f).busy = false) (h : walk v f (x.unmarked f) x.queue = (passed, some e)) : scan v f x =
      finishPump v e.pump
        (grant v f e.pump { x.unmarked f with queue := x.queue.map (passOver v.tab.t9.bypassLimit passed) }) := by
  rw [scan_free hf, h]

/-- Only the pump that a scan grants becomes STARTING, and it held a request that fits (R100, R101). -/
theorem scan_starting {v : View} {f : Feeder} {x : Plant} {p : Fin 32} (hp : (x.pump p).state ≠ .starting)
    (hs : ((scan v f x).pump p).state = .starting) : (x.feeder f).busy = false ∧
      (x.feeder f).committed + v.tab.t3[p].rating ≤ (v.tab.feeder f).budget ∧
      ∃ e ∈ x.queue, e.pump = p ∧ e.feeder = f := by
  have unchanged : ¬scan v f x = x.unmarked f := fun h => by
    rw [h, Plant.unmarked_pump] at hs
    exact hp hs
  cases hb : (x.feeder f).busy with
  | true => exact absurd (scan_busy hb) unchanged
  | false =>
    rcases hw : walk v f (x.unmarked f) x.queue with ⟨passed, granted⟩
    cases granted with
    | none => exact absurd (scan_ungranted hb hw) unchanged
    | some e =>
      obtain ⟨hm, hf, hfit⟩ := walk_granted hw
      have hpe : p = e.pump := by
        by_contra hne
        refine (notStarting_keptByReconcile v.tab p).finishPump ?_ (scan_granted hb hw ▸ hs)
        rw [grant_pump_ne _ _ hne]
        have hu : ((x.unmarked f).pump p).state ≠ .starting := by rwa [Plant.unmarked_pump]
        exact hu
      subst hpe
      exact ⟨rfl, (fits_unmarked v f x e).1 hfit, e, hm, rfl, hf⟩

theorem passOver_map (limit : Nat) (passed : List Request) (r : Request) : passOver limit (passed.map (·.pump)) r =
    if ∃ r' ∈ passed, r'.pump = r.pump then
      { r with bypass := r.bypass + 1, blocking := r.blocking || decide (limit ≤ r.bypass + 1) }
    else r := by
  rw [passOver]
  exact if_congr List.mem_map rfl rfl

/-- Settles O34: the grant of a scan, its walk, and the committed power. -/
theorem grantTakesSlot : Obligations.GrantTakesSlot := by
  refine ⟨fun v f x p => scan_starting, fun v f p x => ⟨⟨?_, fun p' h => grant_pump_ne v f h x⟩, ?_, fun g =>
    grant_feeder_ne v x, ?_, ?_, ?_, ?_, grant_slot v f p x⟩, ?_, ?_⟩
  · rw [grant_eq, handCommitted_stages]
    cases f <;> rfl
  · rw [grant_eq, handCommitted_queue, startedOn_queue]
  · rw [grant_eq, handCommitted_events]
    cases f <;> rfl
  · rw [grant_pump_same]; rfl
  · rw [grant_pump_same]; rfl
  · rw [grant_pump_same]
  · rintro v f x y fit rfl hfit
    change (_ → scan v f x = x.unmarked f) ∧ _
    refine ⟨scan_busy, fun hb passed rest hq hpassed => ?_⟩
    have hw : walk v f (x.unmarked f) x.queue = (passed.map (·.pump) ++ (walk v f (x.unmarked f) rest).1,
        (walk v f (x.unmarked f) rest).2) := by
      rw [walk_filter, hq]
      refine walk_append passed rest fun e he => ?_
      have hmem : e ∈ x.queue.filter fun e => e.feeder == f := hq ▸ List.mem_append_left _ he
      exact ⟨by simpa using (List.mem_filter.1 hmem).2, fun h =>
        (hpassed e he).1 ((hfit e).2 ((fits_unmarked v f x e).1 h)), (hpassed e he).2⟩
    refine ⟨?_, ?_⟩
    · rintro rfl
      exact scan_ungranted hb hw
    · rintro e behind rfl
      have hf : e.feeder = f := by
        have hmem : e ∈ x.queue.filter fun e => e.feeder == f := hq ▸ List.mem_append_right _ List.mem_cons_self
        simpa using (List.mem_filter.1 hmem).2
      refine ⟨fun hn hbl => ?_, fun hfits => ?_⟩
      · rw [walk_blocking hf (fun h => hn ((hfit e).2 ((fits_unmarked v f x e).1 h))) hbl] at hw
        exact scan_ungranted hb hw
      · rw [walk_fitting hf ((fits_unmarked v f x e).2 ((hfit e).1 hfits)), List.append_nil] at hw
        rw [scan_granted hb hw, funext (passOver_map v.tab.t9.bypassLimit passed)]
        rfl
  · rintro tab f x power rfl
    refine ⟨rfl, ?_⟩
    rintro p rfl
    rfl

end Sys2Proof.Machine
end

section
/-!
PROOFS. Stage reconciliation: its counts, what the enqueues, withdrawals and stop decisions do to them, the dry run,
the advice of ADVISORY, and that the reconciliations which follow one another come to an end (R76 to R90).
-/

namespace Sys2Proof.Machine

variable {v : View} {k : Fin 8} {x y : Plant} {p : Fin 32}

/-! ### The pumps of a stage, and their counts (R79) -/

theorem ownPumps_eq (tab : Settings) (k : Fin 8) : ownPumps tab k = stagePumps tab k := by
  have hs : stageSlots k = slots.filter fun p => stageOf p == k :=
    (by decide : ∀ k : Fin 8, stageSlots k = slots.filter fun p => stageOf p == k) k
  rw [ownPumps, stagePumps, hs, List.filter_filter]
  exact List.filter_congr fun p _ => Bool.and_comm ..

theorem stagePumps_nodup (tab : Settings) (k : Fin 8) : (stagePumps tab k).Nodup :=
  (stagePumps_pairwise tab k).imp ne_of_lt

theorem stagePumps_length_le (tab : Settings) (k : Fin 8) : (stagePumps tab k).length ≤ 4 :=
  (List.length_filter_le ..).trans ((by decide : ∀ k : Fin 8, (stageSlots k).length ≤ 4) k)

/-- The pump counts in R_other: not AUTO, and last reported RUNNING or STARTING (R79). -/
def Pump.runsOther (q : Pump) : Bool := !q.isAuto && (q.feedback == .running || q.state == .starting)

theorem rOther_eq (v : View) (k : Fin 8) (x : Plant) :
    rOther v k x = (stagePumps v.tab k).countP fun p => (x.pump p).runsOther := List.countP_eq_length_filter.symm

theorem cCount_eq (v : View) (k : Fin 8) (x : Plant) :
    cCount v k x = (stagePumps v.tab k).countP fun p => (x.pump p).counts := List.countP_eq_length_filter.symm

theorem aCount_congr (hs : (y.stage k).override = (x.stage k).override) (hw : (y.stage k).w = (x.stage k).w)
    (hr : ∀ p, (y.pump p).runsOther = (x.pump p).runsOther) : aCount v k y = aCount v k x := by
  rw [aCount, aCount, hs, hw, rOther_eq, rOther_eq]
  simp only [hr]

theorem cCount_congr (h : ∀ p, y.pump p = x.pump p) : cCount v k y = cCount v k x := by
  rw [cCount_eq, cCount_eq]
  simp only [h]

/-- A count over distinct pumps of which one has changed. -/
theorem countP_change {l : List (Fin 32)} {f g : Fin 32 → Bool} (hn : l.Nodup) (hp : p ∈ l)
    (h : ∀ p', p' ≠ p → g p' = f p') : l.countP g + (f p).toNat = l.countP f + (g p).toNat := by
  have add : ∀ (f : Fin 32 → Bool) (a : Fin 32) (l : List (Fin 32)), (a :: l).countP f = l.countP f + (f a).toNat :=
    fun f a l => by rw [List.countP_cons]; cases f a <;> rfl
  induction l with
  | nil => cases hp
  | cons a l ih =>
    obtain ⟨ha, hl⟩ := List.nodup_cons.1 hn
    rw [add, add]
    by_cases e : p = a
    · subst e
      have same : l.countP g = l.countP f := List.countP_congr fun p' hp' => by
        rw [h p' fun e => ha (e ▸ hp')]
      omega
    · rw [h a fun e' => e e'.symm]
      have := ih hl ((List.mem_cons.1 hp).resolve_left e)
      omega

theorem OnlyPump.stage (h : OnlyPump p x y) (k : Fin 8) : y.stage k = x.stage k := by
  simp only [Plant.stage, h.1]

theorem OnlyPump.aCount (h : OnlyPump p x y) (hr : (y.pump p).runsOther = (x.pump p).runsOther) (v : View) (k : Fin 8) :
    aCount v k y = Machine.aCount v k x :=
  aCount_congr (by rw [h.stage]) (by rw [h.stage]) fun p' => by
    by_cases e : p' = p
    · rw [e, hr]
    · rw [h.2 p' e]

theorem OnlyPump.cCount (h : OnlyPump p x y) (hp : p ∈ stagePumps v.tab k) :
    cCount v k y + (x.pump p).counts.toNat = Machine.cCount v k x + (y.pump p).counts.toNat := by
  rw [cCount_eq, cCount_eq]
  exact countP_change (f := fun p => (x.pump p).counts) (g := fun p => (y.pump p).counts) (stagePumps_nodup ..) hp
    fun p' hp' => congrArg Pump.counts (h.2 p' hp')

/-! ### Enqueues (R82) -/

theorem enqueue_pump (v : View) (p : Fin 32) (x : Plant) : (enqueue v p x).pump p = (x.pump p).goto .queued := by
  rw [enqueue, handCommitted_pump, enterRequest_pump, Plant.pump_setPump_same]

theorem eligible_isAuto (h : eligible v x p = true) : (x.pump p).isAuto = true := by
  obtain ⟨ho, hl, -⟩ := (eligible_iff v x p).1 h
  simp [Pump.isAuto, ho, hl]

theorem eligible_state (h : eligible v x p = true) : (x.pump p).state = .off := ((eligible_iff v x p).1 h).2.2.1

/-- An enqueue of an eligible pump adds 1 to C and keeps A. -/
theorem enqueue_counts (hp : p ∈ stagePumps v.tab k) (he : eligible v x p = true) :
    cCount v k (enqueue v p x) = cCount v k x + 1 ∧ aCount v k (enqueue v p x) = aCount v k x := by
  have ha := eligible_isAuto he
  have haq : ((x.pump p).goto .queued).isAuto = true := ha
  refine ⟨?_, (enqueue_frame v p x).aCount ?_ v k⟩
  · have hc := (enqueue_frame v p x).cCount hp
    rw [enqueue_pump] at hc
    have hf : (x.pump p).counts = false := by simp [Pump.counts, eligible_state he]
    have ht : ((x.pump p).goto .queued).counts = true := by
      rw [Pump.counts, haq]
      rfl
    rw [hf, ht] at hc
    exact hc
  · rw [enqueue_pump, Pump.runsOther, Pump.runsOther, haq, ha]
    rfl

theorem eligible_enqueue (v : View) (p p' : Fin 32) (x : Plant) :
    eligible v (enqueue v p x) p' = (eligible v x p' && p' != p) := by
  by_cases e : p' = p
  · subst e
    rw [eligible, enqueue_pump]
    simp [Pump.goto]
  · rw [eligible, eligible, (enqueue_frame v p x).2 p' e]
    simp [e]

theorem startsFirst_enqueue (v : View) (p p₁ p₂ : Fin 32) (x : Plant) :
    StartsFirst v (enqueue v p x) p₁ p₂ ↔ StartsFirst v x p₁ p₂ := by
  have warn : ∀ p', ((enqueue v p x).pump p').warn = (x.pump p').warn := fun p' => by
    by_cases e : p' = p
    · rw [e, enqueue_pump]
      rfl
    · rw [(enqueue_frame v p x).2 p' e]
  simp only [StartsFirst, warn]

/-- The first `n` eligible pumps in the order of R82 are enqueued, or all where they are fewer (R82). -/
theorem enqueueUpTo_chosen (v : View) (k : Fin 8) (n : Nat) (x : Plant) (able : List (Fin 32))
    (hable : able = (stagePumps v.tab k).filter (eligible v x)) :
    ∃ chosen : List (Fin 32), chosen.length = min n able.length ∧ (∀ p ∈ chosen, p ∈ able) ∧
      chosen.Pairwise (StartsFirst v x) ∧ (∀ p ∈ chosen, ∀ p' ∈ able, p' ∉ chosen → StartsFirst v x p p') ∧
      enqueueUpTo v k n x = chosen.foldl (fun z p => enqueue v p z) x ∧
      cCount v k (enqueueUpTo v k n x) = cCount v k x + chosen.length ∧
      aCount v k (enqueueUpTo v k n x) = aCount v k x := by
  induction n generalizing x able with
  | zero => exact ⟨[], by simp, nofun, .nil, nofun, rfl, rfl, rfl⟩
  | succ n ih =>
    rw [enqueueUpTo]
    split
    · next hnone =>
      have hnil : able = [] := hable ▸ pickFirst_eq_none.1 hnone
      exact ⟨[], by simp [hnil], nofun, .nil, nofun, rfl, rfl, rfl⟩
    · next p hp =>
      obtain ⟨⟨hk, ha, he⟩, hfirst⟩ := (startChoice_iff v k x p).1 hp
      have hmem : p ∈ stagePumps v.tab k := mem_stagePumps.2 ⟨hk, ha⟩
      have hpable : p ∈ able := hable ▸ List.mem_filter.2 ⟨hmem, he⟩
      have hrest : able.filter (· != p) = (stagePumps v.tab k).filter (eligible v (enqueue v p x)) := by
        rw [hable, List.filter_filter]
        exact List.filter_congr fun p' _ => by rw [eligible_enqueue, Bool.and_comm]
      have hnodup : able.Nodup := hable ▸ (stagePumps_nodup v.tab k).filter _
      have hlen : (able.filter (· != p)).length + 1 = able.length := by
        rw [← hnodup.erase_eq_filter, List.length_erase_of_mem hpable]
        have := List.length_pos_of_mem hpable
        omega
      obtain ⟨chosen, hl, hsub, hpair, hbehind, hx, hc, hA⟩ := ih (enqueue v p x) _ hrest
      obtain ⟨hc1, hA1⟩ := enqueue_counts hmem he
      have hfirst' : ∀ p' ∈ able, p' ≠ p → StartsFirst v x p p' := fun p' hp' hne => by
        rw [hable, List.mem_filter, mem_stagePumps] at hp'
        exact hfirst p' hp'.1.1 hp'.1.2 hp'.2 hne
      have hsub' : ∀ p' ∈ chosen, p' ∈ able ∧ p' ≠ p := fun p' hp' => by
        simpa using hsub p' hp'
      refine ⟨p :: chosen, ?_, ?_, List.pairwise_cons.2 ⟨?_, hpair.imp (startsFirst_enqueue v p _ _ x).1⟩, ?_, hx, ?_,
        hA.trans hA1⟩
      · rw [List.length_cons, hl]
        omega
      · exact List.forall_mem_cons.2 ⟨hpable, fun p' hp' => (hsub' p' hp').1⟩
      · exact fun p' hp' => hfirst' p' (hsub' p' hp').1 (hsub' p' hp').2
      · intro p₁ hp₁ p' hp' hnot
        obtain ⟨hne, hnot⟩ := not_or.1 (List.mem_cons.not.1 hnot)
        rcases List.mem_cons.1 hp₁ with rfl | hp₁
        · exact hfirst' p' hp' hne
        · exact (startsFirst_enqueue v p _ _ x).1 (hbehind p₁ hp₁ p' (List.mem_filter.2 ⟨hp', by simpa using hne⟩) hnot)
      · rw [hc, hc1, List.length_cons]
        omega

end Sys2Proof.Machine
end

section
/-!
PROOFS. Stage reconciliation, continued: withdrawals, stop decisions, the dry run and the settling of O31 (R84 to R90).
-/

namespace Sys2Proof.Machine

variable {v : View} {k : Fin 8} {x y : Plant} {p : Fin 32}

/-! ### Withdrawals (R84) -/

/-- A withdrawal takes at most 1 from C and keeps A. -/
theorem withdraw_counts (v : View) (k : Fin 8) (p : Fin 32) (x : Plant) :
    cCount v k x ≤ cCount v k (withdraw v p x) + 1 ∧ aCount v k (withdraw v p x) = aCount v k x := by
  refine ⟨?_, (withdraw_frame v p x).aCount ?_ v k⟩
  · by_cases hp : p ∈ stagePumps v.tab k
    · have hc := (withdraw_frame v p x).cCount hp
      have := Bool.toNat_le (x.pump p).counts
      omega
    · refine Nat.le_succ_of_le (le_of_eq ?_)
      rw [cCount_eq, cCount_eq]
      refine List.countP_congr fun p' hp' => ?_
      rw [(withdraw_frame v p x).2 p' fun e => hp (e ▸ hp')]
  · rw [withdraw_pump]
    split
    · next hq =>
      rw [Pump.runsOther, Pump.runsOther, hq]
      rfl
    · rfl

/-- The requests of a stage. -/
def requestsOf (k : Fin 8) (q : List Request) : List Request := q.filter fun e => stageOf e.pump == k

theorem requestsOf_requestsOf (k : Fin 8) (q : List Request) : requestsOf k (requestsOf k q) = requestsOf k q := by
  rw [requestsOf, requestsOf, List.filter_filter]
  simp only [Bool.and_self]

theorem mem_requestsOf {q : List Request} {e : Request} : e ∈ requestsOf k q ↔ e ∈ q ∧ stageOf e.pump = k := by
  simp [requestsOf]

/-- The removal of a request takes it from those of its stage, and keeps those that entered before it as they are. -/
theorem requestsOf_removeRequest {q : List Request} {e : Request} (he : e ∈ requestsOf k q)
    (hn : ((requestsOf k q).map Request.pump).Nodup) (hr : ∀ e' ∈ requestsOf k q, e'.rank ≤ e.rank) :
    requestsOf k (removeRequest e.pump q) = (requestsOf k q).filter fun e' => e'.pump != e.pump := by
  obtain ⟨hm, hk⟩ := mem_requestsOf.1 he
  have hfind : requestOf e.pump q = some e := by
    cases h : requestOf e.pump q with
    | none => exact absurd (List.find?_eq_none.1 h e hm) (by simp)
    | some r =>
      have hp : r.pump = e.pump := by simpa using List.find?_some h
      have hr : r ∈ requestsOf k q := mem_requestsOf.2 ⟨List.mem_of_find?_eq_some h, by rw [hp]; exact hk⟩
      exact congrArg some (List.inj_on_of_nodup_map hn hr he hp)
  have hmap : requestsOf k (removeRequest e.pump q) =
      ((requestsOf k q).filter fun e' => e'.pump != e.pump).map (lowerRank e) := by
    rw [removeRequest_of_some hfind, requestsOf, List.filter_map, requestsOf, List.filter_filter, List.filter_filter]
    congr 1
    refine List.filter_congr fun e' _ => ?_
    rw [Function.comp_apply, lowerRank_pump, Bool.and_comm]
  have same : ∀ e' ∈ (requestsOf k q).filter fun e' => e'.pump != e.pump, lowerRank e e' = id e' := fun e' he' =>
    if_neg (Nat.not_lt.2 (hr e' (List.mem_filter.1 he').1))
  rw [hmap, List.map_congr_left same, List.map_id]

theorem latestRequest_requestsOf (k : Fin 8) (q : List Request) :
    latestRequest k q = latestRequest k (requestsOf k q) :=
  congrArg (pickFirst _) (requestsOf_requestsOf k q).symm

/-- The requests of the stage are withdrawn from the latest on, as many as are asked for (R84). -/
theorem withdrawUpTo_gone (v : View) (k : Fin 8) (n : Nat) (x : Plant) (hp : ((requestsOf k x.queue).map Request.pump).Nodup)
    (hr : ((requestsOf k x.queue).map Request.rank).Nodup)
    (hq : ∀ e ∈ requestsOf k x.queue, (x.pump e.pump).state = .queued) :
    ∃ gone : List Request, gone.length = min n (requestsOf k x.queue).length ∧
      (∀ e ∈ gone, e ∈ requestsOf k x.queue) ∧ gone.Pairwise (fun e e' => e'.rank < e.rank) ∧
      (∀ e ∈ gone, ∀ e' ∈ requestsOf k x.queue, e' ∉ gone → e'.rank < e.rank) ∧
      withdrawUpTo v k n x = gone.foldl (fun z e => withdraw v e.pump z) x := by
  induction n generalizing x with
  | zero => exact ⟨[], by simp, nofun, .nil, nofun, rfl⟩
  | succ n ih =>
    rw [withdrawUpTo]
    split
    · next hnone =>
      have hnil : requestsOf k x.queue = [] := pickFirst_eq_none.1 hnone
      exact ⟨[], by simp [hnil], nofun, .nil, nofun, rfl⟩
    · next e he =>
      rw [latestRequest_requestsOf, latestRequest_iff hr] at he
      obtain ⟨hm, -, hlast⟩ := he
      have hk : ∀ {e'}, e' ∈ requestsOf k x.queue → stageOf e'.pump = k := fun h => (mem_requestsOf.1 h).2
      have hz : requestsOf k (withdraw v e.pump x).queue =
          (requestsOf k x.queue).filter fun e' => e'.pump != e.pump := by
        rw [withdraw_queued (hq e hm), handCommitted_queue, Plant.setPump_queue, dequeue_queue]
        refine requestsOf_removeRequest hm hp fun e' he' => ?_
        by_cases h : e' = e
        · rw [h]
        · exact Nat.le_of_lt (hlast e' he' (hk he') h)
      have hother : ∀ {e'}, e' ∈ requestsOf k (withdraw v e.pump x).queue ↔
          e' ∈ requestsOf k x.queue ∧ e'.pump ≠ e.pump := fun {e'} => by
        rw [hz, List.mem_filter, bne_iff_ne]
      have hne : ∀ {e'}, e' ∈ requestsOf k x.queue → (e'.pump ≠ e.pump ↔ e' ≠ e) := fun h =>
        not_congr ⟨fun h' => List.inj_on_of_nodup_map hp h hm h', fun h' => by rw [h']⟩
      have hsub := hz ▸ List.filter_sublist
      obtain ⟨gone, hl, hin, hpair, hbehind, hx⟩ := ih (withdraw v e.pump x) ((hsub.map _).nodup hp) ((hsub.map _).nodup hr)
        fun e' he' => by
          rw [(withdraw_frame v e.pump x).2 _ (hother.1 he').2]
          exact hq e' (hother.1 he').1
      refine ⟨e :: gone, ?_, ?_, List.pairwise_cons.2 ⟨fun e' he' => ?_, hpair⟩, ?_, hx⟩
      · have hlen : (requestsOf k (withdraw v e.pump x).queue).length + 1 = (requestsOf k x.queue).length := by
          have herase : (requestsOf k x.queue).filter (fun e' => e'.pump != e.pump) = (requestsOf k x.queue).erase e := by
            rw [(List.Nodup.of_map _ hp).erase_eq_filter]
            refine List.filter_congr fun e' he' => ?_
            rw [Bool.eq_iff_iff, bne_iff_ne, bne_iff_ne]
            exact hne he'
          have := List.length_pos_of_mem hm
          rw [hz, herase, List.length_erase_of_mem hm]
          omega
        rw [List.length_cons, hl]
        omega
      · exact List.forall_mem_cons.2 ⟨hm, fun e' he' => (hother.1 (hin e' he')).1⟩
      · obtain ⟨hin', hp'⟩ := hother.1 (hin e' he')
        exact hlast e' hin' (hk hin') ((hne hin').1 hp')
      · intro e₁ he₁ e' he' hnot
        obtain ⟨hne', hnot⟩ := not_or.1 (List.mem_cons.not.1 hnot)
        rcases List.mem_cons.1 he₁ with rfl | he₁
        · exact hlast e' he' (hk he') hne'
        · exact hbehind e₁ he₁ e' (hother.2 ⟨he', (hne he').2 hne'⟩) hnot

/-- Withdrawals stop at A, so that C does not fall below it, and keep A. -/
theorem withdrawUpTo_counts (v : View) (k : Fin 8) (n : Nat) (x : Plant) :
    cCount v k x ≤ cCount v k (withdrawUpTo v k n x) + n ∧ aCount v k (withdrawUpTo v k n x) = aCount v k x := by
  induction n generalizing x with
  | zero => exact ⟨le_rfl, rfl⟩
  | succ n ih =>
    rw [withdrawUpTo]
    split
    · exact ⟨Nat.le_add_right _ _, rfl⟩
    · next e _ =>
      obtain ⟨hc, ha⟩ := withdraw_counts v k e.pump x
      obtain ⟨hc', ha'⟩ := ih (withdraw v e.pump x)
      exact ⟨by omega, ha'.trans ha⟩

/-! ### Stop decisions (R68, R85) -/

theorem stopDecision_eq (v : View) (p : Fin 32) (x : Plant) : stopDecision v p x =
    handCommitted v.tab p (leaveStarting p { x.setPump p { ((x.pump p).goto .stopping).dropCmd with
      cmd := some ⟨.stop, .awaiting, x.nextId⟩ } with nextId := x.nextId + 1 }) := by
  rw [stopDecision, Plant.setPump_makePending]

theorem stopDecision_pump (v : View) (p : Fin 32) (x : Plant) : (stopDecision v p x).pump p =
    { ((x.pump p).goto .stopping).dropCmd with cmd := some ⟨.stop, .awaiting, x.nextId⟩ } := by
  rw [stopDecision_eq, handCommitted_pump, leaveStarting_pump]
  exact Plant.pump_setPump_same x p _

/-- The RUNNING pumps of a stage. -/
def runningCount (v : View) (k : Fin 8) (x : Plant) : Nat :=
  (stagePumps v.tab k).countP fun p => (x.pump p).state == .running

theorem runningCount_congr (h : ∀ p, ((y.pump p).state == .running) = ((x.pump p).state == .running)) :
    runningCount v k y = runningCount v k x := List.countP_congr fun p _ => by rw [h]

theorem runningCount_le (v : View) (k : Fin 8) (x : Plant) : runningCount v k x ≤ 4 :=
  List.countP_le_length.trans (stagePumps_length_le v.tab k)

theorem withdraw_runningCount (v : View) (k : Fin 8) (p : Fin 32) (x : Plant) :
    runningCount v k (withdraw v p x) = runningCount v k x :=
  runningCount_congr fun p' => by
    by_cases e : p' = p
    · rw [e, withdraw_pump]
      split
      · next hq =>
        rw [hq]
        rfl
      · rfl
    · rw [(withdraw_frame v p x).2 p' e]

theorem withdrawUpTo_runningCount (v : View) (k : Fin 8) (n : Nat) (x : Plant) :
    runningCount v k (withdrawUpTo v k n x) = runningCount v k x := by
  induction n generalizing x with
  | zero => rfl
  | succ n ih =>
    rw [withdrawUpTo]
    split
    · rfl
    · next e _ => exact (ih _).trans (withdraw_runningCount v k e.pump x)

theorem stopChoice_candidate (h : stopChoice v k x = some p) :
    p ∈ stagePumps v.tab k ∧ (x.pump p).isAuto = true ∧ (x.pump p).state = .running := by
  unfold stopChoice at h
  split at h
  · obtain ⟨hm, hc⟩ := List.mem_filter.1 (mem_of_pickFirst h)
    obtain ⟨ho, hl, hs, -⟩ := (stopCandidate_iff k x p).1 hc
    exact ⟨hm, by simp [Pump.isAuto, ho, hl], hs⟩
  · cases h

/-- A stop takes 1 from C and a RUNNING pump from the stage, and keeps A. -/
theorem stopDecision_counts (h : stopChoice v k x = some p) :
    cCount v k (stopDecision v p x) + 1 = cCount v k x ∧ aCount v k (stopDecision v p x) = aCount v k x ∧
      runningCount v k (stopDecision v p x) + 1 = runningCount v k x := by
  obtain ⟨hm, ha, hs⟩ := stopChoice_candidate h
  have hframe := stopDecision_frame v p x
  have ha' : ((stopDecision v p x).pump p).isAuto = true := by
    rw [stopDecision_pump]
    exact ha
  have hs' : ((stopDecision v p x).pump p).state = .stopping := by
    rw [stopDecision_pump]
    rfl
  refine ⟨?_, hframe.aCount ?_ v k, ?_⟩
  · have hc := hframe.cCount hm
    rw [Pump.counts, Pump.counts, ha, ha', hs, hs'] at hc
    exact hc
  · rw [Pump.runsOther, Pump.runsOther, ha, ha']
    rfl
  · have hc := countP_change (f := fun p' => (x.pump p').state == .running)
      (g := fun p' => ((stopDecision v p x).pump p').state == .running) (stagePumps_nodup v.tab k) hm
      fun p' hp' => by rw [hframe.2 p' hp']
    rw [hs, hs'] at hc
    exact hc

theorem spacedStop_zero (h : v.tab.t2[k].spacing = 0) (p : Fin 32) (x : Plant) :
    spacedStop v k p x = stopDecision v p x := if_pos h

theorem spacedStop_spaced (h : v.tab.t2[k].spacing ≠ 0) (p : Fin 32) (x : Plant) : spacedStop v k p x =
    (stopDecision v p x).setStage k { (stopDecision v p x).stage k with
      spacingT := startTimer v.now v.tab.t2[k].spacing } := if_neg h

theorem aCount_setSpacing (v : View) (k : Fin 8) (x : Plant) (t : Timer) :
    aCount v k (x.setStage k { x.stage k with spacingT := t }) = aCount v k x :=
  aCount_congr (by rw [Plant.stage_setStage_same]) (by rw [Plant.stage_setStage_same]) fun _ => rfl

theorem spacedStop_counts (h : stopChoice v k x = some p) :
    cCount v k (spacedStop v k p x) + 1 = cCount v k x ∧ aCount v k (spacedStop v k p x) = aCount v k x := by
  obtain ⟨hc, ha, -⟩ := stopDecision_counts h
  by_cases hs : v.tab.t2[k].spacing = 0
  · rw [spacedStop_zero hs]
    exact ⟨hc, ha⟩
  · rw [spacedStop_spaced hs]
    exact ⟨(congrArg (· + 1) (cCount_congr fun _ => rfl)).trans hc, (aCount_setSpacing v k _ _).trans ha⟩

/-! ### The decisions of one reconciliation -/

/-- The report of a reconciliation: its shortfall flag and its advice. -/
theorem writeAdvice_writeShortfall (k : Fin 8) (a : Advice) (n : Nat) (b : Bool) (x : Plant) :
    writeAdvice k a n (writeShortfall k b x) = x.reported k a n b := by
  have written : writeAdvice k a n (x.setStage k { x.stage k with shortfall := b }) =
      x.setStage k { x.stage k with shortfall := b, advice := a, adviceSlot := n } := by
    rw [writeAdvice, Plant.stage_setStage_same]
    simp [Plant.setStage]
  unfold writeShortfall Plant.reported
  dsimp only
  by_cases h : b = true ∧ (x.stage k).shortfall = false
  · rw [if_pos h, if_pos (by simpa using h), ← written]
    rfl
  · rw [if_neg h, if_neg (by simpa using h), written]

theorem reported_pump (k : Fin 8) (a : Advice) (n : Nat) (b : Bool) (x : Plant) (p : Fin 32) :
    (x.reported k a n b).pump p = x.pump p := by
  unfold Plant.reported
  dsimp only
  split <;> rfl

theorem ordinaryDecisions_starts (h : cCount v k x < aCount v k x) :
    ordinaryDecisions v k x = (enqueueUpTo v k (aCount v k x - cCount v k x) x, false) := if_pos h

theorem ordinaryDecisions_reduces (h : aCount v k x ≤ cCount v k x)
    (hy : y = withdrawUpTo v k (cCount v k x - aCount v k x) x)
    (hn : cCount v k y ≤ aCount v k x ∨ stopChoice v k y = none) : ordinaryDecisions v k x = (y, false) := by
  subst hy
  rw [ordinaryDecisions]
  dsimp only
  rw [if_neg (Nat.not_lt.2 h)]
  split
  · next hlt =>
    rw [hn.resolve_left (Nat.not_le.2 hlt)]
  · rfl

theorem ordinaryDecisions_stops (h : aCount v k x ≤ cCount v k x)
    (hy : y = withdrawUpTo v k (cCount v k x - aCount v k x) x)
    (hlt : aCount v k x < cCount v k y) (hp : stopChoice v k y = some p) :
    ordinaryDecisions v k x = (spacedStop v k p y, v.tab.t2[k].spacing == 0) := by
  subst hy
  rw [ordinaryDecisions, if_neg (Nat.not_lt.2 h), if_pos hlt, hp]

theorem reconcileActive_ordinary (h : (x.stage k).override ≠ .dryRun) : reconcileActive v k x =
    ((ordinaryDecisions v k x).1.reported k .none 0
      (decide (cCount v k (ordinaryDecisions v k x).1 < aCount v k (ordinaryDecisions v k x).1)),
      (ordinaryDecisions v k x).2) := by
  rw [reconcileActive, if_neg h]
  dsimp only
  rw [writeAdvice_writeShortfall]

theorem reconcileActive_dryRun (h : (x.stage k).override = .dryRun) :
    reconcileActive v k x = ((dryRun v k x).reported k .none 0 false, false) := by
  rw [reconcileActive, if_pos h, writeAdvice_writeShortfall]

/-! ### The reconciliations that a spacing of 0 hands on (R86) -/

theorem reconcileLoop_again {n : Nat} (h : (reconcileActive v k x).2 = true) :
    reconcileLoop v k (n + 1) x = reconcileLoop v k n (reconcileActive v k x).1 := if_pos h

theorem reconcileLoop_once {n : Nat} (h : (reconcileActive v k x).2 = false) :
    reconcileLoop v k (n + 1) x = (reconcileActive v k x).1 := if_neg (Bool.eq_false_iff.1 h)

/-- A reconciliation that another follows has stopped a RUNNING pump of the stage. -/
theorem reconcileActive_again (h : (reconcileActive v k x).2 = true) :
    runningCount v k (reconcileActive v k x).1 + 1 = runningCount v k x := by
  by_cases hd : (x.stage k).override = .dryRun
  · rw [reconcileActive_dryRun hd] at h
    cases h
  rw [reconcileActive_ordinary hd] at h ⊢
  have hw := withdrawUpTo_runningCount v k (cCount v k x - aCount v k x) x
  obtain hlt | hle := Nat.lt_or_ge (cCount v k x) (aCount v k x)
  · rw [ordinaryDecisions_starts hlt] at h
    cases h
  by_cases hn : cCount v k (withdrawUpTo v k (cCount v k x - aCount v k x) x) ≤ aCount v k x ∨
      stopChoice v k (withdrawUpTo v k (cCount v k x - aCount v k x) x) = none
  · rw [ordinaryDecisions_reduces hle rfl hn] at h
    cases h
  · obtain ⟨hlt, hp⟩ := not_or.1 hn
    obtain ⟨p, hp⟩ := Option.ne_none_iff_exists'.1 hp
    rw [ordinaryDecisions_stops hle rfl (Nat.not_le.1 hlt) hp] at h ⊢
    rw [spacedStop_zero (by simpa using h)]
    rw [← hw, ← (stopDecision_counts hp).2.2]
    exact congrArg (· + 1) (runningCount_congr fun p' => by rw [reported_pump])

/-- A bound above the number of RUNNING pumps is never reached. -/
theorem reconcileLoop_stable (n : Nat) (x : Plant) (h : runningCount v k x < n) :
    reconcileLoop v k n x = reconcileLoop v k (n + 1) x := by
  induction n generalizing x with
  | zero => cases h
  | succ n ih =>
    cases hr : (reconcileActive v k x).2 with
    | false => rw [reconcileLoop_once hr, reconcileLoop_once hr]
    | true =>
      have := reconcileActive_again hr
      rw [reconcileLoop_again hr, reconcileLoop_again hr, ih _ (by omega)]

theorem reconcile_active (hon : v.tab.t2[k].enabled = true) (hm : v.mode = .active) (x : Plant) :
    reconcile v k x = reconcileLoop v k 5 x := by
  rw [reconcile, if_pos hon, hm]

theorem reconcile_once (hon : v.tab.t2[k].enabled = true) (hm : v.mode = .active)
    (h : (reconcileActive v k x).2 = false) : reconcile v k x = (reconcileActive v k x).1 := by
  rw [reconcile_active hon hm, reconcileLoop_once h]

/-- The expiry of a spacing of 0 reconciles the stage again (R86). -/
theorem reconcile_again (hon : v.tab.t2[k].enabled = true) (hm : v.mode = .active)
    (h : (reconcileActive v k x).2 = true) : reconcile v k x = reconcile v k (reconcileActive v k x).1 := by
  have hle := runningCount_le v k x
  have hlt := reconcileActive_again h
  rw [reconcile_active hon hm, reconcile_active hon hm, reconcileLoop_again h, reconcileLoop_stable 4 _ (by omega)]

end Sys2Proof.Machine
end

section
/-!
PROOFS. Stage reconciliation, concluded: the dry run, and the settling of O31 (R78, R89, R90).
-/

namespace Sys2Proof.Machine

variable {v : View} {k : Fin 8} {x y : Plant} {p : Fin 32}

/-! ### The dry run (R89) -/

/-- The record that the dry run leaves of a pump, where a stop decision takes the next number `id` (R89). -/
def Pump.dryRun (q : Pump) (id : Nat) : Pump :=
  if q.state = .queued then q.goto .off
  else if q.state = .starting ∧ q.awaits .run then q.dropCmd.goto .off
  else if dryRunStops q then { (q.goto .stopping).dropCmd with cmd := some ⟨.stop, .awaiting, id⟩ }
  else q

theorem clearAwaitingRun_pump (h : (x.pump p).awaits .run = true) (hs : (x.pump p).state = .starting) :
    (clearAwaitingRun v p x).pump p = (x.pump p).dropCmd.goto .off := by
  rw [clearAwaitingRun, if_pos ⟨h, hs⟩, handCommitted_pump, leaveStarting_pump, Plant.pump_setPump_same]

theorem dryRunPump_pump (v : View) (x : Plant) (p : Fin 32) :
    (dryRunPump v x p).pump p = (x.pump p).dryRun x.nextId := by
  unfold dryRunPump Pump.dryRun
  dsimp only
  split
  · next hq => rw [withdraw_pump, if_pos hq]
  · split
    · next hr => exact clearAwaitingRun_pump hr.2 hr.1
    · split
      · exact stopDecision_pump v p x
      · rfl

theorem dryRunPump_events (v : View) (x : Plant) (p : Fin 32) : (dryRunPump v x p).events = x.events := by
  unfold dryRunPump withdraw clearAwaitingRun
  dsimp only
  split
  · rw [handCommitted_events, Plant.setPump_events, dequeue_events]
  · split
    · split
      · rw [handCommitted_events]
        rfl
      · rfl
    · split
      · rw [stopDecision_eq, handCommitted_events]
        rfl
      · rfl

/-- No action of R89 leaves a request without its QUEUED pump. -/
theorem dryRunPump_onlyQueued (v : View) (p : Fin 32) (h : OnlyQueued x) : OnlyQueued (dryRunPump v x p) := by
  have kept : ∀ {y : Plant}, y.queue = x.queue → OnlyPump p x y → (x.pump p).state ≠ .queued → OnlyQueued y := by
    intro y hq ho hs e he
    rw [hq] at he
    have hne : e.pump ≠ p := fun hp => hs (hp ▸ h e he)
    rw [ho.2 _ hne]
    exact h e he
  have hframe := dryRunPump_frame v x p
  revert hframe
  unfold dryRunPump
  dsimp only
  split
  · exact fun _ => withdraw_onlyQueued v h
  · next hs =>
    split
    · next hr =>
      refine fun hf => kept ?_ hf hs
      rw [clearAwaitingRun, if_pos ⟨hr.2, hr.1⟩, handCommitted_queue]
      rfl
    · split
      · refine fun hf => kept ?_ hf hs
        rw [stopDecision_eq, handCommitted_queue]
        rfl
      · exact fun _ => h

/-- An operation on each of some distinct pumps takes each from its record in the first state. -/
theorem foldl_onlyPump_pump {op : Plant → Fin 32 → Plant} (hf : ∀ x p, OnlyPump p x (op x p)) {ps : List (Fin 32)}
    (hn : ps.Nodup) (x : Plant) (hp : p ∈ ps) :
    ∃ y : Plant, y.pump p = x.pump p ∧ (ps.foldl op x).pump p = (op y p).pump p := by
  have untouched : ∀ (ps : List (Fin 32)) (x : Plant), p ∉ ps → (ps.foldl op x).pump p = x.pump p := fun ps x h =>
    List.foldlRecOn (motive := fun y : Plant => y.pump p = x.pump p) ps op rfl fun y hy a ha =>
      ((hf y a).2 p fun e => h (e ▸ ha)).trans hy
  induction ps generalizing x with
  | nil => cases hp
  | cons a ps ih =>
    obtain ⟨ha, hn⟩ := List.nodup_cons.1 hn
    by_cases e : p = a
    · subst e
      exact ⟨x, rfl, untouched ps _ ha⟩
    · obtain ⟨y, hy, hy'⟩ := ih hn (op x a) ((List.mem_cons.1 hp).resolve_left e)
      exact ⟨y, hy.trans ((hf x a).2 p e), hy'⟩

theorem dryRun_pump (v : View) (x : Plant) (hp : p ∈ stagePumps v.tab k) :
    ∃ id : Nat, (dryRun v k x).pump p = (x.pump p).dryRun id := by
  obtain ⟨y, hy, hy'⟩ := foldl_onlyPump_pump (dryRunPump_frame v) (stagePumps_nodup v.tab k) x hp
  exact ⟨y.nextId, by rw [dryRun, hy', dryRunPump_pump, hy]⟩

theorem dryRun_stages (v : View) (k : Fin 8) (x : Plant) : (dryRun v k x).stages = x.stages :=
  List.foldlRecOn (motive := fun y : Plant => y.stages = x.stages) _ _ rfl fun y hy p _ =>
    (dryRunPump_frame v y p).1.trans hy

theorem dryRun_events (v : View) (k : Fin 8) (x : Plant) : (dryRun v k x).events = x.events :=
  List.foldlRecOn (motive := fun y : Plant => y.events = x.events) _ _ rfl fun y hy p _ =>
    (dryRunPump_events v y p).trans hy

theorem dryRun_onlyQueued (v : View) (k : Fin 8) (h : OnlyQueued x) : OnlyQueued (dryRun v k x) :=
  List.foldlRecOn (motive := OnlyQueued) _ _ h fun _ hy p _ => dryRunPump_onlyQueued v p hy

theorem Pump.dryRun_notQueued (q : Pump) (id : Nat) : (q.dryRun id).state ≠ .queued := by
  unfold Pump.dryRun
  split
  · exact nofun
  · next h =>
    split
    · exact nofun
    · split
      · exact nofun
      · exact h

/-! ### The advice (R78, R90) -/

theorem advise_slot (v : View) (k : Fin 8) (x : Plant) : advise v k x =
    if (x.stage k).override = .dryRun then
      (((stagePumps v.tab k).find? fun p => dryRunStops (x.pump p)).map fun p => (Advice.stop, p.val)).getD (.none, 0)
    else if cCount v k x < aCount v k x then ((startChoice v k x).map fun p => (Advice.start, p.val)).getD (.none, 0)
    else if aCount v k x < cCount v k x then ((stopChoice v k x).map fun p => (Advice.stop, p.val)).getD (.none, 0)
    else (.none, 0) := by
  unfold advise
  refine if_congr Iff.rfl ?_ (if_congr Iff.rfl ?_ (if_congr Iff.rfl ?_ rfl))
  · split
    · next h => rw [h]; rfl
    · next h => rw [h]; rfl
  · split
    · next h => rw [h]; rfl
    · next h => rw [h]; rfl
  · split
    · next h => rw [h]; rfl
    · next h => rw [h]; rfl

theorem getD_advised (a : Advice) (c : Option (Fin 32)) :
    ((c.map fun p => (a, p.val)).getD (.none, 0)).2 = (c.map Fin.val).getD 0 := by cases c <;> rfl

theorem reconcile_advisory (hon : v.tab.t2[k].enabled = true) (hm : v.mode = .advisory) (x : Plant) :
    reconcile v k x = x.reported k (advise v k x).1 (advise v k x).2 (advisedShortfall v k x) := by
  rw [reconcile, if_pos hon, hm]
  exact writeAdvice_writeShortfall ..

theorem reconcile_idle (h : v.tab.t2[k].enabled = false ∨ v.mode = .passive ∨ v.mode = .settling) (x : Plant) :
    reconcile v k x = x := by
  unfold reconcile
  split
  · next hon =>
    rcases h with h | h | h
    · rw [h] at hon
      cases hon
    · rw [h]
    · rw [h]
  · rfl

/-- Settles O31: the mode, the counts, the starts, the reductions and the dry run of a reconciliation. -/
theorem reconcileChangesItsStage : Obligations.ReconcileChangesItsStage := by
  refine ⟨fun v k x => ⟨fun h => reconcile_idle h x, fun hon hm => ?_, fun p hp => ?_, fun k' hk => ?_, ?_⟩,
    fun v k x => ⟨?_, ?_, rfl⟩, ?_, ?_, ?_, stopDecision_eq⟩
  · rw [reconcile_advisory hon hm, ownPumps_eq, advise_slot]
    refine congrArg₂ (x.reported k _) ?_ ?_
    · split
      · exact getD_advised ..
      · split
        · exact getD_advised ..
        · split
          · exact getD_advised ..
          · rfl
    · rw [advisedShortfall, Bool.eq_iff_iff]
      simp
  · exact ((reconcile_frame v k x).1 _ hp).2 p rfl
  · exact ((reconcile_frame v k x).1 k' hk).1
  · exact (reconcile_frame v k x).2
  · rw [ownPumps_eq]
    rfl
  · rw [ownPumps_eq, rOther]
    refine congrArg List.length (List.filter_congr fun p _ => ?_)
    rw [Pump.isAuto, Bool.not_and, Bool.not_not]
    rfl
  · rintro v k x hon hm hd hlt able rfl
    rw [ownPumps_eq]
    obtain ⟨chosen, hl, hsub, hpair, hbehind, hx, hc, ha⟩ :=
      enqueueUpTo_chosen v k (aCount v k x - cCount v k x) x _ rfl
    refine ⟨chosen, hl, hsub, hpair, hbehind, ?_⟩
    have hr := reconcileActive_ordinary (v := v) hd
    rw [ordinaryDecisions_starts hlt] at hr
    rw [reconcile_once hon hm (by rw [hr]), hr, hc, ha, hx]
    rfl
  · rintro v k x hon hm hd hle hagree hrank own rfl
    have hsub : (requestsOf k x.queue).Sublist x.queue := List.filter_sublist
    obtain ⟨gone, hl, hin, hpair, hbehind, hx⟩ := withdrawUpTo_gone v k (cCount v k x - aCount v k x) x
      ((hsub.map _).nodup hagree.2) ((hsub.map _).nodup hrank.1)
      fun e he => (hagree.1 e.pump).1 ⟨e, hsub.subset he, rfl⟩
    obtain ⟨hc, ha⟩ := withdrawUpTo_counts v k (cCount v k x - aCount v k x) x
    refine ⟨gone, withdrawUpTo v k (cCount v k x - aCount v k x) x, hl, hin, hpair, hbehind, hx, ?_, ?_⟩
    · intro hn
      have hr := reconcileActive_ordinary (v := v) hd
      rw [ordinaryDecisions_reduces hle rfl hn] at hr
      rw [reconcile_once hon hm (by rw [hr]), hr, decide_eq_false (by dsimp only; omega)]
    · rintro p z hlt hp rfl
      obtain ⟨hcs, has⟩ := spacedStop_counts hp
      have hr := reconcileActive_ordinary (v := v) hd
      rw [ordinaryDecisions_stops hle rfl hlt hp, decide_eq_false (by dsimp only; omega)] at hr
      refine ⟨fun hs => ?_, fun hs => ?_⟩
      · rw [reconcile_once hon hm (by rw [hr]; simpa using hs), hr]
        exact congrArg (Plant.reported k .none 0 false) (spacedStop_spaced hs ..)
      · rw [reconcile_again hon hm (by rw [hr]; simpa using hs), hr]
        exact congrArg (fun z : Plant => reconcile v k (z.reported k .none 0 false)) (spacedStop_zero hs ..)
  · intro v k x hon hm hd hagree
    have hr := reconcileActive_dryRun (v := v) hd
    refine ⟨dryRun v k x, by rw [reconcile_once hon hm (by rw [hr]), hr], dryRun_stages v k x, dryRun_events v k x, ?_⟩
    rintro p q hp rfl
    rw [ownPumps_eq] at hp
    obtain ⟨id, hid⟩ := dryRun_pump v x hp
    rw [hid]
    refine ⟨fun e he hep => ?_, fun hs => if_pos hs, fun hs ha => ?_, fun hs ho hl => ⟨id, ?_⟩, fun hs hr hno => ?_⟩
    · have hqueued := dryRun_onlyQueued v k (fun e he => (hagree.1 e.pump).1 ⟨e, he, rfl⟩) e he
      rw [hep, hid] at hqueued
      exact Pump.dryRun_notQueued _ id hqueued
    · rw [Pump.dryRun, if_neg (by rw [hs]; exact nofun), if_pos ⟨hs, ha⟩]
      rfl
    · have hr : ¬((x.pump p).state = .starting ∧ (x.pump p).awaits .run = true) := fun hr => by
        rcases hs with hs | hs
        · rw [hs] at hr
          exact nomatch hr.1
        · rw [hs.2] at hr
          exact nomatch hr.2
      have hstops : dryRunStops (x.pump p) = true := by
        rcases hs with hs | ⟨hs, hw⟩ <;> simp [dryRunStops, Pump.reachable, *]
      rw [Pump.dryRun, if_neg (fun hq => by rcases hs with hs | ⟨hs, -⟩ <;> rw [hs] at hq <;> cases hq), if_neg hr,
        if_pos hstops]
      rfl
    · have hstops : ¬dryRunStops (x.pump p) = true := fun h => by
        have hst := state_of_dryRunStops h
        rcases hno with hno | hno | hno
        · exact hno hst
        · simp [dryRunStops, Pump.reachable, hno] at h
        · simp [dryRunStops, Pump.reachable, hno] at h
      rw [Pump.dryRun, if_neg hs, if_neg hr, if_neg hstops]

end Sys2Proof.Machine
end

section
/-!
PROOFS. The segments of a TABLE_WRITE, read back from their bytes, and the rows that they write (R163, R165).
-/

namespace Sys2Proof.Machine

/-! ### Words and their bytes (R138) -/

theorem wordsBytes_length (ws : List Word) : (wordsBytes ws).length = 2 * ws.length := by
  induction ws with
  | nil => rfl
  | cons w ws ih =>
    have h : (wordsBytes (w :: ws)).length = (wordsBytes ws).length + 2 := rfl
    rw [h, ih, List.length_cons]
    omega

theorem wordsOf_wordsBytes (ws : List Word) : wordsOf (wordsBytes ws) = ws := by
  induction ws with
  | nil => rfl
  | cons w ws ih =>
    have h : wordsOf (wordsBytes (w :: ws)) = joinBytes w.hiByte w.loByte :: wordsOf (wordsBytes ws) := rfl
    rw [h, ih, joinBytes_wordBytes]

/-! ### The form of a segment (R165 step 1) -/

theorem segmentForm_eq (table first count : Byte) (words : Nat) : segmentForm table first count words =
    if 14 < table.toNat then some .badTable
    else if 10 ≤ table.toNat ∧ table.toNat ≤ 13 then some .illegal
    else if tableSize table.toNat ≤ first.toNat ∨ count = 0 ∨ tableSize table.toNat < first.toNat + count.toNat
    then some .badIndex
    else if words ≠ count.toNat * entryWords table.toNat then some .illegal else none := by
  simp only [segmentForm, liveTable, Bool.and_eq_true, decide_eq_true_eq]

/-- A segment of the right form holds the words of its entries. -/
theorem segmentForm_none {table first count : Byte} {words : Nat} (h : segmentForm table first count words = none) :
    words = count.toNat * entryWords table.toNat := by
  rw [segmentForm_eq] at h
  split_ifs at h with _ _ _ hw
  exact not_not.1 hw

/-! ### Segments read back (R163) -/

/-- A reading that follows segments of the right form. -/
def WriteForm.after (segs : List Segment) : WriteForm → WriteForm
  | .refused r => .refused r
  | .segments gs => .segments (segs ++ gs)

/-- The bytes of one segment. -/
def segmentBytes (g : Segment) : List Byte := g.table :: g.first :: g.count :: wordsBytes g.words

theorem segmentsBytes_cons (g : Segment) (segs : List Segment) :
    segmentsBytes (g :: segs) = segmentBytes g ++ segmentsBytes segs := rfl

/-- A segment of the right form is read back, and the reading goes on behind it. -/
theorem readSegments_segment (n : Nat) (g : Segment) (rest : List Byte)
    (h : segmentForm g.table g.first g.count g.words.length = none) :
    readSegments (n + 1) (segmentBytes g ++ rest) = (readSegments n rest).after [g] := by
  have hw := segmentForm_none h
  have hb : (wordsBytes g.words).length = 2 * (g.count.toNat * entryWords g.table.toNat) := by
    rw [wordsBytes_length, hw]
  have hmin : min (g.count.toNat * entryWords g.table.toNat) ((wordsBytes g.words ++ rest).length / 2) =
      g.words.length := by
    rw [List.length_append, hb, hw]
    omega
  rw [segmentBytes, List.cons_append, List.cons_append, List.cons_append, readSegments]
  rw [hmin, h, ← hb, List.drop_left, List.take_left, wordsOf_wordsBytes]
  cases readSegments n rest <;> rfl

theorem readSegments_append (segs : List Segment) (tail : List Byte) (n : Nat)
    (h : ∀ g ∈ segs, segmentForm g.table g.first g.count g.words.length = none) :
    readSegments (segs.length + n) (segmentsBytes segs ++ tail) = (readSegments n tail).after segs := by
  induction segs with
  | nil =>
    rw [List.length_nil, Nat.zero_add]
    change readSegments n tail = _
    cases readSegments n tail <;> rfl
  | cons g segs ih =>
    rw [List.length_cons, Nat.add_right_comm, segmentsBytes_cons, List.append_assoc,
      readSegments_segment _ g _ (h g List.mem_cons_self), ih fun g' hg' => h g' (List.mem_cons_of_mem _ hg')]
    cases readSegments n tail <;> rfl

theorem readSegments_nil (n : Nat) : readSegments n [] = .segments [] := by cases n <;> rfl

/-- One or two bytes left over are cut short (log 23). -/
theorem readSegments_cut (n : Nat) {tail : List Byte} (h : tail.length = 1 ∨ tail.length = 2) :
    readSegments n tail = .refused .illegal := by
  match tail, h with
  | [_], _ => cases n <;> rfl
  | [_, _], _ => cases n <;> rfl

theorem readSegments_misformed (n : Nat) {table first count : Byte} {rest : List Byte} {r : Reason}
    (h : segmentForm table first count (min (count.toNat * entryWords table.toNat) (rest.length / 2)) = some r) :
    readSegments (n + 1) (table :: first :: count :: rest) = .refused r := by
  rw [readSegments, h]

theorem parseArguments_write (tag : Byte) {bytes : List Byte} (h : 3 ≤ bytes.length) :
    parseArguments 0x03 tag bytes = .request tag (.tableWrite (readSegments (bytes.length - 2) bytes)) := by
  match bytes, h with
  | _ :: _ :: _ :: _, _ => rfl

theorem segmentsBytes_length_le (segs : List Segment) : 3 * segs.length ≤ (segmentsBytes segs).length := by
  induction segs with
  | nil => exact Nat.le_refl 0
  | cons g segs ih =>
    rw [segmentsBytes_cons, List.length_append, List.length_cons]
    have h : 3 ≤ (segmentBytes g).length := Nat.le_add_left 3 _
    omega

/-- The reading of a whole request goes past its segments of the right form. -/
theorem readSegments_whole {segs : List Segment} {tail : List Byte}
    (h : ∀ g ∈ segs, segmentForm g.table g.first g.count g.words.length = none)
    (hl : 3 ≤ (segmentsBytes segs ++ tail).length) : ∃ n : Nat, tail.length - 2 ≤ n ∧
      readSegments ((segmentsBytes segs ++ tail).length - 2) (segmentsBytes segs ++ tail) =
        (readSegments n tail).after segs := by
  have hs := segmentsBytes_length_le segs
  rw [List.length_append] at hl ⊢
  refine ⟨(segmentsBytes segs).length + tail.length - 2 - segs.length, by omega, ?_⟩
  rw [← readSegments_append segs tail _ h]
  congr 1
  omega

/-! ### The rows of the segments (R165) -/

theorem mem_rowsOf {segs : List Segment} {row : Row} : row ∈ rowsOf segs ↔ ∃ g ∈ segs, ∃ i : Nat, i < g.count.toNat ∧
    row = { table := g.table.toNat, index := g.first.toNat + i
            words := takeFlags g.table.toNat
              ((g.words.drop (i * entryWords g.table.toNat)).take (entryWords g.table.toNat)) } := by
  simp only [rowsOf, segmentRows, List.mem_flatMap, List.mem_map, List.mem_range, eq_comm]

theorem takeFlags_length (table : Nat) (ws : List Word) : (takeFlags table ws).length = ws.length := by
  unfold takeFlags
  split <;> simp only [List.length_modify]

/-- One word of an entry rewritten, by a rule that leaves 0 as it is. -/
theorem field_modify (ws : List Word) (i j : Nat) {f : Word → Word} (hf : f 0 = 0) :
    field (ws.modify i f) j = if j = i then (f (ws.getD j 0)).toNat else field ws j := by
  rw [field, List.getD_eq_getElem?_getD, List.getElem?_modify]
  rw [field, List.getD_eq_getElem?_getD]
  by_cases h : j = i
  · subst h
    have hf' : f 0#16 = 0#16 := hf
    cases ws[j]? <;> simp [hf']
  · cases ws[j]? <;> simp [h, Ne.symm h]

theorem asFlag_toNat (w : Word) : (asFlag w).toNat = if w.toNat = 0 then 0 else 1 := by
  unfold asFlag
  by_cases h : w = 0
  · rw [if_pos h, h]
    rfl
  · rw [if_neg h, if_neg fun h' : w.toNat = 0 => h (BitVec.eq_of_toNat_eq h')]
    rfl

theorem and_low_toNat (w : Word) (n : Nat) (hn : n < 16) : (w &&& BitVec.ofNat 16 (2 ^ n - 1)).toNat = w.toNat % 2 ^ n := by
  have h1 : 2 ^ n - 1 < 2 ^ 16 := by
    have := Nat.pow_lt_pow_right (a := 2) (by decide) hn
    omega
  rw [BitVec.toNat_and, BitVec.toNat_ofNat, Nat.mod_eq_of_lt h1, Nat.and_two_pow_sub_one_eq_mod]

theorem takeFlags_field (table j : Nat) (ws : List Word) : field (takeFlags table ws) j =
    if (table ∈ [0, 1, 2, 5, 7, 8] ∧ j = 0) ∨ (table = 3 ∧ j = 14) then if field ws j = 0 then 0 else 1
    else if table = 8 ∧ j = 2 then field ws j % 256
    else if table = 9 ∧ j = 6 then field ws j % 8 else field ws j := by
  have flag : ∀ i, field (ws.modify i asFlag) j = if j = i then if field ws j = 0 then 0 else 1 else field ws j := fun i => by
    rw [field_modify ws i j rfl, asFlag_toNat]
    rfl
  have low : ∀ (ws : List Word) (i n : Nat), n < 16 → field (ws.modify i fun w => w &&& BitVec.ofNat 16 (2 ^ n - 1)) j =
      if j = i then field ws j % 2 ^ n else field ws j := fun ws i n hn => by
    rw [field_modify (f := fun w => w &&& BitVec.ofNat 16 (2 ^ n - 1)) ws i j BitVec.zero_and, and_low_toNat _ n hn]
    rfl
  unfold takeFlags
  split
  case h_7 =>
    have l8 := low (ws.modify 0 asFlag) 2 8 (by decide)
    rw [flag] at l8
    refine l8.trans ?_
    by_cases h2 : j = 2
    · simp [h2]
    · simp [h2]
  case h_8 => 
    refine (low ws 6 3 (by decide)).trans ?_
    simp
  case h_9 h0 h1 h2 h5 h7 h3 h8 h9 =>
    simp [eq_false h0, eq_false h1, eq_false h2, eq_false h5, eq_false h7, eq_false h3, eq_false h8, eq_false h9]
  all_goals
    rw [flag]
    simp

/-- The words that count for an entry are those of its last row (log 23). -/
theorem rowFor_eq_some_iff {rows : List Row} {table index : Nat} {ws : List Word} : rowFor rows table index = some ws ↔
    ∃ before after : List Row, rows = before ++ { table := table, index := index, words := ws } :: after ∧
      ∀ r ∈ after, ¬(r.table = table ∧ r.index = index) := by
  have test : ∀ r : Row, (r.table == table && r.index == index) = true ↔ r.table = table ∧ r.index = index := by simp
  simp only [rowFor, Option.map_eq_some_iff, List.find?_eq_some_iff_append, test, Bool.not_eq_true', ← Bool.not_eq_true]
  constructor
  · rintro ⟨r, ⟨⟨rfl, rfl⟩, after, before, hrev, hafter⟩, rfl⟩
    refine ⟨before.reverse, after.reverse, ?_, fun r' h => hafter r' (List.mem_reverse.1 h)⟩
    rw [← List.reverse_reverse rows, hrev]
    simp
  · rintro ⟨before, after, rfl, hafter⟩
    exact ⟨{ table := table, index := index, words := ws }, ⟨⟨rfl, rfl⟩, after.reverse, before.reverse, by simp,
      fun r h => hafter r (List.mem_reverse.1 h)⟩, rfl⟩

end Sys2Proof.Machine
end

section
/-!
PROOFS. Table entries and their words: the words of an entry give it back, and the fields of the entry that words give
(R164, R165).
-/

namespace Sys2Proof.Machine

/-! ### Fields of an entry's words -/

theorem field_zero (w : Word) (ws : List Word) : field (w :: ws) 0 = w.toNat := rfl

theorem field_succ (w : Word) (ws : List Word) (j : Nat) : field (w :: ws) (j + 1) = field ws j := rfl

theorem natWord_toNat_of_lt {n : Nat} (h : n < 65536) : (natWord n).toNat = n := by
  rw [natWord, BitVec.toNat_ofNat]
  exact Nat.mod_eq_of_lt h

theorem flagWord_toNat_ne (b : Bool) : ((flagWord b).toNat != 0) = b := by cases b <;> rfl

theorem clamp_of_within {lo hi n : Nat} (h : lo ≤ n) (h' : n ≤ hi) : clamp lo hi n = n := by
  rw [clamp, if_neg (Nat.not_lt.2 h), if_neg (Nat.not_lt.2 h')]

/-! ### The words of an entry give it back (R164) -/

theorem pointOf_words {e : PointEntry} (hs : e.station < 65536) (hp : e.point < 65536) (hk : e.kind < 65536)
    (ht : e.target < 65536) (hz : e.zero < 65536) (hn : e.span < 65536) : pointOf e.words = e := by
  simp (disch := assumption) only [pointOf, PointEntry.words, flagField, field_zero, field_succ, natWord_toNat_of_lt,
    flagWord_toNat_ne]

theorem mirrorOf_words {e : MirrorEntry} (hd : e.direction < 65536) (hl : e.low < 65536) (hh : e.high < 65536)
    (hb : e.base < 65536) : mirrorOf e.words = e := by
  simp (disch := assumption) only [mirrorOf, MirrorEntry.words, flagField, field_zero, field_succ, natWord_toNat_of_lt,
    flagWord_toNat_ne]

theorem resOf_words {e : ResEntry} (h : e.ok) (ha : e.la < 65536) (hl : e.tlb < 65536) (hh : e.thb < 65536)
    (hA : e.ha < 65536) : resOf e.words = e := by
  obtain ⟨hfs, hfs', hah, hst, hst', hri, hri', hcr, hpd, -⟩ := h
  have hkind : (if (natWord e.kind.code).toNat = 1 then ResKind.unmetered else .metered) = e.kind := by
    cases e.kind <;> rfl
  simp (disch := omega) only [resOf, ResEntry.words, flagField, field_zero, field_succ, natWord_toNat_of_lt,
    flagWord_toNat_ne, clamp_of_within]
  exact congrArg (fun k => { e with kind := k }) hkind

theorem stageEntryOf_words {e : StageEntry} (h : e.ok) : stageEntryOf e.words = e := by
  obtain ⟨hd, -, hn, hn', hm, hm', hb, hb', hk, hpf, hsb, hst, hsp⟩ := h
  simp (disch := omega) only [stageEntryOf, StageEntry.words, flagField, field_zero, field_succ, natWord_toNat_of_lt,
    flagWord_toNat_ne, clamp_of_within, Fin.ofNat_val_eq_self]

theorem pumpEntryOf_words {e : PumpEntry} (h : e.ok) : pumpEntryOf e.words = e := by
  obtain ⟨hs, hs', hp, hr, hr', hrun, hrest, hsc, hsc', htc, htc', hh, hh', hrl, hri, hri', hpt, hpt', hc, hc'⟩ := h
  have hfeeder : (if (natWord (feederCode e.feeder)).toNat = 1 then Feeder.b else .a) = e.feeder := by
    cases e.feeder <;> rfl
  have howner : (Ownership.ofCode? (natWord e.defaultOwner.code).toNat).getD .outOfService = e.defaultOwner := by
    cases e.defaultOwner <;> rfl
  simp (disch := omega) only [pumpEntryOf, PumpEntry.words, flagField, field_zero, field_succ, howner,
    natWord_toNat_of_lt, flagWord_toNat_ne, clamp_of_within]
  exact congrArg (fun f => { e with feeder := f }) hfeeder

theorem feederEntryOf_words {e : FeederEntry} (h : e.ok) : feederEntryOf e.words = e := by
  obtain ⟨hb, hs, hs'⟩ := h
  simp (disch := omega) only [feederEntryOf, FeederEntry.words, field_zero, field_succ, natWord_toNat_of_lt,
    clamp_of_within]

theorem windowOf_words {e : WindowEntry} (h : e.start ≤ 1439) : windowOf e.words = e := by
  have hcls : (if (natWord e.cls.code).toNat = 0 then TariffClass.cheap
      else if (natWord e.cls.code).toNat = 1 then .normal else .peak) = e.cls := by
    cases e.cls <;> rfl
  simp (disch := omega) only [windowOf, WindowEntry.words, flagField, field_zero, field_succ, natWord_toNat_of_lt,
    flagWord_toNat_ne, clamp_of_within, Fin.ofNat_val_eq_self]
  exact congrArg (fun c => { e with cls := c }) hcls

theorem sourceOf_words {e : SourceEntry} (h : e.address < 65536) : sourceOf e.words = e := by
  have hmask : BitVec.ofNat 8 (natWord e.mask.toNat).toNat = e.mask := by
    rw [natWord_toNat_of_lt (by omega), BitVec.ofNat_toNat, BitVec.setWidth_eq]
  simp (disch := assumption) only [sourceOf, SourceEntry.words, flagField, field_zero, field_succ, hmask,
    natWord_toNat_of_lt, flagWord_toNat_ne]

theorem flags_getLsbD (a b c : Bool) : (flagBit a 0 ||| flagBit b 1 ||| flagBit c 2).getLsbD 0 = a ∧
    (flagBit a 0 ||| flagBit b 1 ||| flagBit c 2).getLsbD 1 = b ∧
    (flagBit a 0 ||| flagBit b 1 ||| flagBit c 2).getLsbD 2 = c := by
  simp only [BitVec.getLsbD_or, flagBit_getLsbD _ (show 0 < 16 by decide), flagBit_getLsbD _ (show 1 < 16 by decide),
    flagBit_getLsbD _ (show 2 < 16 by decide)]
  simp

theorem clampQuiet_of_within {n : Nat} (h : n = 0 ∨ 10 ≤ n) (h' : n ≤ 3600) : clampQuiet n = n := by
  rw [clampQuiet]
  split
  · next h0 => exact h0.symm
  · next h0 => exact clamp_of_within (h.resolve_left h0) h'

theorem generalOf_words {e : General} (h : e.ok) : generalOf e.words = e := by
  obtain ⟨hs, hn, hc, hc', hb, hb', hq, hq', ht, ht'⟩ := h
  obtain ⟨hr, ha, hv⟩ := flags_getLsbD e.autoResume e.alertEnabled e.sourceValidation
  simp (disch := omega) only [generalOf, General.words, field_zero, field_succ, List.getD_cons_succ, List.getD_cons_zero,
    hr, ha, hv, clampQuiet_of_within, natWord_toNat_of_lt, clamp_of_within]

theorem longWords_join (u : BitVec 32) : (longWords u).getD 0 0 ++ (longWords u).getD 1 0 = u := by
  simp only [longWords, List.getD_cons_zero, List.getD_cons_succ]
  refine BitVec.eq_of_getLsbD_eq fun i hi => ?_
  rw [BitVec.getLsbD_append, BitVec.getLsbD_extractLsb', BitVec.getLsbD_extractLsb']
  by_cases h : i < 16
  · simp [h]
  · have h' : i - 16 < 16 := by omega
    have h'' : 16 + (i - 16) = i := by omega
    simp [h, h', h'']

/-! ### The entries that words give -/

theorem resOf_fields (ws : List Word) : resOf ws = {
    enabled := field ws 0 != 0, kind := if field ws 1 = 1 then .unmetered else .metered
    fs := max 1000 (min 20000 (field ws 2)), la := field ws 3, tlb := field ws 4, thb := field ws 5
    ha := field ws 6, ah := min 500 (field ws 7), stale := max 10 (min 3600 (field ws 8))
    rateInterval := max 30 (min 600 (field ws 9)), cr := min 2000 (field ws 10), pd := min 2000 (field ws 11) } := by
  simp (disch := decide) only [resOf, flagField, clamp_eq, Nat.zero_max]

theorem stageEntryOf_fields {ws : List Word} (hd : field ws 1 < 10) (hs : field ws 2 < 10) (hn : 1 ≤ field ws 3) :
    stageEntryOf ws = {
      enabled := field ws 0 != 0, delivery := ⟨field ws 1, hd⟩, suction := ⟨field ws 2, hs⟩, n := field ws 3
      maxRunning := max 1 (min (field ws 3) (field ws 4)), hb := max 1 (min 250 (field ws 5))
      kr := min 20 (field ws 6), pf := min 1000 (field ws 7), sb := min 5000 (field ws 8)
      staleCount := min (field ws 3) (field ws 9), spacing := min 600 (field ws 10) } := by
  have hd' : Fin.ofNat 10 (field ws 1) = ⟨field ws 1, hd⟩ := Fin.ext (Nat.mod_eq_of_lt hd)
  have hs' : Fin.ofNat 10 (field ws 2) = ⟨field ws 2, hs⟩ := Fin.ext (Nat.mod_eq_of_lt hs)
  simp (disch := omega) only [stageEntryOf, flagField, clamp_eq, Nat.zero_max, hd', hs']

theorem ownership_ofCode? (n : Nat) : (Ownership.ofCode? n).getD .outOfService =
    if n = 0 then .auto else if n = 1 then .manual else .outOfService := by
  unfold Ownership.ofCode?
  split_ifs <;> rfl

theorem pumpEntryOf_fields (ws : List Word) : pumpEntryOf ws = {
    station := field ws 0, point := field ws 1, feeder := if field ws 2 = 1 then .b else .a
    rating := max 1 (min 500 (field ws 3))
    defaultOwner := if field ws 4 = 0 then .auto else if field ws 4 = 1 then .manual else .outOfService
    minRun := min 3600 (field ws 5), minRest := min 3600 (field ws 6)
    startConfirm := max 5 (min 120 (field ws 7)), stopConfirm := max 5 (min 120 (field ws 8))
    startsPerHour := max 1 (min 12 (field ws 9)), retryLimit := min 5 (field ws 10)
    retryInterval := max 60 (min 3600 (field ws 11))
    provingTime := max 60 (min 3600 (field ws 12)), tripConfirm := max 1 (min 4 (field ws 13))
    fallback := field ws 14 != 0 } := by
  simp (disch := decide) only [pumpEntryOf, flagField, ownership_ofCode?, clamp_eq, Nat.zero_max]

theorem feederEntryOf_fields (ws : List Word) : feederEntryOf ws = {
    budget := min 2000 (field ws 0), spacing := max 5 (min 600 (field ws 1)) } := by
  simp (disch := decide) only [feederEntryOf, clamp_eq, Nat.zero_max]

theorem windowOf_fields {ws : List Word} (hd : field ws 1 < 2) : windowOf ws = {
    used := field ws 0 != 0, dayType := ⟨field ws 1, hd⟩, start := min 1439 (field ws 2)
    cls := if field ws 3 = 0 then .cheap else if field ws 3 = 1 then .normal else .peak } := by
  have hd' : Fin.ofNat 2 (field ws 1) = ⟨field ws 1, hd⟩ := Fin.ext (Nat.mod_eq_of_lt hd)
  simp (disch := decide) only [windowOf, flagField, clamp_eq, Nat.zero_max, hd']

theorem sourceOf_fields (ws : List Word) : sourceOf ws = {
    used := field ws 0 != 0, address := field ws 1, mask := BitVec.ofNat 8 (field ws 2 % 256) } := by
  have hm : BitVec.ofNat 8 (field ws 2 % 256) = BitVec.ofNat 8 (field ws 2) :=
    BitVec.eq_of_toNat_eq (by rw [BitVec.toNat_ofNat, BitVec.toNat_ofNat]; exact Nat.mod_mod ..)
  rw [hm]
  rfl

theorem getLsbD_field (ws : List Word) (i : Nat) : (ws.getD 6 0).getLsbD i = (field ws 6 / 2 ^ i % 2 == 1) := by
  rw [BitVec.getLsbD, Nat.testBit_eq_decide_div_mod_eq, field]
  rfl

theorem generalOf_fields (ws : List Word) : generalOf ws = {
    service := field ws 0, notice := field ws 1, classOrder := field ws 2, bypassLimit := max 1 (min 7 (field ws 3))
    quietTime := if field ws 4 = 0 then 0 else max 10 (min 3600 (field ws 4))
    settleTime := max 30 (min 600 (field ws 5)), autoResume := field ws 6 % 2 == 1
    alertEnabled := field ws 6 / 2 % 2 == 1, sourceValidation := field ws 6 / 4 % 2 == 1 } := by
  simp (disch := decide) only [generalOf, clampQuiet, clamp_eq, getLsbD_field, Nat.pow_zero, Nat.div_one, Nat.reducePow]

end Sys2Proof.Machine
end

section
/-!
PROOFS. The values that a TABLE_WRITE clamps, table by table, and the settling of O49 (R2, R24, R31, R54, R93, R161).
-/

namespace Sys2Proof.Machine

/-! ### Words that clamping changes -/

theorem resKind_code {n : Nat} {_ : Decidable (n = 1)} (h : ¬1 < n) :
    (if n = 1 then ResKind.unmetered else .metered).code = n := by
  split <;> simp only [ResKind.code] <;> omega

theorem feederCode_written {n : Nat} {_ : Decidable (n = 1)} (h : n ≤ 1) :
    feederCode (if n = 1 then .b else .a) = n := by
  split <;> simp only [feederCode] <;> omega

theorem tariffClass_code {n : Nat} {_ : Decidable (n = 0)} {_ : Decidable (n = 1)} (h : n ≤ 2) :
    (if n = 0 then TariffClass.cheap else if n = 1 then .normal else .peak).code = n := by
  split_ifs <;> simp only [TariffClass.code] <;> omega

/-- A T1 entry as written gives back other words exactly where one of its ranged fields is out of range (R2). -/
theorem resOf_words_ne {ws : List Word} (hl : ws.length = entryWords 1) (hf : takeFlags 1 ws = ws)
    (hk : ¬1 < field ws 1) : (resOf ws).words ≠ ws ↔
      (outside 1000 20000 (field ws 2) ∨ 500 < field ws 7 ∨ outside 10 3600 (field ws 8) ∨
        outside 30 600 (field ws 9) ∨ 2000 < field ws 10 ∨ 2000 < field ws 11) := by
  match ws, hl with
  | [w0, w1, w2, w3, w4, w5, w6, w7, w8, w9, w10, w11], _ =>
    have hflag : flagWord (w0.toNat != 0) = w0 := flagWord_eq (List.cons.inj hf).1
    simp only [resOf, ResEntry.words, resKind_code hk]
    simp (disch := omega) only [flagField, field_zero, field_succ, ne_eq, List.cons.injEq,
      and_true, natWord_toNat, true_and, hflag, natWord_clamp_eq_iff, not_and_or, not_not, outside_zero]

theorem stageEntryOf_words_ne {ws : List Word} (hl : ws.length = entryWords 2) (hf : takeFlags 2 ws = ws)
    (hg : ¬(outside 1 9 (field ws 1) ∨ 9 < field ws 2 ∨ field ws 2 = field ws 1 ∨ outside 1 4 (field ws 3))) :
    (stageEntryOf ws).words ≠ ws ↔
      (outside 1 (field ws 3) (field ws 4) ∨ outside 1 250 (field ws 5) ∨ 20 < field ws 6 ∨ 1000 < field ws 7 ∨
        5000 < field ws 8 ∨ field ws 3 < field ws 9 ∨ 600 < field ws 10) := by
  simp only [outside, not_or, Nat.not_lt] at hg
  obtain ⟨⟨-, hd⟩, hs, -, hn, hn'⟩ := hg
  match ws, hl with
  | [w0, w1, w2, w3, w4, w5, w6, w7, w8, w9, w10], _ =>
    have hflag : flagWord (w0.toNat != 0) = w0 := flagWord_eq (List.cons.inj hf).1
    simp only [field_zero, field_succ] at hd hs hn hn'
    have hdel : natWord (Fin.ofNat 10 w1.toNat).val = w1 := by
      rw [Fin.val_ofNat, Nat.mod_eq_of_lt (by omega), natWord_toNat]
    have hsuc : natWord (Fin.ofNat 10 w2.toNat).val = w2 := by
      rw [Fin.val_ofNat, Nat.mod_eq_of_lt (by omega), natWord_toNat]
    simp (disch := omega) only [stageEntryOf, StageEntry.words, flagField, field_zero, field_succ, ne_eq,
      List.cons.injEq, and_true, natWord_toNat, true_and, hdel, hsuc, hflag, natWord_clamp_eq_iff, not_and_or, not_not,
      outside_zero]

theorem pumpEntryOf_words_ne {ws : List Word} (hl : ws.length = entryWords 3) (hf : takeFlags 3 ws = ws)
    (hg : ¬(outside 1 62 (field ws 0) ∨ 255 < field ws 1 ∨ 1 < field ws 2 ∨ 2 < field ws 4)) :
    (pumpEntryOf ws).words ≠ ws ↔
      (outside 1 500 (field ws 3) ∨ 3600 < field ws 5 ∨ 3600 < field ws 6 ∨ outside 5 120 (field ws 7) ∨
        outside 5 120 (field ws 8) ∨ outside 1 12 (field ws 9) ∨ 5 < field ws 10 ∨ outside 60 3600 (field ws 11) ∨
        outside 60 3600 (field ws 12) ∨ outside 1 4 (field ws 13)) := by
  simp only [outside, not_or, Nat.not_lt] at hg
  obtain ⟨-, -, hfeed, hown⟩ := hg
  match ws, hl with
  | [w0, w1, w2, w3, w4, w5, w6, w7, w8, w9, w10, w11, w12, w13, w14], _ =>
    simp only [pumpEntryOf, PumpEntry.words, feederCode_written hfeed]
    simp only [field_zero, field_succ] at hown
    have hflag : flagWord (w14.toNat != 0) = w14 := by
      refine flagWord_eq ?_
      have := congrArg (fun l => l.getD 14 0) hf
      exact this
    have howner : natWord ((Ownership.ofCode? w4.toNat).getD .outOfService).code = w4 := by
      rw [ownership_ofCode?, natWord_eq_iff (by split_ifs <;> decide)]
      split_ifs <;> simp only [Ownership.code] <;> omega
    simp (disch := omega) only [flagField, field_zero, field_succ, ne_eq,
      List.cons.injEq, and_true, natWord_toNat, true_and, howner, hflag, natWord_clamp_eq_iff, not_and_or,
      not_not, outside_zero]

theorem feederEntryOf_words_ne {ws : List Word} (hl : ws.length = entryWords 4) :
    (feederEntryOf ws).words ≠ ws ↔ (2000 < field ws 0 ∨ outside 5 600 (field ws 1)) := by
  match ws, hl with
  | [w0, w1], _ =>
    simp (disch := omega) only [feederEntryOf, FeederEntry.words, field_zero, field_succ, ne_eq, List.cons.injEq,
      and_true, natWord_clamp_eq_iff, not_and_or, not_not, outside_zero]

theorem windowOf_words_ne {ws : List Word} (hl : ws.length = entryWords 5) (hf : takeFlags 5 ws = ws)
    (hg : ¬(1 < field ws 1 ∨ 2 < field ws 3)) : (windowOf ws).words ≠ ws ↔ 1439 < field ws 2 := by
  simp only [not_or, Nat.not_lt] at hg
  obtain ⟨hd, hc⟩ := hg
  match ws, hl with
  | [w0, w1, w2, w3], _ =>
    simp only [windowOf, WindowEntry.words, tariffClass_code hc]
    simp only [field_zero, field_succ] at hd
    have hflag : flagWord (w0.toNat != 0) = w0 := flagWord_eq (List.cons.inj hf).1
    have hday : natWord (Fin.ofNat 2 w1.toNat).val = w1 := by
      rw [Fin.val_ofNat, Nat.mod_eq_of_lt (by omega), natWord_toNat]
    simp (disch := omega) only [flagField, field_zero, field_succ, ne_eq, List.cons.injEq,
      and_true, natWord_toNat, true_and, hflag, hday, natWord_clamp_eq_iff, not_not, outside_zero]

/-- The three flags that share a word (R161). -/
theorem flags_word {w : Word} (h : w &&& 7 = w) :
    flagBit (w.getLsbD 0) 0 ||| flagBit (w.getLsbD 1) 1 ||| flagBit (w.getLsbD 2) 2 = w := by
  have h7 : ∀ i : Nat, i < 16 → (7#16).getLsbD i = (decide (i = 0) || decide (i = 1) || decide (i = 2)) := by decide
  refine BitVec.eq_of_getLsbD_eq fun i hi => ?_
  have hw : w.getLsbD i = (w.getLsbD i && (7#16).getLsbD i) := by
    rw [← BitVec.getLsbD_and]
    exact (congrArg (·.getLsbD i) h).symm
  rw [BitVec.getLsbD_or, BitVec.getLsbD_or, flagBit_getLsbD _ (by decide), flagBit_getLsbD _ (by decide),
    flagBit_getLsbD _ (by decide), hw, h7 i hi]
  by_cases h0 : i = 0
  · simp [h0]
  · by_cases h1 : i = 1
    · simp [h1]
    · by_cases h2 : i = 2 <;> simp [h0, h1, h2]

theorem clampQuiet_word (w : Word) : natWord (clampQuiet w.toNat) = w ↔ w.toNat = 0 ∨ ¬outside 10 3600 w.toNat := by
  unfold clampQuiet
  split
  · next h => simp [h, natWord_eq_iff]
  · next h =>
    rw [natWord_clamp_eq_iff w (by decide) (by decide)]
    simp [h]

theorem generalOf_words_ne {ws : List Word} (hl : ws.length = entryWords 9) (hf : takeFlags 9 ws = ws) :
    (generalOf ws).words ≠ ws ↔ (outside 1 7 (field ws 3) ∨ (field ws 4 ≠ 0 ∧ outside 10 3600 (field ws 4)) ∨
      outside 30 600 (field ws 5)) := by
  match ws, hl with
  | [w0, w1, w2, w3, w4, w5, w6], _ =>
    have hflags := flags_word (w := w6) (congrArg (fun l => l.getD 6 0) hf)
    simp (disch := omega) only [generalOf, General.words, field_zero, field_succ, List.getD_cons_succ,
      List.getD_cons_zero, ne_eq, List.cons.injEq, and_true, natWord_toNat, true_and, hflags, natWord_clamp_eq_iff,
      clampQuiet_word, not_and_or, not_or, not_not]

/-! ### The settling of O49 -/

/-- Whether a value was clamped, where no row fails the test of its words (R165). -/
theorem clampedRow_iff {rows : List Row} {table n : Nat} {words : List Word → List Word} {out bad : List Word → Prop}
    (hn : n = tableSize table) (hr : RowsFit rows)
    (hno : ∀ i : Fin n, ¬∃ ws, rowFor rows table i.val = some ws ∧ bad ws)
    (hout : ∀ ws : List Word, ws.length = entryWords table → takeFlags table ws = ws → ¬bad ws →
      (words ws ≠ ws ↔ out ws)) : clampedRow rows table n words = true ↔ ClampedIn rows table out :=
  clampedIn_iff n hn hr (good := fun ws => ¬bad ws) (fun i ws hws hb => hno i ⟨ws, hws, hb⟩) hout

theorem entry_six (tab : Settings) (i : Fin 7) : Fin.ofNat 2 (field (tab.entry 6 i.val) 0) = tab.t6[i] := by
  have he : tab.entry 6 i.val = [natWord (tab.t6[i]).val] := by
    rw [← toList_getD tab.t6 i 0]
    rfl
  rw [he, field_zero, natWord_toNat_of_lt (by omega), Fin.ofNat_val_eq_self]

theorem entry_fourteen (tab : Settings) (i : Fin 32) :
    (tab.entry 14 i.val).getD 0 0 ++ (tab.entry 14 i.val).getD 1 0 = tab.t14[i] := by
  rw [← toList_getD tab.t14 i 0]
  exact longWords_join _

/-- Settles O49: the segments, the rows, the words of each table and its judgement. -/
theorem tableWordsReadBack : Obligations.TableWordsReadBack := by
  refine ⟨⟨by decide, segmentForm_eq, ?_, fun tag bytes h => ⟨_, parseArguments_write tag h⟩,
      fun segs row => mem_rowsOf, fun a b => List.flatMap_append, fun table j ws =>
      ⟨takeFlags_length table ws, takeFlags_field table j ws⟩, fun rows table index ws => rowFor_eq_some_iff⟩,
    ⟨?_, fun e => pointOf_words, fun e => resOf_words, fun e => stageEntryOf_words, fun e => pumpEntryOf_words,
      fun e => feederEntryOf_words, fun e => windowOf_words, entry_six, fun e => mirrorOf_words, fun e => sourceOf_words,
      fun e => generalOf_words, entry_fourteen⟩,
    fun ws => ⟨rfl, rfl, resOf_fields ws, fun hd hs hn => ⟨_, _, rfl, rfl, stageEntryOf_fields (Nat.lt_succ_of_le hd)
      (Nat.lt_succ_of_le hs) hn⟩, pumpEntryOf_fields ws, feederEntryOf_fields ws, fun hd => ⟨_, rfl,
      windowOf_fields (Nat.lt_succ_of_le hd)⟩, sourceOf_fields ws, generalOf_fields ws⟩,
    judgeT0_judged, ?_, ?_, ?_, ?_, ?_, judgeT6_judged, judgeT7_judged, judgeT8_judged, ?_, ?_⟩
  · intro tag segs tail hgood hl form hform
    rw [parseArguments_write tag hl] at hform
    obtain ⟨n, hn, hread⟩ := readSegments_whole hgood hl
    rw [hread] at hform
    obtain rfl : (readSegments n tail).after segs = form := by injection hform with _ h; injection h
    refine ⟨?_, fun h => ?_, ?_⟩
    · rintro rfl
      rw [readSegments_nil]
      exact congrArg WriteForm.segments (List.append_nil segs)
    · rw [readSegments_cut n h]
      rfl
    · rintro table first count rest r rfl h
      obtain ⟨n, rfl⟩ : ∃ m, n = m + 1 := ⟨n - 1, by rw [List.length_cons, List.length_cons, List.length_cons] at hn; omega⟩
      rw [readSegments_misformed n h]
      rfl
  · intro segs hgood n hn
    have h := readSegments_append segs [] (n - segs.length) hgood
    rw [List.append_nil, Nat.add_sub_cancel' hn, readSegments_nil] at h
    exact h.trans (congrArg WriteForm.segments (List.append_nil segs))
  · intro tab rows new hr hnew
    refine (judgeT1_judged tab rows new hnew).imp fun htests t c ⟨hget, hc⟩ => ⟨hget, ?_⟩
    rw [hc]
    exact clampedRow_iff rfl hr (htests _ List.mem_cons_self) fun ws => resOf_words_ne
  · intro tab rows hr
    refine (judgeT2_judged tab rows).imp fun htests t c ⟨hget, hc⟩ => ⟨hget, ?_⟩
    rw [hc]
    exact clampedRow_iff rfl hr (htests _ List.mem_cons_self) fun ws => stageEntryOf_words_ne
  · intro s rows new hr hnew
    refine (judgeT3_judged s rows new hnew).imp fun htests t c ⟨hget, hc⟩ => ⟨hget, ?_⟩
    rw [hc]
    exact clampedRow_iff rfl hr (htests _ List.mem_cons_self) fun ws => pumpEntryOf_words_ne
  · intro tab rows hr
    refine (judgeT4_judged tab rows).imp fun _ t c ⟨hget, hc⟩ => ⟨hget, ?_⟩
    rw [hc]
    exact clampedRow_iff (bad := fun _ => False) rfl hr (fun i ⟨_, _, h⟩ => h) fun ws hl _ _ => feederEntryOf_words_ne hl
  · intro tab rows new hr hnew
    refine (judgeT5_judged tab rows new hnew).imp fun htests t c ⟨hget, hc⟩ => ⟨hget, ?_⟩
    rw [hc]
    exact clampedRow_iff rfl hr (htests _ List.mem_cons_self) fun ws => windowOf_words_ne
  · intro s rows hr
    refine (judgeT9_judged s rows).imp fun _ t c ⟨hget, hc⟩ => ⟨hget, ?_⟩
    rw [hc]
    exact clampedRow_iff (bad := fun _ => False) rfl hr (fun i ⟨_, _, h⟩ => h) fun ws hl hf _ => generalOf_words_ne hl hf
  · intro tab rows i
    simp only [newT14, Fin.getElem_fin, Vector.getElem_ofFn]
    rfl

end Sys2Proof.Machine
end

section
/-!
PROOFS. The completion of a TABLE_WRITE, block by block (R165 step 5): its structural test, the order of the judgement,
and what the reservoirs, the Start Arbiter, the Demand Unit and the upline quiet timer make of a write.
-/

namespace Sys2Proof.Machine

/-! ### The structural fields (R165 step 3) -/

theorem mem_structuralFields {t j : Nat} : j ∈ structuralFields t ↔ (t = 0 ∧ j ≤ 6) ∨ (t = 1 ∧ j ≤ 1) ∨
    (t = 2 ∧ j ≤ 3) ∨ (t = 3 ∧ j ≤ 2) ∨ (t = 9 ∧ j = 0) := by
  unfold structuralFields
  split
  case h_6 h0 h1 h2 h3 h9 =>
    simp [eq_false h0, eq_false h1, eq_false h2, eq_false h3, eq_false h9]
  case h_5 => simp
  all_goals
    simp
    omega

theorem changesStructure_iff (tab : Settings) (r : Row) : changesStructure tab r = true ↔ ∃ j : Nat,
    ((r.table = 0 ∧ j ≤ 6) ∨ (r.table = 1 ∧ j ≤ 1) ∨ (r.table = 2 ∧ j ≤ 3) ∨ (r.table = 3 ∧ j ≤ 2) ∨
      (r.table = 9 ∧ j = 0)) ∧ field r.words j ≠ field (tab.entry r.table r.index) j := by
  simp only [changesStructure, List.any_eq_true, mem_structuralFields, bne_iff_ne]

/-! ### The order of the judgement (R165 step 4) -/

/-- A judgement continued refuses with its first part, or as what follows it does. -/
theorem Verdict.refusal_andThen {α β : Type} {x : Verdict α} {f : α → Bool → Verdict β} {o : Option (Reason × Nat × Nat)}
    (h : ∀ a c, x = .passed a c → (f a c).refusal = o) : (x.andThen f).refusal = x.refusal.or o := by
  cases x with
  | refused => rfl
  | passed a c => exact h a c rfl

theorem ite_refusal {α : Type} (b : Bool) (v : Verdict α) (old : α) :
    (if b then v else .passed old false).refusal = if b then v.refusal else none := by
  cases b <;> rfl

theorem findSome?_id_cons {α : Type} (o : Option α) (l : List (Option α)) :
    List.findSome? id (o :: l) = o.or (List.findSome? id l) := by
  cases o <;> rfl

theorem judge_refusal (s : Part) (rows : List Row) (t5 : Vector WindowEntry 24)
    (h5 : t5 = if touches rows 5 || touches rows 6 then ((judgeT5 s.tab rows).table?.map Prod.fst).getD s.tab.t5
      else s.tab.t5) : (judge s rows).refusal = List.findSome? id
       [if touches rows 0 then (judgeT0 s.tab rows).refusal else none,
        if touches rows 1 then (judgeT1 s.tab rows).refusal else none,
        if touches rows 2 then (judgeT2 s.tab rows).refusal else none,
        if touches rows 3 then (judgeT3 s rows).refusal else none,
        if touches rows 4 then (judgeT4 s.tab rows).refusal else none,
        if touches rows 5 || touches rows 6 then (judgeT5 s.tab rows).refusal else none,
        if touches rows 5 || touches rows 6 then (judgeT6 s.tab t5 rows).refusal else none,
        if touches rows 7 then (judgeT7 s.tab rows).refusal else none,
        if touches rows 8 then (judgeT8 s.tab rows).refusal else none,
        if touches rows 9 then (judgeT9 s rows).refusal else none] := by
  have same : ∀ (t : Vector WindowEntry 24) (c : Bool),
      (if touches rows 5 || touches rows 6 then judgeT5 s.tab rows else .passed s.tab.t5 false) = .passed t c → t = t5 := by
    intro t c ht
    split at ht
    · next hw =>
      rw [h5, if_pos hw, ht]
      rfl
    · next hw =>
      cases ht
      rw [h5, if_neg hw]
  simp only [findSome?_id_cons, ← ite_refusal (old := s.tab.t0), ← ite_refusal (old := s.tab.t1),
    ← ite_refusal (old := s.tab.t2), ← ite_refusal (old := s.tab.t3), ← ite_refusal (old := (s.tab.t4a, s.tab.t4b)),
    ← ite_refusal (old := s.tab.t5), ← ite_refusal (old := s.tab.t6), ← ite_refusal (old := s.tab.t7),
    ← ite_refusal (old := s.tab.t8), ← ite_refusal (old := s.tab.t9)]
  rw [judge]
  refine Verdict.refusal_andThen fun t0 c0 _ => Verdict.refusal_andThen fun t1 c1 _ => Verdict.refusal_andThen
    fun t2 c2 _ => Verdict.refusal_andThen fun t3 c3 _ => Verdict.refusal_andThen fun t4 c4 _ =>
    Verdict.refusal_andThen fun t c5 ht => ?_
  obtain rfl := same t c5 ht
  exact Verdict.refusal_andThen fun t6 c6 _ => Verdict.refusal_andThen fun t7 c7 _ => Verdict.refusal_andThen
    fun t8 c8 _ => Verdict.refusal_andThen fun t9 c9 _ => rfl

/-! ### The reservoirs (R12 to R14, R16, R17) -/

theorem updatedRecord_eq (b : ResEntry) (l : ResLive) : updatedRecord b l = { l with
    level := min l.level b.fs, sampleLevel := min l.sampleLevel b.fs
    state := if l.state = .unknown ∨ l.state = .stale then l.state else arrivalState b l (min l.level b.fs) } := by
  by_cases h : l.noLevel = true
  · rw [if_pos ((noLevel_iff l).1 h)]
    exact if_pos h
  · rw [if_neg fun hs => h ((noLevel_iff l).2 hs), arrivalState, if_neg h]
    exact if_neg h

theorem entersAlarm_iff (old new : ResState) : entersAlarm old new = true ↔
    new ≠ old ∧ (new = .lowAlarm ∨ new = .highAlarm) := by
  simp only [entersAlarm, Bool.and_eq_true, Bool.or_eq_true, bne_iff_ne, beq_iff_eq]

/-- The record written, with the escalation and the event of its change of state. -/
def recordWritten (r : Fin 10) (new : ResLive) (s : Part) : Part := handState r s.levels[r].state new.state (s.setLevel r new)

theorem recordWritten_eq (s : Part) (r : Fin 10) (l new : ResLive) (y z : Plant) (hl : l = s.levels[r])
    (hy : y = if new.state = .lowAlarm ∧ l.state ≠ .lowAlarm then escalate s.view r s.plant else s.plant)
    (hz : z = if new.state ≠ l.state ∧ (new.state = .lowAlarm ∨ new.state = .highAlarm) then y.raise .levelAlarm else y) :
    recordWritten r new s = { s with levels := s.levels.set r new, plant := z } := by
  subst hl hy hz
  unfold recordWritten handState
  dsimp only
  by_cases hlow : new.state = .lowAlarm ∧ s.levels[r].state ≠ .lowAlarm
  · have ha : entersAlarm s.levels[r].state new.state = true :=
      (entersAlarm_iff _ _).2 ⟨fun e => hlow.2 (e ▸ hlow.1), .inl hlow.1⟩
    rw [if_pos hlow, if_pos hlow, if_pos ha, if_pos ((entersAlarm_iff _ _).1 ha)]
    rfl
  · rw [if_neg hlow, if_neg hlow]
    by_cases ha : entersAlarm s.levels[r].state new.state = true
    · rw [if_pos ha, if_pos ((entersAlarm_iff _ _).1 ha)]
      rfl
    · rw [if_neg ha, if_neg fun h => ha ((entersAlarm_iff _ _).2 h)]
      rfl

/-- A record written without a change into LOW_ALARM or HIGH_ALARM hands nothing on. -/
theorem recordWritten_quiet (s : Part) (r : Fin 10) (new : ResLive)
    (h : new.state = s.levels[r].state ∨ (new.state ≠ .lowAlarm ∧ new.state ≠ .highAlarm)) :
    recordWritten r new s = s.setLevel r new := by
  have hlow : ¬(new.state = .lowAlarm ∧ s.levels[r].state ≠ .lowAlarm) := fun hl =>
    h.elim (fun e => hl.2 (e ▸ hl.1)) fun e => e.1 hl.1
  have ha : ¬entersAlarm s.levels[r].state new.state = true := fun ha => by
    obtain ⟨hne, hal⟩ := (entersAlarm_iff _ _).1 ha
    exact h.elim hne fun e => hal.elim e.1 e.2
  rw [recordWritten, handState, if_neg hlow]
  exact if_neg ha

theorem setLevel_self (s : Part) (r : Fin 10) : s.setLevel r s.levels[r] = s := by
  have h : s.levels.set r s.levels[r] = s.levels := Vector.set_getElem_self ..
  rw [Part.setLevel, h]

theorem freshRecord_eq (b : ResEntry) : freshRecord b =
    if b.enabled = true ∧ b.kind = .unmetered then { level := b.fs, state := .normal } else {} := by
  simp only [freshRecord, Bool.and_eq_true, beq_iff_eq]

theorem reservoirWrite_record (old : Settings) (s : Part) (r : Fin 10) : reservoirWrite old s r =
    recordWritten r (if old.t1[r].enabled ≠ s.tab.t1[r].enabled ∨ old.t1[r].kind ≠ s.tab.t1[r].kind then
        if s.tab.t1[r].enabled = true ∧ s.tab.t1[r].kind = .unmetered then { level := s.tab.t1[r].fs, state := .normal }
        else {}
      else if s.tab.t1[r].enabled = false then s.levels[r]
      else if s.tab.t1[r].kind = .unmetered then { s.levels[r] with level := s.tab.t1[r].fs }
      else if old.t1[r].fs = s.tab.t1[r].fs ∧ old.t1[r].la = s.tab.t1[r].la ∧ old.t1[r].ha = s.tab.t1[r].ha ∧
        old.t1[r].ah = s.tab.t1[r].ah then s.levels[r]
      else { s.levels[r] with
        level := min s.levels[r].level s.tab.t1[r].fs, sampleLevel := min s.levels[r].sampleLevel s.tab.t1[r].fs
        state := if s.levels[r].state = .unknown ∨ s.levels[r].state = .stale then s.levels[r].state
          else arrivalState s.tab.t1[r] s.levels[r] (min s.levels[r].level s.tab.t1[r].fs) }) s := by
  unfold reservoirWrite
  dsimp only
  by_cases hch : old.t1[r].enabled ≠ s.tab.t1[r].enabled ∨ old.t1[r].kind ≠ s.tab.t1[r].kind
  · rw [if_pos hch, if_pos hch, freshRecord_eq]
    refine (recordWritten_quiet s r _ (.inr ?_)).symm
    split <;> exact ⟨nofun, nofun⟩
  rw [if_neg hch, if_neg hch]
  cases hen : s.tab.t1[r].enabled with
  | false =>
    rw [if_neg (by simp), if_neg (by simp), if_pos rfl, recordWritten_quiet s r _ (.inl rfl), setLevel_self]
  | true =>
    rw [if_neg (show ¬true = false from nofun)]
    by_cases hk : s.tab.t1[r].kind = .unmetered
    · rw [if_pos (by rw [hk]; rfl), if_pos hk]
      exact (recordWritten_quiet s r { s.levels[r] with level := s.tab.t1[r].fs } (.inl rfl)).symm
    · rw [if_neg (show ¬(true && s.tab.t1[r].kind == .unmetered) = true from fun h => hk (eq_of_beq h)), if_neg hk]
      by_cases hsame : old.t1[r].fs = s.tab.t1[r].fs ∧ old.t1[r].la = s.tab.t1[r].la ∧ old.t1[r].ha = s.tab.t1[r].ha ∧
          old.t1[r].ah = s.tab.t1[r].ah
      · obtain ⟨h1, h2, h3, h4⟩ := hsame
        have hno : ¬(true = true ∧ (old.t1[r].fs ≠ s.tab.t1[r].fs ∨ old.t1[r].la ≠ s.tab.t1[r].la ∨
            old.t1[r].ha ≠ s.tab.t1[r].ha ∨ old.t1[r].ah ≠ s.tab.t1[r].ah)) := by
          rintro ⟨-, h | h | h | h⟩
          exacts [h h1, h h2, h h3, h h4]
        rw [if_neg hno, if_pos ⟨h1, h2, h3, h4⟩, recordWritten_quiet s r _ (.inl rfl), setLevel_self]
      · have hch : true = true ∧ (old.t1[r].fs ≠ s.tab.t1[r].fs ∨ old.t1[r].la ≠ s.tab.t1[r].la ∨
            old.t1[r].ha ≠ s.tab.t1[r].ha ∨ old.t1[r].ah ≠ s.tab.t1[r].ah) :=
          ⟨rfl, by simpa only [not_and_or] using hsame⟩
        rw [if_pos hch, if_neg hsame, ← updatedRecord_eq]
        rfl

/-! ### The Start Arbiter and the Demand Unit (R34, R35, R98, R107) -/

theorem arbiterWrite_eq (rows : List Row) (v : View) (x : Plant) : arbiterWrite rows v x = { x with
    queue := if touches rows 9 then x.queue.map fun e =>
        { e with blocking := decide (v.tab.t9.bypassLimit ≤ e.bypass) }
      else x.queue
    feedA := { x.feedA with scanDue := x.feedA.scanDue || touchesEntry rows 4 0 || touches rows 9 }
    feedB := { x.feedB with scanDue := x.feedB.scanDue || touchesEntry rows 4 1 || touches rows 9 } } := by
  unfold arbiterWrite
  cases touchesEntry rows 4 0 <;> cases touchesEntry rows 4 1 <;> cases touches rows 9 <;>
    simp [Plant.markScan, Plant.setFeeder, Plant.feeder, applyBypassLimit]

theorem stageWrite_rest (old new : Settings) (k : Fin 8) (x : Plant) :
    stageWrite old new x k = { x with stages := (stageWrite old new x k).stages } := by
  unfold stageWrite
  split <;> rfl

theorem foldl_stageWrite (old new : Settings) (x : Plant) : stageList.foldl (stageWrite old new) x =
    { x with stages := Vector.ofFn fun k => if old.t2[k].enabled = new.t2[k].enabled then x.stages[k]
      else { cause := .tableWrite } } := by
  have rest : stageList.foldl (stageWrite old new) x =
      { x with stages := (stageList.foldl (stageWrite old new) x).stages } :=
    List.foldlRecOn (motive := fun y : Plant => y = { x with stages := y.stages }) _ _ rfl fun y hy k _ => by
      rw [stageWrite_rest, hy]
  rw [rest]
  refine congrArg (fun w => { x with stages := w }) (Vector.ext fun i hi => ?_)
  have h := foldl_stageWrite_stage old new stageList x ⟨i, hi⟩
  rw [Vector.getElem_ofFn]
  refine h.trans ?_
  by_cases he : old.t2[i].enabled = new.t2[i].enabled
  · rw [if_neg fun hc => hc.2 he]
    exact (if_pos he).symm
  · rw [if_pos ⟨List.mem_finRange _, he⟩]
    exact (if_neg he).symm

theorem demandWrite_eq (old : Settings) (rows : List Row) (v : View) (x : Plant) : demandWrite old rows v x =
    (stageList.filter fun k => touchesEntry rows 2 k.val ||
       touchesEntry rows 1 v.tab.t2[k].delivery.val || touchesEntry rows 1 v.tab.t2[k].suction.val ||
       touches rows 5 || touches rows 6).foldl (evaluate v .tableWrite)
      { x with stages := Vector.ofFn fun k => if old.t2[k].enabled = v.tab.t2[k].enabled then x.stages[k]
        else { cause := .tableWrite } } := by
  rw [demandWrite, foldl_stageWrite]
  rfl

/-! ### Lost points (R142) -/

theorem pointLost_eq {old new : Settings} {p : Fin 32} {lost : Nat → Bool}
    (h : ∀ kind : Nat, lost kind = true ↔
       (∃ i : Fin 128, old.t0[i].used = true ∧ old.t0[i].kind = kind ∧ old.t0[i].target = p.val) ∧
       ∀ i : Fin 128, ¬(new.t0[i].used = true ∧ new.t0[i].kind = kind ∧ new.t0[i].target = p.val)) (kind : Nat) :
    pointLost old new kind p = lost kind := by
  rw [Bool.eq_iff_iff, h, pointLost, Bool.and_eq_true, Bool.not_eq_true', hasPoint_eq_false]
  refine and_congr_left fun _ => ?_
  rw [← not_iff_not, Bool.not_eq_true, hasPoint_eq_false, not_exists]

end Sys2Proof.Machine
end

section
/-!
PROOFS. The completion of a TABLE_WRITE by the Pump Sequencer (R55, R56, R108), and the composition of the completions
(R165 step 5).
-/

namespace Sys2Proof.Machine

/-! ### Slots that become assigned or unassigned (R56) -/

theorem slotWrite_same {old new : Settings} {p : Fin 32} (h : assigned old p = assigned new p) (x : Plant) :
    slotWrite old new x p = x := if_pos h

theorem slotWrite_frame (old new : Settings) (x : Plant) (p : Fin 32) : OnlyPump p x (slotWrite old new x p) := by
  have d := OnlyPump.of_eq (OnlyPump.refl p x) (dequeue_stages p x) (dequeue_pumps p x)
  unfold slotWrite
  exact .ite (OnlyPump.refl p x) (.ite (d.setPump _) ((d.leaveStarting p).setPump _))

theorem slotWrite_pump (old new : Settings) (x : Plant) (p : Fin 32) : (slotWrite old new x p).pump p =
    if assigned old p = assigned new p then x.pump p
    else { state := if assigned new p = true then .unseen else .off, owner := new.t3[p].defaultOwner } := by
  unfold slotWrite
  split
  · rfl
  · split <;> exact Plant.pump_setPump_same ..

theorem foldl_slotWrite_pump (old new : Settings) (x : Plant) (p : Fin 32) :
    (slots.foldl (slotWrite old new) x).pump p = if assigned old p = assigned new p then x.pump p
      else { state := if assigned new p = true then .unseen else .off, owner := new.t3[p].defaultOwner } := by
  obtain ⟨y, hy, hy'⟩ := foldl_onlyPump_pump (slotWrite_frame old new) (List.nodup_finRange 32) x (List.mem_finRange p)
  rw [← hy, ← slotWrite_pump]
  exact hy'

theorem foldl_slotWrite_same {old new : Settings} (h : ∀ p : Fin 32, assigned old p = assigned new p) (ps : List (Fin 32))
    (x : Plant) : ps.foldl (slotWrite old new) x = x :=
  List.foldlRecOn (motive := fun y : Plant => y = x) ps _ rfl fun y hy p _ => by rw [slotWrite_same (h p), hy]

/-- What is left of a start slot when its holder has left it: a slot whose spacing timer is idle is FREE, and any other
is marked as left (R103). -/
def FeederLive.left (t : Timer) (l : FeederLive) : Prop := if t = none then l.busy = false else l.released = true

theorem FeederLive.left.holderLeaves {t : Timer} {l : FeederLive} (h : l.left t) (p : Fin 32) :
    l.holderLeaves p = l := by
  unfold FeederLive.left at h
  unfold FeederLive.holderLeaves
  split at h
  · simp [h]
  · simp [h]

theorem FeederLive.holderLeaves_left {l : FeederLive} (hb : l.busy = true) (hr : l.released = false) :
    (l.holderLeaves l.holder).left l.spacingT := by
  unfold FeederLive.left FeederLive.holderLeaves
  cases ht : l.spacingT with
  | none => simp [hb, hr, FeederLive.release]
  | some => simp [hb, hr]

theorem leaveStarting_feeder (p : Fin 32) (x : Plant) (f : Feeder) :
    (leaveStarting p x).feeder f = (x.feeder f).holderLeaves p := by cases f <;> rfl

/-- A slot that another writes is left as it was, or stays left. -/
theorem slotWrite_feeder (old new : Settings) (x : Plant) (p : Fin 32) (f : Feeder)
    (h : (x.feeder f).holder ≠ p ∨ ∃ t, (x.feeder f).left t) :
    ((slotWrite old new x p).feeder f).busy = (x.feeder f).busy ∧
      ((slotWrite old new x p).feeder f).holder = (x.feeder f).holder ∧
      ((slotWrite old new x p).feeder f).released = (x.feeder f).released ∧
      ((slotWrite old new x p).feeder f).spacingT = (x.feeder f).spacingT := by
  obtain ⟨hb, ho, hr, ht, -⟩ := SlotsFrom.dequeue p x f
  have leaves : ((dequeue p x).feeder f).holderLeaves p = (dequeue p x).feeder f := by
    rcases h with h | ⟨t, h⟩
    · exact holderLeaves_of_ne (by rwa [ho])
    · refine FeederLive.left.holderLeaves (t := t) ?_ p
      unfold FeederLive.left at h ⊢
      rwa [hb, hr]
  unfold slotWrite
  split
  · exact ⟨rfl, rfl, rfl, rfl⟩
  · split
    · obtain ⟨hb', ho', hr', ht', -⟩ := SlotsFrom.setPump p (freshPump new.t3[p]) (dequeue p x) f
      exact ⟨hb'.trans hb, ho'.trans ho, hr'.trans hr, ht'.trans ht⟩
    · obtain ⟨hb', ho', hr', ht', -⟩ :=
        SlotsFrom.setPump p (unassignedPump new.t3[p]) (leaveStarting p (dequeue p x)) f
      rw [hb', ho', hr', ht', leaveStarting_feeder, leaves]
      exact ⟨hb, ho, hr, ht⟩

/-- A STARTING pump whose slot becomes unassigned leaves its start slot (R56, R103). -/
theorem slotWrite_leaves {old new : Settings} {x : Plant} {p : Fin 32} {f : Feeder} (ho : (x.feeder f).holder = p)
    (hb : (x.feeder f).busy = true) (hr : (x.feeder f).released = false) (ha : assigned old p = true)
    (hn : assigned new p = false) : ((slotWrite old new x p).feeder f).left (x.feeder f).spacingT := by
  obtain ⟨hb', ho', hr', ht', -⟩ := SlotsFrom.dequeue p x f
  have e : slotWrite old new x p = (leaveStarting p (dequeue p x)).setPump p (unassignedPump new.t3[p]) := by
    rw [slotWrite, if_neg (by rw [ha, hn]; exact nofun), if_neg (by rw [hn]; exact nofun)]
  have hl := FeederLive.holderLeaves_left (hb'.trans hb) (hr'.trans hr)
  rw [ho', ho, ht'] at hl
  have ef : (slotWrite old new x p).feeder f = ((dequeue p x).feeder f).holderLeaves p := by
    rw [e, ← leaveStarting_feeder]
    cases f <;> rfl
  rwa [ef]

theorem foldl_slotWrite_left {old new : Settings} {p : Fin 32} {f : Feeder} {t : Timer} (ha : assigned old p = true)
    (hn : assigned new p = false) (ps : List (Fin 32)) (x : Plant)
    (h : (p ∈ ps ∧ (x.feeder f).holder = p ∧ (x.feeder f).busy = true ∧ (x.feeder f).released = false ∧
      (x.feeder f).spacingT = t) ∨ (x.feeder f).left t) :
    ((ps.foldl (slotWrite old new) x).feeder f).left t := by
  induction ps generalizing x with
  | nil => exact h.resolve_left fun h => nomatch h.1
  | cons a ps ih =>
    refine ih _ ?_
    rcases h with ⟨hm, ho, hb, hr, rfl⟩ | hl
    · by_cases e : a = p
      · subst e
        exact .inr (slotWrite_leaves ho hb hr ha hn)
      · obtain ⟨hb', ho', hr', ht'⟩ := slotWrite_feeder old new x a f (.inl (by rw [ho]; exact fun h => e h.symm))
        exact .inl ⟨(List.mem_cons.1 hm).resolve_left fun h => e h.symm, ho'.trans ho, hb'.trans hb, hr'.trans hr, ht'⟩
    · obtain ⟨hb', -, hr', -⟩ := slotWrite_feeder old new x a f (.inr ⟨t, hl⟩)
      unfold FeederLive.left at hl ⊢
      exact .inr (by rwa [hb', hr'])

/-! ### Ratings and their scans (R108) -/

theorem rescan_slotsFrom (old new : Settings) (x : Plant) (p : Fin 32) : SlotsFrom x (rescan old new x p) := by
  unfold rescan
  split
  · split
    · exact .markScan _ x
    · exact .refl x
  · exact .refl x

theorem rescan_queue (old new : Settings) (x : Plant) (p : Fin 32) : (rescan old new x p).queue = x.queue := by
  unfold rescan
  split
  · split
    · exact Plant.markScan_queue ..
    · rfl
  · rfl

theorem foldl_rescan_slotsFrom (old new : Settings) (ps : List (Fin 32)) (x : Plant) :
    SlotsFrom x (ps.foldl (rescan old new) x) :=
  List.foldlRecOn (motive := SlotsFrom x) ps _ (.refl x) fun y hy p _ => hy.trans (rescan_slotsFrom old new y p)

theorem foldl_rescan_queue (old new : Settings) (ps : List (Fin 32)) (x : Plant) :
    (ps.foldl (rescan old new) x).queue = x.queue :=
  List.foldlRecOn (motive := fun y : Plant => y.queue = x.queue) ps _ rfl fun y hy p _ => (rescan_queue old new y p).trans hy

/-- A scan follows for the request of a pump whose rating changed (R108). -/
theorem foldl_rescan_due {old new : Settings} {e : Request} (hr : old.t3[e.pump].rating ≠ new.t3[e.pump].rating)
    (ps : List (Fin 32)) (x : Plant) (hq : (x.queue.map Request.pump).Nodup) (he : e ∈ x.queue)
    (h : e.pump ∈ ps ∨ (x.feeder e.feeder).scanDue = true) :
    ((ps.foldl (rescan old new) x).feeder e.feeder).scanDue = true := by
  induction ps generalizing x with
  | nil => exact h.resolve_left nofun
  | cons a ps ih =>
    have hq' := rescan_queue old new x a
    refine ih _ (by rwa [hq']) (by rwa [hq']) ?_
    rcases h with hm | hd
    · rcases List.mem_cons.1 hm with rfl | hm
      · refine .inr ?_
        rw [rescan, requestOf_eq_some he rfl hq]
        dsimp only
        rw [if_pos hr, Plant.markScan, Plant.feeder_setFeeder_same]
      · exact .inl hm
    · exact .inr ((rescan_slotsFrom old new x a e.feeder).2.2.2.2 hd)

/-! ### The completion of the Pump Sequencer (R55, R56, R108) -/

/-- The completion before the committed power is recomputed. -/
def pumpsEntered (old : Settings) (rows : List Row) (new : Settings) (x : Plant) : Plant :=
  (writtenSlots rows).foldl (rescan old new)
    ((writtenSlots rows).foldl (lowerRetries new) (slots.foldl (slotWrite old new) x))

theorem pumpsWritten_of_entered (old : Settings) (rows : List Row) (v : View) (x : Plant) :
    pumpsWritten old rows v x = if touches rows 2 || touches rows 3 then
      recommit v.tab .b (recommit v.tab .a (pumpsEntered old rows v.tab x)) else pumpsEntered old rows v.tab x := rfl

theorem pumpsWritten_slotsFrom (old : Settings) (rows : List Row) (v : View) (x : Plant) :
    SlotsFrom (pumpsEntered old rows v.tab x) (pumpsWritten old rows v x) := by
  rw [pumpsWritten_of_entered]
  split
  · exact (SlotsFrom.recommit _ _ _).trans (SlotsFrom.recommit _ _ _)
  · exact .refl _

theorem pumpsWritten_queue (old : Settings) (rows : List Row) (v : View) (x : Plant) :
    (pumpsWritten old rows v x).queue = (pumpsEntered old rows v.tab x).queue := by
  rw [pumpsWritten_of_entered]
  split <;> simp

theorem mem_writtenSlots {rows : List Row} {p : Fin 32} : p ∈ writtenSlots rows ↔ touchesEntry rows 3 p.val = true := by
  simp [writtenSlots, slots]

theorem pumpsEntered_pump (old : Settings) (rows : List Row) (new : Settings) (x : Plant) (p : Fin 32) (q : Pump)
    (hq : q = if assigned old p = assigned new p then x.pump p
      else { state := if assigned new p = true then .unseen else .off, owner := new.t3[p].defaultOwner }) :
    (pumpsEntered old rows new x).pump p = { q with
      retries := if touchesEntry rows 3 p.val = true then min q.retries new.t3[p].retryLimit else q.retries } := by
  have hp := foldl_slotWrite_pump old new x p
  rw [← hq] at hp
  rw [pumpsEntered, Plant.pump_congr (foldl_rescan_pumps ..), RetriesLag.foldl_lowerRetries_pump, hp]
  by_cases h : touchesEntry rows 3 p.val = true
  · rw [if_pos (mem_writtenSlots.2 h), if_pos h]
  · rw [if_neg (fun hm => h (mem_writtenSlots.1 hm)), if_neg h]

theorem pumpsWritten_pump (old : Settings) (rows : List Row) (v : View) (x : Plant) (p : Fin 32) (q : Pump)
    (hq : q = if assigned old p = assigned v.tab p then x.pump p
      else { state := if assigned v.tab p = true then .unseen else .off, owner := v.tab.t3[p].defaultOwner }) :
    (pumpsWritten old rows v x).pump p = { q with
      retries := if touchesEntry rows 3 p.val = true then min q.retries v.tab.t3[p].retryLimit else q.retries } := by
  rw [← pumpsEntered_pump old rows v.tab x p q hq, pumpsWritten_of_entered]
  split
  · rw [recommit_pump, recommit_pump]
  · rfl

theorem pumpsWritten_committed {old : Settings} {rows : List Row} (h : touches rows 2 = true ∨ touches rows 3 = true)
    (v : View) (x : Plant) (f : Feeder) :
    ((pumpsWritten old rows v x).feeder f).committed = committedPower v.tab (pumpsWritten old rows v x) f := by
  rw [pumpsWritten_of_entered, if_pos (by simpa using h)]
  exact powerAgrees_iff.1 (PowerAgrees.recommit v.tab _) f

theorem foldl_lowerRetries_slotsFrom (tab : Settings) (ps : List (Fin 32)) (x : Plant) :
    SlotsFrom x (ps.foldl (lowerRetries tab) x) :=
  List.foldlRecOn (motive := SlotsFrom x) ps _ (.refl x) fun _ hy _ _ => hy.trans (SlotsFrom.setPump _ _ _)

theorem foldl_lowerRetries_queue (tab : Settings) (ps : List (Fin 32)) (x : Plant) :
    (ps.foldl (lowerRetries tab) x).queue = x.queue :=
  List.foldlRecOn (motive := fun y : Plant => y.queue = x.queue) ps _ rfl fun _ hy _ _ => hy

/-- The slot of a pump that holds it as its own becomes unassigned (R56, R103). -/
theorem pumpsWritten_left {old : Settings} (rows : List Row) {v : View} {x : Plant} {f : Feeder} {p : Fin 32}
    (hb : (x.feeder f).busy = true) (ho : (x.feeder f).holder = p) (hr : (x.feeder f).released = false)
    (ha : assigned old p = true) (hn : assigned v.tab p = false) :
    ((pumpsWritten old rows v x).feeder f).left (x.feeder f).spacingT := by
  have hl := foldl_slotWrite_left ha hn slots x (f := f) (.inl ⟨List.mem_finRange p, ho, hb, hr, rfl⟩)
  obtain ⟨hb', -, hr', -⟩ := (foldl_lowerRetries_slotsFrom v.tab (writtenSlots rows) _).trans
    ((foldl_rescan_slotsFrom old v.tab (writtenSlots rows) _).trans (pumpsWritten_slotsFrom old rows v x)) f
  unfold FeederLive.left at hl ⊢
  rwa [hb', hr']

/-- With no slot assigned or unassigned, the queue is kept. -/
theorem pumpsWritten_queue_same {old : Settings} {rows : List Row} {v : View} {x : Plant}
    (h : ∀ p : Fin 32, assigned old p = assigned v.tab p) : (pumpsWritten old rows v x).queue = x.queue := by
  rw [pumpsWritten_queue, pumpsEntered, foldl_rescan_queue, foldl_lowerRetries_queue, foldl_slotWrite_same h]

theorem pumpsWritten_rescan {old : Settings} {rows : List Row} {v : View} {x : Plant} {e : Request}
    (h : ∀ p : Fin 32, assigned old p = assigned v.tab p) (hq : (x.queue.map Request.pump).Nodup) (he : e ∈ x.queue)
    (ht : touchesEntry rows 3 e.pump.val = true) (hr : old.t3[e.pump].rating ≠ v.tab.t3[e.pump].rating) :
    ((pumpsWritten old rows v x).feeder e.feeder).scanDue = true := by
  refine (pumpsWritten_slotsFrom old rows v x e.feeder).2.2.2.2 ?_
  rw [pumpsEntered, foldl_slotWrite_same h]
  refine foldl_rescan_due hr _ _ ?_ ?_ (.inl (mem_writtenSlots.2 ht)) <;> rwa [foldl_lowerRetries_queue]

/-- The stages of the pumps that a write frees of their start limit (R55 step 3). -/
theorem stagesOf_limitEnded (old new : Settings) (rows : List Row) (y : Plant) :
    stagesOf ((writtenSlots rows).filter (limitEnded old new y)) = stageList.filter fun k => slots.any fun p =>
      stageOf p == k && touchesEntry rows 3 p.val && assigned new p &&
        decide (old.t3[p].startsPerHour ≤ (y.pump p).history.length) &&
        decide ((y.pump p).history.length < new.t3[p].startsPerHour) := by
  have ended (p : Fin 32) : limitEnded old new y p = (assigned new p &&
      decide (old.t3[p].startsPerHour ≤ (y.pump p).history.length) &&
      decide ((y.pump p).history.length < new.t3[p].startsPerHour)) := by
    unfold limitEnded startLimited
    rw [← decide_not, decide_eq_decide.2 Nat.not_le]
  unfold stagesOf writtenSlots
  refine congrArg (stageList.filter ·) (funext fun k => ?_)
  rw [List.any_filter, List.any_filter]
  refine congrArg slots.any (funext fun p => ?_)
  rw [ended]
  ac_rfl

end Sys2Proof.Machine
end

section
/-!
PROOFS. TABLE_WRITE: what its completions leave of the part, its refusals in order, and its effect (R165).
-/

namespace Sys2Proof.Machine

/-! ### What the completions leave of the part -/

@[simp] theorem reservoirWrite_free (old : Settings) (s : Part) (r : Fin 10) : (reservoirWrite old s r).free = s.free := by
  unfold reservoirWrite handState; dsimp only; split_ifs <;> rfl

@[simp] theorem foldl_reservoirWrite_free (old : Settings) (rs : List (Fin 10)) (s : Part) :
    (rs.foldl (reservoirWrite old) s).free = s.free :=
  List.foldlRecOn (motive := fun u : Part => u.free = s.free) rs _ rfl fun _ hu _ _ => by simp [hu]

@[simp] theorem boundaryEvent_free (s : Part) : (boundaryEvent s).free = s.free := by
  unfold boundaryEvent; dsimp only; split_ifs <;> rfl

theorem applyWrite_free (rows : List Row) (new : Settings) (s : Part) : (applyWrite rows new s).free = s.free := by
  unfold applyWrite recomputeClass quietWrite storeTables
  dsimp only
  split_ifs <;> simp

/-- Of the Line Interface a TABLE_WRITE changes the upline quiet timer and the upline lost condition alone (R137). -/
theorem applyWrite_line (rows : List Row) (new : Settings) (s : Part) : (applyWrite rows new s).line = { s.line with
    quietT := (applyWrite rows new s).line.quietT, uplineLost := (applyWrite rows new s).line.uplineLost } := by
  unfold applyWrite recomputeClass quietWrite
  dsimp only
  split_ifs <;> simp

/-! ### The composition of the completions (R165 step 5) -/

theorem applyWrite_composed (rows : List Row) (new : Settings) (s s0 s1 s2 s3 s4 s5 s6 : Part) (calendar : Bool)
    (hc : calendar = (touches rows 5 || touches rows 6))
    (h0 : s0 = if calendar = true then settlePart (boundaryEvent s) else s)
    (h1 : s1 = (reservoirList.filter fun r => touchesEntry rows 1 r.val).foldl (reservoirWrite s.tab)
      { s0 with tab := new, plant := { s0.plant with
        queue := if new.t9.classOrder = s.tab.t9.classOrder then s0.plant.queue
          else resort new.t9.classOrder s0.plant.queue } })
    (h2 : s2 = { s1 with plant := pumpWrite s.tab rows s1.view s1.plant })
    (h3 : s3 = if touches rows 0 = true then { s2 with plant := slots.foldl (lostPoints s.tab s2.view) s2.plant } else s2)
    (h4 : s4 = if touches rows 9 = true then quietWrite s.tab.t9.quietTime new.t9.quietTime s3 else s3)
    (h5 : s5 = settlePart { s4 with plant := arbiterWrite rows s4.view s4.plant })
    (h6 : s6 = if calendar = true then { s5 with cal := { s5.cal with cls := classAt new s5.cal, boundaryDue := false } }
      else s5) : applyWrite rows new s = { s6 with plant := demandWrite s.tab rows s6.view s6.plant } := by
  have e0 : s0.tab = s.tab := by rw [h0]; split <;> simp
  have e1 : s1 = (writtenReservoirs rows).foldl (reservoirWrite s.tab) (storeTables new s0) := by
    rw [h1, storeTables, e0]
    rfl
  have e5 : s5.tab = new := by
    rw [h5, h4, h3, h2, e1]
    unfold quietWrite
    split_ifs <;> simp
  have e6 : s6 = if calendar = true then recomputeClass s5 else s5 := by rw [h6, recomputeClass, e5]
  clear h1 h6 e0 e5
  subst hc h0 e1 h2 h3 h4 h5 e6
  rfl

/-! ### The refusals in order, and the write (R165) -/

section
variable {segs : List Segment} {s : Part}

theorem writeSegments_busy (h : s.mgmt.store.saving ≠ none) : writeSegments segs s = (s, refuse .busy []) := by
  rw [writeSegments, if_pos (Option.isSome_iff_ne_none.2 h)]

/-- A change of a structural field outside PASSIVE is refused by the first entry that makes one (R165 step 3). -/
theorem writeSegments_structure (h : s.mgmt.store.saving = none) {r : Row} (hm : s.mgmt.mode ≠ .passive)
    (hr : (rowsOf segs).find? (changesStructure s.tab) = some r) :
    writeSegments segs s = (s, refuseEntry .wrongMode r.table r.index) := by
  rw [writeSegments, if_neg (by rw [h]; exact nofun), if_neg hm, hr]

/-- No structural field is changed outside PASSIVE. -/
theorem structure_kept {rows : List Row} (h : s.mgmt.mode = .passive ∨ ∀ r ∈ rows, changesStructure s.tab r = false) :
    (if s.mgmt.mode = .passive then none else rows.find? (changesStructure s.tab)) = none := by
  split
  · rfl
  · next hm => exact List.find?_eq_none.2 fun r hr => by rw [h.resolve_left hm r hr]; exact nofun

theorem writeSegments_refused (h : s.mgmt.store.saving = none)
    (hm : s.mgmt.mode = .passive ∨ ∀ r ∈ rowsOf segs, changesStructure s.tab r = false) {r : Reason} {t i : Nat}
    (hj : judge s (rowsOf segs) = .refused r t i) : writeSegments segs s = (s, refuseEntry r t i) := by
  rw [writeSegments, if_neg (by rw [h]; exact nofun), structure_kept hm]
  dsimp only
  rw [hj]

theorem writeSegments_passed (h : s.mgmt.store.saving = none)
    (hm : s.mgmt.mode = .passive ∨ ∀ r ∈ rowsOf segs, changesStructure s.tab r = false) {new : Settings} {clamped : Bool}
    (hj : judge s (rowsOf segs) = .passed new clamped) : writeSegments segs s = (applyWrite (rowsOf segs) new s,
      { status := if clamped then .acceptedClamped else .accepted, reason := 0, data := [] }) := by
  rw [writeSegments, if_neg (by rw [h]; exact nofun), structure_kept hm]
  dsimp only
  rw [hj]
  rfl

end

theorem tableWriteRequest_replyQueue (form : WriteForm) (s : Part) :
    (tableWriteRequest form s).1.line.replyQueue = s.line.replyQueue := by
  cases form with
  | refused => rfl
  | segments segs =>
    show (writeSegments segs s).1.line.replyQueue = _
    unfold writeSegments
    dsimp only
    split
    · rfl
    · split
      · rfl
      · split
        · rfl
        · exact (applyWrite_queues ..).2.2.2

/-- What a TABLE_WRITE that is carried out leaves (R165 step 5). -/
theorem answered_write {h : ReqHead} {f : Frame} {form : WriteForm} {rows : List Row} {new : Settings} {a : Answer}
    {s t : Part} {q : Reply} (hf : h.source = f.source) (hst : a.status ≠ .refused)
    (hA : Answered f (carriedOut (.tableWrite form) (applyWrite rows new s.heard) a) t q) :
    t.tab = new ∧ t.mgmt = s.mgmt ∧ t.power = s.power ∧ t.free = s.free ∧ t.cal.uptime = s.cal.uptime ∧
      t.cal.clockSet = s.cal.clockSet ∧ t.cal.day = s.cal.day ∧ t.cal.minute = s.cal.minute ∧
      t.cal.second = s.cal.second ∧ t.cal = (applyWrite rows new s.heard).cal ∧
      t.line.quietT = (applyWrite rows new s.heard).line.quietT ∧
      t.line.uplineLost = (applyWrite rows new s.heard).line.uplineLost ∧
      EventsAfter h t (settlePart (applyWrite rows new s.heard)).plant.events t.plant.events ∧
      Answered f (settlePart (applyWrite rows new s.heard)) t q ∧ SameLine s.line t.line ∧ Replied s t q ∧
      t.levels = (applyWrite rows new s.heard).levels ∧
      SameRecords (settlePart (applyWrite rows new s.heard)).plant t.plant := by
  rw [carriedOut, if_neg hst] at hA
  change Answered f (settlePart (applyWrite rows new s.heard)) t q at hA
  obtain ⟨hrec, -, hline, -, hq, hquiet, hlost, hpow, htab, hcal, hlev, hmgmt, hfree, -⟩ :=
    answered_only (settled_settlePart _) hA
  have ht : t.tab = new := htab.trans (applyWrite_tab ..)
  obtain ⟨hup, hset, hday, hmin, hsec⟩ := applyWrite_clock rows new s.heard
  have hl := applyWrite_line rows new s.heard
  have hc : t.cal = (applyWrite rows new s.heard).cal := hcal
  have he := answered_events (s := t) (settled_settlePart _) hA hf ((applyWrite_tab ..).trans ht.symm)
  refine ⟨ht, hmgmt.trans (applyWrite_mgmt ..), hpow.trans (applyWrite_power ..), hfree.trans (applyWrite_free ..),
    hc ▸ hup, hc ▸ hset, hc ▸ hday, hc ▸ hmin, hc ▸ hsec, hc, hquiet, hlost, he, hA, ?_, ?_, hlev, hrec⟩
  · change SameLine (applyWrite rows new s.heard).line t.line at hline
    rw [hl] at hline
    exact hline
  · exact hq.trans (congrArg (· ++ [q]) (applyWrite_queues ..).2.2.2)

/-- The request that the bytes of the segments are read as is carried out and answered (R163, R165). -/
theorem tableWrite_carried {h : ReqHead} {segs : List Segment} {s : State} (ha : Asked h s.part)
    (hw : (Instr.tableWrite h segs).wf = true) (hne : segs ≠ []) : ∃ (t : State) (form : WriteForm),
      exec (.tableWrite h segs) s = .next t ∧ t.pending = s.pending ∧
      parseArguments 0x03 h.tag (segmentsBytes segs) = .request h.tag (.tableWrite form) ∧
      ∀ (u : Part) (a : Answer), tableWriteRequest form s.part.heard = (u, a) →
        Answered (manageFrame h 0x03 (segmentsBytes segs)) (carriedOut (.tableWrite form) u a) t.part
          (replyOf h.source h.tag a) := by
  have hlen : 3 ≤ (segmentsBytes segs).length := by
    have := segmentsBytes_length_le segs
    have := List.length_pos_iff.2 hne
    omega
  have hp := parseArguments_write h.tag hlen
  generalize readSegments _ _ = form at hp
  have hwf : (manageFrame h 0x03 (segmentsBytes segs)).wf = true := by
    refine decide_eq_true ?_
    have := of_decide_eq_true hw
    rw [← segmentsBytes_length] at this
    change (segmentsBytes segs).length + 1 + 1 ≤ maxPayload
    omega
  obtain ⟨t, ht, hpend, hA⟩ := request_carried (r := .tableWrite form) ha hwf (tableWriteRequest_replyQueue form _)
  refine ⟨t, form, ?_, hpend, hp, hA⟩
  rw [← hp] at ht
  exact ht

theorem judgeT3_heard (s : Part) (rows : List Row) : judgeT3 s.heard rows = judgeT3 s rows := by
  have ht : s.heard.tab = s.tab := rfl
  have hx : s.heard.plant = s.plant := rfl
  simp only [judgeT3, ht, hx]

theorem judgeT9_heard (s : Part) (rows : List Row) : judgeT9 s.heard rows = judgeT9 s rows := by
  unfold judgeT9
  rfl

/-- What the arrival of a frame changes has no part in the judgement of a TABLE_WRITE. -/
theorem judge_heard (s : Part) (rows : List Row) : judge s.heard rows = judge s rows := by
  have ht : s.heard.tab = s.tab := rfl
  simp only [judge, ht, judgeT3_heard, judgeT9_heard]

/-- A TABLE_WRITE that is refused leaves only its reply (R163, R165). -/
theorem write_refused {h : ReqHead} {segs : List Segment} {form : WriteForm} {s : State} {t : Part} {r : Reason}
    {data : List Byte} (ha : Asked h s.part) (hA : Answered (manageFrame h 0x03 (segmentsBytes segs))
      (carriedOut (.tableWrite form) s.part.heard (refuse r data)) t (replyOf h.source h.tag (refuse r data))) :
    OnlyReply (manageFrame h 0x03 (segmentsBytes segs)) s.part t (replyTo h .refused r.code data) :=
  onlyReply_of_heard ha (.inl rfl) hA

/-! ### The statement -/

/-- Settles O52: the request by its tests, and each block's completion with their composition. -/
theorem tableWriteJudged : Obligations.TableWriteJudged := by
  refine ⟨?_, changesStructure_iff, fun s rows t5 h5 => ⟨judge_refusal s rows t5 h5, fun new clamped =>
    judge_passed⟩, ?_, ?_, ?_, arbiterWrite_eq, fun _ _ _ => rfl, ?_, applyWrite_composed⟩
  · rintro h segs s ha hw hne f rfl
    obtain ⟨t, form, ht, hpend, hp, hA⟩ := tableWrite_carried ha hw hne
    refine ⟨t, ht, hpend, fun form' hp' => ?_⟩
    obtain rfl : form = form' := by
      rw [hp] at hp'
      injection hp' with _ hr
      injection hr
    refine ⟨fun r hr => write_refused ha (hA _ _ (by rw [hr]; rfl)), ?_⟩
    rintro gs rows rfl rfl
    refine ⟨fun hs => write_refused ha (hA _ _ (writeSegments_busy (s := s.part.heard) hs)), fun hs => ⟨fun r hm hr =>
      write_refused ha (hA _ _ (writeSegments_structure (s := s.part.heard) hs hm hr)), fun hm => ⟨fun r table index hv =>
        write_refused ha (hA _ _ (writeSegments_refused (s := s.part.heard) hs hm ((judge_heard ..).trans hv))),
        fun new clamped hv => ?_⟩⟩⟩
    have hW := hA _ _ (writeSegments_passed (s := s.part.heard) hs hm ((judge_heard ..).trans hv))
    exact answered_write rfl (by dsimp only; split <;> exact nofun) hW
  · rintro old s r a b l new y z rfl rfl rfl hnew hy hz
    rw [reservoirWrite_record, ← hnew]
    exact recordWritten_eq s r _ new y z rfl hy hz
  · intro old rows v x
    refine ⟨pumpsWritten old rows v x, ?_, pumpsWritten_stages .., pumpsWritten_events .., pumpsWritten_pump old rows v x,
      fun ht f => pumpsWritten_committed ht v x f, fun f p hb ho hr ha hn => pumpsWritten_left rows hb ho hr ha hn,
      fun hs => ⟨pumpsWritten_queue_same hs, fun hq e he => pumpsWritten_rescan hs hq he⟩⟩
    rw [pumpWrite_eq, stagesOf_limitEnded]
  · rintro old v x p lost hlost y z rfl rfl
    have hl := pointLost_eq hlost
    rw [lostPoints, hl, hl, hl]
  · rintro old rows v x y rfl
    exact demandWrite_eq old rows v x

end Sys2Proof.Machine
end
